-- ==== Sys2Proof/Word.lean ====
section
/-! DEFINITION. The byte and the plainest arithmetic on numbers. -/

namespace Sys2Proof

/-- One byte of a frame. -/
abbrev Byte := BitVec 8

/-- `x + d`, stopping at `top` (00_scope.md, Arithmetic: counters said to saturate). -/
def satAdd (top x d : Nat) : Nat := min top (x + d)

/-- `x` brought into `lo..hi`. -/
def clampNat (lo hi x : Nat) : Nat := max lo (min hi x)

/-- `x` brought into `lo..hi`. -/
def clampInt (lo hi x : Int) : Int := max lo (min hi x)

end Sys2Proof
end

