-- ==== Sys2Proof/Config.lean ====
section
/-! DEFINITION. What is fixed for the part: the clock's grain, the sizes the spec gives, and the one free value: where
R39 and R195 say two things of one command, which of the two the part does. -/

namespace Sys2Proof.Config

/-- Ticks of the model's clock in one second (log 1: DESIGN CHOICE). -/
def tickSecond : Nat := 96000

/-- Ticks in one millisecond. -/
def tickMs : Nat := 96

/-- Ticks in one character time: 11 bit times at 19,200 bit/s (09, section 9.1; 5 ticks a bit). -/
def tickChar : Nat := 55

/-- The relay queue holds at most this many frames (R172). -/
def relayCapacity : Nat := 4

/-- The uplink queue holds at most this many frames (R179). -/
def uplinkCapacity : Nat := 3

/-- The history ring holds at most this many records (R18). -/
def ringCapacity : Nat := 4

/-- The longest payload of a frame (R160). -/
def maxPayload : Nat := 24

/-- The frost estimate saturates here (R3). -/
def frostMax : Nat := 16777215

/-- The cap elapsed saturates here (R4). -/
def capMax : Nat := 3932100

/-- Two-byte counts saturate here. -/
def max16 : Nat := 65535

/-- Four-byte counts saturate here. -/
def max32 : Nat := 4294967295

/-- Whether a DEFROST ABORT that carries these bytes after its code, taken while Restart is pending, acts in the
ordinary way (R39) or is lost (R195). A free value: R39 and R195 say the two things and no ruling settles them (log 31:
DESIGN CHOICE, safe), so no claim rests on either. -/
opaque abortActsWhilePending : List Byte → Bool

end Sys2Proof.Config
end

