-- ==== Sys2Proof/Syntax.lean ====
section
/-! DEFINITION. The commands: one constructor for each row of spec/opcode_table.json.
`dt` is the time, in clock ticks, from the event before to this one (log 1). A row that is a timer's running out, or
the completion of a second, carries none: its moment is the timer's. -/

namespace Sys2Proof

/-- The two link ports (00_scope.md). -/
inductive Port
  | trunk
  | door
  deriving DecidableEq, Repr

/-- The four temperature channels (07). -/
inductive Chan
  | evap
  | fzair
  | tray
  | tank
  deriving DecidableEq, Repr

/-- The seven observation kinds (R147). -/
inductive ObsKind
  | fzdoor
  | ffdoor
  | compressor
  | select
  | measure
  | lock
  | fastice
  deriving DecidableEq, Repr

/-- The five gated outputs (R119). -/
inductive Gated
  | dh
  | th
  | ft
  | am
  | em
  deriving DecidableEq, Repr

/-- The operations and events of the part. -/
inductive Instr
  /-- POWER_ON: `addrSel` is the level of the ADDRSEL strap, true for high (R197). -/
  | powerOn (addrSel : Bool)
  /-- STATUS_READ and the other commands: `payload` is the request's payload (R185). -/
  | statusRead (dt : Nat) (payload : List Byte)
  | tableWrite (dt : Nat) (payload : List Byte)
  | tableRead (dt : Nat) (payload : List Byte)
  | historyRead (dt : Nat) (payload : List Byte)
  | counterRead (dt : Nat) (payload : List Byte)
  | arm (dt : Nat) (payload : List Byte)
  | disarm (dt : Nat) (payload : List Byte)
  | restart (dt : Nat) (payload : List Byte)
  | observationWrite (dt : Nat) (payload : List Byte)
  /-- UNKNOWN_COMMAND: a request of a kind that is no command (R184). -/
  | unknownCommand (dt : Nat) (kind : Byte) (payload : List Byte)
  /-- DEFROST_NOW and the other job commands: `args` are the bytes after the job code (R190). -/
  | defrostNow (dt : Nat) (args : List Byte)
  | defrostAbort (dt : Nat) (args : List Byte)
  | iceOn (dt : Nat) (args : List Byte)
  | iceOff (dt : Nat) (args : List Byte)
  | iceHarvestNow (dt : Nat) (args : List Byte)
  | faultClear (dt : Nat) (args : List Byte)
  | filterReset (dt : Nat) (args : List Byte)
  | restore (dt : Nat) (args : List Byte)
  /-- TRUNK_FRAME_RECEIVED: `check` is the check character that completes the frame in the receiver (R161). -/
  | trunkFrameReceived (dt : Nat) (check : Byte)
  | doorFrameReceived (dt : Nat) (check : Byte)
  /-- FRAME_ABANDONED_MARK: `data` is the marked character's data (R161). -/
  | frameAbandonedMark (dt : Nat) (port : Port) (data : Byte)
  /-- FRAME_ABANDONED_LONG: `data` is the length character (R161). -/
  | frameAbandonedLong (dt : Nat) (port : Port) (data : Byte)
  | frameAbandonedGap (port : Port)
  | trunkSendBegin
  | doorSendBegin
  | trunkFrameSent
  | doorFrameSent
  | driverEnableRelease (port : Port)
  | collision (dt : Nat)
  | replyWindowExpiry
  | awaitedLead (dt : Nat)
  | observationStale (kind : ObsKind)
  | defrostSecond
  | capReached
  | defermaxExpiry
  | compwaitExpiry
  | heatmaxExpiry
  | fixedheatExpiry
  | driptimeExpiry
  | fanmaxExpiry
  | iceSecond
  | retryTimerExpiry
  | changeoverEnd
  | resumeTimerExpiry
  | fillmaxExpiry
  | unmeteredVolumeReached
  | ftTrailExpiry
  | freezeholdReached
  | freezemaxExpiry
  | freezefixedExpiry
  | harvheatmaxExpiry
  | homeReadingChange (dt : Nat)
  | rakeleaveExpiry
  | rakemaxExpiry
  | binfullReadingChange (dt : Nat)
  | binwaitExpiry
  | flowPulse (dt : Nat)
  | noflowtimeExpiry
  | press (dt : Nat)
  | release (dt : Nat)
  | pourmaxExpiry
  | augermaxExpiry
  | flapholdExpiry
  | measureholdExpiry
  | agingTimerExpiry (out : Gated)
  | hmsettleExpiry
  | hmholdExpiry
  /-- SAMPLE_COMPLETION: `count` is the converted thermistor sample, 0 to 4,095 (R134). -/
  | sampleCompletion (dt : Nat) (chan : Chan) (count : BitVec 12)
  /-- CHARACTER_RECEIVED: a character with its mark bit and data ends at a port (R161). -/
  | characterReceived (dt : Nat) (port : Port) (mark : Bool) (data : Byte)
  | observationAgeSecond (kind : ObsKind)
  deriving DecidableEq, Repr

end Sys2Proof
end

