-- ==== Sys2Proof/Machine/Blocks.lean ====
section
/-! DEFINITION. The state of each block of the part, block by block, as plain data. Moments are clock readings in
ticks (log 1); a timer is `none` when stopped, else the moment at which it runs out. -/

namespace Sys2Proof.Machine

/-- The part's two modes (R183). -/
inductive Mode
  | loading
  | running
  deriving DecidableEq, Repr

/-! ### Frames, ports, relay (chapter 9) -/

/-- A whole frame (R160): lead address, kind, payload, check character. Its length is the payload's. -/
structure Frame where
  lead : Byte
  kind : Byte
  payload : List Byte
  check : Byte
  deriving DecidableEq, Repr

/-- Where a receiver stands (R161), with the characters of the frame in progress. -/
inductive Rx
  | waiting
  | atKind (lead : Byte)
  | atLength (lead kind : Byte)
  | inPayload (lead kind : Byte) (length : Nat) (got : List Byte)
  | atCheck (lead kind : Byte) (payload : List Byte)
  deriving DecidableEq, Repr

/-- What a port's driver does (R163): nothing; sends since `start`, the assertion of the driver enable; or has sent
the check at `sent`, with the driver still enabled. -/
inductive Tx
  | idle
  | sending (start : Nat)
  | trailing (sent : Nat)
  deriving DecidableEq, Repr

/-- One link port: receiver, driver, and the end of the last character on its line (R161, R163). -/
structure PortState where
  rx : Rx
  tx : Tx
  lastChar : Option Nat
  deriving DecidableEq, Repr

/-- The TRUNK counters (R180). -/
structure TrunkCounters where
  check : Nat
  gap : Nat
  long : Nat
  mark : Nat
  collision : Nat
  dropped : Nat
  unknown : Nat
  deriving DecidableEq, Repr

/-- The DOOR counters (R180). -/
structure DoorCounters where
  check : Nat
  gap : Nat
  long : Nat
  mark : Nat
  stray : Nat
  silent : Nat
  busy : Nat
  request : Nat
  deriving DecidableEq, Repr

/-- An entry of the relay queue (R171). Its entry state is `Link.entryState`. -/
structure RelayEntry where
  frame : Frame
  expectsReply : Bool
  deriving DecidableEq, Repr

/-- The relay flow state (R173). -/
inductive RelayFlow
  | flowOpen
  | flowBusy
  deriving DecidableEq, Repr

/-- The door side (R174); AWAITING carries the moment its reply window runs out. -/
inductive DoorSide
  | free
  | sending
  | awaiting (windowEnd : Nat)
  | taking
  deriving DecidableEq, Repr

/-- A frame of the uplink queue; `isRestartReply` marks the reply that Restart waits for (R194). -/
structure UplinkEntry where
  frame : Frame
  isRestartReply : Bool
  deriving DecidableEq, Repr

/-- The link ports and the relay. -/
structure Link where
  trunk : PortState
  door : PortState
  trunkCount : TrunkCounters
  doorCount : DoorCounters
  relay : List RelayEntry
  flow : RelayFlow
  doorSide : DoorSide
  uplink : List UplinkEntry
  deriving DecidableEq, Repr

/-! ### The configuration tables (R187) -/

/-- The action of a route entry (R166). -/
inductive RouteAction
  | noteOnly
  | forward
  | discard
  deriving DecidableEq, Repr

/-- A route entry (R166). `address` is `none` for the match "any". -/
structure RouteEntry where
  valid : Bool
  invert : Bool
  direction : Port
  address : Option Byte
  kindLow : Byte
  kindHigh : Byte
  action : RouteAction
  kind : Option ObsKind
  offset : Nat
  mask : Byte
  deriving DecidableEq, Repr

/-- A point of a curve (07, section 7.4). -/
structure CurvePoint where
  count : Nat
  temp : Int
  deriving DecidableEq, Repr

/-- The curve selector of a channel map entry. -/
inductive CurveSel
  | noCurve
  | curveA
  | curveB
  deriving DecidableEq, Repr

/-- A channel map entry (07, section 7.1). -/
structure ChanMapEntry where
  sel : CurveSel
  below : Nat
  above : Nat
  deriving DecidableEq, Repr

/-- The channel map, table 4. -/
structure ChanMap where
  evap : ChanMapEntry
  fzair : ChanMapEntry
  tray : ChanMapEntry
  tank : ChanMapEntry
  deriving DecidableEq, Repr

/-- A load table entry (R119). -/
structure LoadEntry where
  weight : Nat
  cls : Nat
  aging : Nat
  deriving DecidableEq, Repr

/-- The load table, table 5. -/
structure LoadTable where
  dh : LoadEntry
  th : LoadEntry
  ft : LoadEntry
  am : LoadEntry
  em : LoadEntry
  deriving DecidableEq, Repr

/-- Table 6, general parameters, in table order. -/
structure GeneralParams where
  budget : Nat
  hmsettle : Nat
  hmhold : Nat
  doorwindow : Nat
  relayhigh : Nat
  relaylow : Nat
  trunkdefault : Nat
  doordefault : Nat
  staleFzdoor : Nat
  staleFfdoor : Nat
  staleCompressor : Nat
  staleSelect : Nat
  staleMeasure : Nat
  staleLock : Nat
  staleFastice : Nat
  deriving DecidableEq, Repr

/-- Table 7, defrost parameters, in table order. -/
structure DefrostParams where
  thrstart : Nat
  thrmin : Nat
  thrmax : Nat
  runw : Nat
  doorfw : Nat
  doorrw : Nat
  targetheat : Nat
  heatmax : Nat
  termtemp : Int
  fixedheat : Nat
  driptime : Nat
  fantemp : Int
  fanmax : Nat
  compwait : Nat
  defermax : Nat
  cap : Nat
  deriving DecidableEq, Repr

/-- Table 8, ice parameters, in table order. -/
structure IceParams where
  fillvol : Nat
  fillmax : Nat
  fttrail : Nat
  icemaxair : Int
  harvtemp : Int
  freezehold : Nat
  freezemax : Nat
  freezefixed : Nat
  releasetemp : Int
  harvheatmax : Nat
  rakeleave : Nat
  rakemax : Nat
  binwait : Nat
  retries : Nat
  fillretry : Nat
  deriving DecidableEq, Repr

/-- Table 9, water and dispense parameters, in table order. -/
structure WaterParams where
  flowk : Nat
  fillrate : Nat
  coast : Nat
  changeover : Nat
  resumedelay : Nat
  noflowtime : Nat
  leakpulses : Nat
  pourmax : Nat
  augermax : Nat
  flaphold : Nat
  measurehold : Nat
  filtercap : Nat
  filterwarn : Nat
  chilltemp : Int
  pourrate : Nat
  deriving DecidableEq, Repr

/-- The nine tables (R187). The curves table is held as its two curves; the door set has one bit an address. -/
structure Tables where
  route : List RouteEntry
  doorSet : BitVec 64
  curveA : List CurvePoint
  curveB : List CurvePoint
  chanMap : ChanMap
  load : LoadTable
  general : GeneralParams
  defrost : DefrostParams
  ice : IceParams
  water : WaterParams
  deriving DecidableEq, Repr

/-! ### Observations (chapter 8) -/

/-- Freshness of an entry (R147). -/
inductive ObsState
  | never
  | fresh
  | stale
  deriving DecidableEq, Repr

/-- What made the last update (R147). -/
inductive ObsSource
  | nothing
  | route (index : Nat)
  | direct
  deriving DecidableEq, Repr

/-- An observation entry (R147). `value` is the number status page 4 reports: a flag is 0 or 1, SELECT water 0,
cubes 1, crushed 2, MEASURE 0 for none or the volume. `ageAt` is the moment the age next advances (R149). -/
structure ObsEntry where
  value : Nat
  st : ObsState
  age : Nat
  source : ObsSource
  ageAt : Nat
  deriving DecidableEq, Repr

/-- The observation table (R147). -/
structure ObsTable where
  fzdoor : ObsEntry
  ffdoor : ObsEntry
  compressor : ObsEntry
  select : ObsEntry
  measure : ObsEntry
  lock : ObsEntry
  fastice : ObsEntry
  deriving DecidableEq, Repr

/-! ### Temperature channels (chapter 7) -/

/-- What the recent samples say about the sensor (07, section 7.1). -/
inductive RangeState
  | unsettled
  | settled
  | low
  | high
  deriving DecidableEq, Repr

/-- One channel (07, section 7.1). `history` is oldest first. -/
structure Channel where
  range : RangeState
  total : Nat
  lowRun : Nat
  highRun : Nat
  inRun : Nat
  history : List Nat
  value : Option Int
  deriving DecidableEq, Repr

/-- The four channels. -/
structure Channels where
  evap : Channel
  fzair : Channel
  tray : Channel
  tank : Channel
  deriving DecidableEq, Repr

/-- What a reader of a channel finds (R138). -/
inductive ChanStatus
  | notFitted
  | noCurve
  | settling
  | ok
  | below
  | above
  deriving DecidableEq, Repr

/-! ### Defrost (chapters 1 and 2) -/

/-- Where THR came from (R5). -/
inductive ThrOrigin
  | fromDefault
  | restored
  | adapted
  deriving DecidableEq, Repr

/-- The six defrost states (02, section 2.1). -/
inductive DefrostState
  | accrue
  | due
  | hold
  | heat
  | drip
  | recover
  deriving DecidableEq, Repr

/-- Why a cycle began; `noTrigger` when no cycle is in progress (R8, R23). -/
inductive Trigger
  | noTrigger
  | estimate
  | cap
  | forced
  deriving DecidableEq, Repr

/-- How the heat of a cycle ended (01, section 1.7). -/
inductive Cause
  | noCause
  | temp
  | time
  | fixed
  | abort
  deriving DecidableEq, Repr

/-- A history record (R19). -/
structure HistoryRecord where
  seq : Nat
  trigger : Trigger
  cause : Cause
  compHeld : Bool
  startEstimate : Nat
  thrBefore : Nat
  thrAfter : Nat
  heaterOn : Nat
  cycleSeconds : Nat
  unread : Bool
  deriving DecidableEq, Repr

/-- The defrost controller (01 section 1.1, 02 section 2.1). `secondAt` is the moment the second in progress
completes while the mode is RUNNING (R2). `startedAt` is the moment the last cycle started: what tells R7's second that
falls together with a DEFROST NOW (log 40). -/
structure Defrost where
  estimate : Nat
  thr : Nat
  origin : ThrOrigin
  capElapsed : Nat
  st : DefrostState
  trigger : Trigger
  startEstimate : Nat
  heatBegun : Bool
  heaterOn : Nat
  cause : Cause
  thrBefore : Nat
  thrAfter : Nat
  cycleTime : Nat
  ring : List HistoryRecord
  nextSeq : Nat
  stateTime : Nat
  timeInDue : Nat
  compHeld : Bool
  secondAt : Nat
  startedAt : Nat
  deriving DecidableEq, Repr

/-! ### Ice maker (chapter 4) -/

/-- The sub-states of FILL (04, section 4.1). -/
inductive FillSub
  | lineWait
  | flowing
  | suspended
  deriving DecidableEq, Repr

/-- The ice states (04, section 4.1). -/
inductive IceState
  | off
  | park
  | fill (sub : FillSub)
  | freeze
  | harvestHeat
  | harvestRake
  | binfull
  | fault
  deriving DecidableEq, Repr

/-- Why the ice maker is in FAULT (04, section 4.1). -/
inductive IceCause
  | noCause
  | noflow
  | stall
  deriving DecidableEq, Repr

/-- The ice maker (04, section 4.1). `elapsed` is the fill elapsed up to the present opening of IV; while FLOWING the
part since that opening is added (`State.fillElapsed`). -/
structure Ice where
  st : IceState
  enabled : Bool
  disablePending : Bool
  trayLoaded : Bool
  opened : Bool
  elapsed : Nat
  resumeAt : Option Nat
  trailAt : Option Nat
  binwaitAt : Option Nat
  rakeleaveAt : Option Nat
  rakemaxAt : Option Nat
  faultCount : Nat
  retry : Nat
  belowtime : Nat
  freezetime : Nat
  heatTime : Nat
  rakeBegun : Bool
  leftMark : Bool
  cycles : Nat
  cause : IceCause
  secondAt : Nat
  deriving DecidableEq, Repr

/-! ### Dispenser (chapter 5) -/

/-- The dispense states (05, section 5.1). -/
inductive DispState
  | idle
  | pour
  | deliver
  | flaphold
  | lockout
  deriving DecidableEq, Repr

/-- How the part treats the present press (R102). -/
inductive PressStanding
  | noPress
  | taken
  | spent
  deriving DecidableEq, Repr

/-- The latched selection (R103). -/
inductive Selection
  | water
  | cubes
  | crushed
  deriving DecidableEq, Repr

/-- The measured-fill state (05, section 5.1). -/
inductive MeasuredState
  | inactive
  | active
  | paused
  deriving DecidableEq, Repr

/-- The dispense controller (05, section 5.1). `adReverse` is the auger direction last set, `flap` is DF. `completed`
says that the last measured fill completed with a meter and WV has not opened since: its coast is still counted in
poured (R113; log 34). -/
structure Disp where
  st : DispState
  press : PressStanding
  latched : Selection
  delivered : Bool
  pourAt : Option Nat
  augerAt : Option Nat
  flapAt : Option Nat
  measured : MeasuredState
  target : Nat
  poured : Nat
  pouredBase : Nat
  completed : Bool
  pauseAt : Option Nat
  adReverse : Bool
  flap : Bool
  deriving DecidableEq, Repr

/-! ### Water line (chapter 3) -/

/-- The two sides of the water valve. -/
inductive Valve
  | iv
  | wv
  deriving DecidableEq, Repr

/-- Who may hold the line (R45). -/
inductive Party
  | iceMaker
  | dispenser
  deriving DecidableEq, Repr

/-- The line state (R45), CHANGEOVER with the party the line is changing over to. -/
inductive LineState
  | idle
  | changeover (owner : Party)
  | fill
  | pour
  deriving DecidableEq, Repr

/-- How far the filter has run (R63). -/
inductive FilterState
  | good
  | due
  | expired
  deriving DecidableEq, Repr

/-- The water line controller (03, section 3.1). `fillOpen` and `pourOpen` are the open times up to the present
opening; the part since `openedAt` is added while the valve is open (`State.fillOpenTime`, `State.pourOpenTime`).
`resumes` records whether the fill request resumes a fill (R47). -/
structure Line where
  st : LineState
  fillWaiting : Bool
  fillSuspended : Bool
  resumes : Bool
  lastClosed : Option Valve
  closeAt : Nat
  changeoverEnd : Option Nat
  openedAt : Nat
  flowk : Nat
  fillTally : Nat
  fillOpen : Nat
  pourTally : Nat
  pourOpen : Nat
  unclaimed : Nat
  noflowAt : Option Nat
  noflowSeen : Bool
  leak : Bool
  nosupply : Bool
  filterTotal : Nat
  filterRemainder : Nat
  filterState : FilterState
  deriving DecidableEq, Repr

/-! ### Load gate (chapter 6) -/

/-- The request state of a gated output (R121). -/
inductive ReqState
  | noRequest
  | waiting
  | granted
  deriving DecidableEq, Repr

/-- Which gated outputs are GRANTED. -/
structure GrantSet where
  dh : Bool
  th : Bool
  ft : Bool
  am : Bool
  em : Bool
  deriving DecidableEq, Repr

/-- An entry of the wait list (R123, R124): its output, its effective class, the moment it reached that class, and the
moment its aging timer runs out. -/
structure WaitEntry where
  out : Gated
  cls : Nat
  since : Nat
  ageAt : Option Nat
  deriving DecidableEq, Repr

/-- The heater supply relay (R128), with the moment HMSETTLE or HMHOLD runs out. -/
inductive HmState
  | hmOpen
  | hmClosing (settleAt : Nat)
  | hmClosed
  | hmHolding (openAt : Nat)
  deriving DecidableEq, Repr

/-- The load gate (chapter 6). `load` and `budget` are those in use for the run (R120). -/
structure Gate where
  granted : GrantSet
  wait : List WaitEntry
  hm : HmState
  load : LoadTable
  budget : Nat
  deriving DecidableEq, Repr

/-- The debounced readings (R102, R86, R75). -/
structure Inputs where
  paddle : Bool
  home : Bool
  binfull : Bool
  deriving DecidableEq, Repr

end Sys2Proof.Machine
end

