-- ==== Sys2Proof/Machine/PowerOn.lean ====
section
/-! DEFINITION. The value each block takes at power-on (R23, R43, R69, R98, R118, R133, R146, R159, R182, R197). -/

namespace Sys2Proof.Machine

/-- Both ports at power-on (R182). No character has yet been on the line (log 20). -/
def PortState.powerOn : PortState := { rx := .waiting, tx := .idle, lastChar := none }

def TrunkCounters.zero : TrunkCounters :=
  { check := 0, gap := 0, long := 0, mark := 0, collision := 0, dropped := 0, unknown := 0 }

def DoorCounters.zero : DoorCounters :=
  { check := 0, gap := 0, long := 0, mark := 0, stray := 0, silent := 0, busy := 0, request := 0 }

/-- R182, power-on column. -/
def Link.powerOn : Link :=
  { trunk := .powerOn, door := .powerOn, trunkCount := .zero, doorCount := .zero,
    relay := [], flow := .flowOpen, doorSide := .free, uplink := [] }

/-- An invalid route entry (R182); its other fields are 0 (log 13: DESIGN CHOICE). -/
def RouteEntry.powerOn : RouteEntry :=
  { valid := false, invert := false, direction := .trunk, address := some 0, kindLow := 0, kindHigh := 0,
    action := .noteOnly, kind := none, offset := 0, mask := 0 }

/-- The door set without 0, 63 and the own address (R167). -/
def doorSetMembers (own : Byte) (bits : BitVec 64) : BitVec 64 :=
  bits &&& ~~~(1#64 ||| (1#64 <<< 63) ||| (1#64 <<< own.toNat))

def CurvePoint.powerOn : CurvePoint := { count := 0, temp := 0 }

def ChanMapEntry.powerOn : ChanMapEntry := { sel := .noCurve, below := 0, above := 4095 }

/-- R119, the defaults. -/
def LoadTable.powerOn : LoadTable :=
  { dh := { weight := 8, cls := 1, aging := 0 }
    th := { weight := 6, cls := 1, aging := 120 }
    ft := { weight := 1, cls := 2, aging := 60 }
    am := { weight := 3, cls := 0, aging := 0 }
    em := { weight := 2, cls := 1, aging := 30 } }

/-- R119, R128, R181, R149: the defaults. -/
def GeneralParams.powerOn : GeneralParams :=
  { budget := 12, hmsettle := 100, hmhold := 10, doorwindow := 10, relayhigh := 3, relaylow := 1,
    trunkdefault := 0, doordefault := 0, staleFzdoor := 5, staleFfdoor := 5, staleCompressor := 10,
    staleSelect := 0, staleMeasure := 0, staleLock := 0, staleFastice := 60 }

/-- R1, R26: the defaults. -/
def DefrostParams.powerOn : DefrostParams :=
  { thrstart := 1382400, thrmin := 460800, thrmax := 2764800, runw := 16, doorfw := 160, doorrw := 32,
    targetheat := 1200, heatmax := 2700, termtemp := 80, fixedheat := 1500, driptime := 300,
    fantemp := -100, fanmax := 420, compwait := 180, defermax := 900, cap := 72 }

/-- R70: the defaults. -/
def IceParams.powerOn : IceParams :=
  { fillvol := 115, fillmax := 10, fttrail := 120, icemaxair := -80, harvtemp := -120, freezehold := 600,
    freezemax := 7200, freezefixed := 5400, releasetemp := 20, harvheatmax := 240, rakeleave := 3,
    rakemax := 20, binwait := 600, retries := 2, fillretry := 300 }

/-- R44, R70, R99: the defaults. -/
def WaterParams.powerOn : WaterParams :=
  { flowk := 1380, fillrate := 250, coast := 1500, changeover := 200, resumedelay := 2, noflowtime := 5,
    leakpulses := 50, pourmax := 120, augermax := 60, flaphold := 4, measurehold := 30,
    filtercap := 1800, filterwarn := 100, chilltemp := 60, pourrate := 300 }

/-- R197: the nine tables. -/
def Tables.powerOn (own : Byte) : Tables :=
  { route := List.replicate 16 .powerOn
    doorSet := doorSetMembers own (BitVec.allOnes 64)
    curveA := List.replicate 16 .powerOn
    curveB := List.replicate 16 .powerOn
    chanMap := { evap := .powerOn, fzair := .powerOn, tray := .powerOn, tank := .powerOn }
    load := .powerOn, general := .powerOn, defrost := .powerOn, ice := .powerOn, water := .powerOn }

/-- R159: NEVER, the default value of R147 (0 for every kind), age 0, source none. -/
def ObsEntry.powerOn : ObsEntry := { value := 0, st := .never, age := 0, source := .nothing, ageAt := 0 }

def ObsTable.powerOn : ObsTable :=
  { fzdoor := .powerOn, ffdoor := .powerOn, compressor := .powerOn, select := .powerOn,
    measure := .powerOn, lock := .powerOn, fastice := .powerOn }

/-- A channel reset to UNSETTLED (07 section 7.1, R146). -/
def Channel.reset : Channel :=
  { range := .unsettled, total := 0, lowRun := 0, highRun := 0, inRun := 0, history := [], value := none }

def Channels.reset : Channels := { evap := .reset, fzair := .reset, tray := .reset, tank := .reset }

/-- R23, R43. -/
def Defrost.powerOn : Defrost :=
  { estimate := 0, thr := 1382400, origin := .fromDefault, capElapsed := 0, st := .accrue,
    trigger := .noTrigger, startEstimate := 0, heatBegun := false, heaterOn := 0, cause := .noCause,
    thrBefore := 1382400, thrAfter := 1382400, cycleTime := 0, ring := [], nextSeq := 1,
    stateTime := 0, timeInDue := 0, compHeld := false, secondAt := 0, startedAt := 0 }

/-- R98, power-on column. The fill elapsed, which R98's table leaves out, is 0 (log 33). -/
def Ice.powerOn : Ice :=
  { st := .off, enabled := true, disablePending := false, trayLoaded := true, opened := false, elapsed := 0,
    resumeAt := none, trailAt := none, binwaitAt := none, rakeleaveAt := none, rakemaxAt := none,
    faultCount := 0, retry := 0, belowtime := 0, freezetime := 0, heatTime := 0, rakeBegun := false,
    leftMark := false, cycles := 0, cause := .noCause, secondAt := 0 }

/-- R118, power-on column. -/
def Disp.powerOn : Disp :=
  { st := .idle, press := .noPress, latched := .water, delivered := false, pourAt := none, augerAt := none,
    flapAt := none, measured := .inactive, target := 0, poured := 0, pouredBase := 0, completed := false, pauseAt := none,
    adReverse := false, flap := false }

/-- R69. -/
def Line.powerOn : Line :=
  { st := .idle, fillWaiting := false, fillSuspended := false, resumes := false, lastClosed := none,
    closeAt := 0, changeoverEnd := none, openedAt := 0, flowk := 1380, fillTally := 0, fillOpen := 0,
    pourTally := 0, pourOpen := 0, unclaimed := 0, noflowAt := none, noflowSeen := false, leak := false,
    nosupply := false, filterTotal := 0, filterRemainder := 0, filterState := .good }

def GrantSet.empty : GrantSet := { dh := false, th := false, ft := false, am := false, em := false }

/-- R133, power-on column. -/
def Gate.powerOn : Gate :=
  { granted := .empty, wait := [], hm := .hmOpen, load := .powerOn, budget := GeneralParams.powerOn.budget }

/-- R98, R118: not full, home and released until an input has stood. -/
def Inputs.powerOn : Inputs := { paddle := false, home := true, binfull := false }

end Sys2Proof.Machine
end

