-- ==== Sys2Proof/Machine/State.lean ====
section
/-! DEFINITION. The state of the part, the ways a step could stop, and the state right after power-on. -/

namespace Sys2Proof.Machine

/-- The part. `pending` is the queue of commands that wait, first in, first out; `now` is the clock (log 1). -/
structure State where
  now : Nat
  mode : Mode
  restartPending : Bool
  ownAddress : Byte
  tables : Tables
  link : Link
  obs : ObsTable
  temps : Channels
  defrost : Defrost
  ice : Ice
  disp : Disp
  line : Line
  gate : Gate
  inputs : Inputs
  pending : List Instr
  deriving DecidableEq, Repr

/-- Why a step could stop with a fault. The spec names no event that stops the part (INVENTORY.md, Faults). -/
inductive Fault
  /-- Raised by no meaning of this model; kept because the type must be named. Safe: a claim about it is about nothing. -/
  | noSuchFault
  deriving DecidableEq, Repr

/-- Why a step could be refused. -/
inductive Refusal
  /-- Raised by an arm of `exec` whose row has no meaning yet; there is none. Safe: the model stops. -/
  | notModelled (mnemonic : String)
  deriving DecidableEq, Repr

/-- The state after power-on with the given ADDRSEL level (R197). -/
def State.powerOn (addrSel : Bool) : State :=
  let own : Byte := if addrSel then 49 else 48
  { now := 0, mode := .loading, restartPending := false, ownAddress := own, tables := .powerOn own,
    link := .powerOn, obs := .powerOn, temps := .reset, defrost := .powerOn, ice := .powerOn,
    disp := .powerOn, line := .powerOn, gate := .powerOn, inputs := .powerOn, pending := [] }

/-- The machine right after power-on, with ADDRSEL low (log 8: DESIGN CHOICE). -/
def State.reset : State := State.powerOn false

end Sys2Proof.Machine
end

