-- ==== Sys2Proof/Machine/Operands.lean ====
section
/-! DEFINITION. The forms of the operands: bytes and numbers, frames and their check, table entries, table access by
index. -/

namespace Sys2Proof

/-! ### The fixed groups: codes and indices -/

def ObsKind.ofCode : Nat → Option ObsKind
  | 1 => some .fzdoor
  | 2 => some .ffdoor
  | 3 => some .compressor
  | 4 => some .select
  | 5 => some .measure
  | 6 => some .lock
  | 7 => some .fastice
  | _ => none

def ObsKind.code : ObsKind → Nat
  | .fzdoor => 1
  | .ffdoor => 2
  | .compressor => 3
  | .select => 4
  | .measure => 5
  | .lock => 6
  | .fastice => 7

/-- The channel at an index of table 4 (R187). -/
def Chan.ofIndex : Nat → Chan
  | 0 => .evap
  | 1 => .fzair
  | 2 => .tray
  | _ => .tank

def Chan.all : List Chan := [.evap, .fzair, .tray, .tank]

/-- The output at an index of table 5 (R119). -/
def Gated.ofIndex : Nat → Gated
  | 0 => .dh
  | 1 => .th
  | 2 => .ft
  | 3 => .am
  | _ => .em

def Gated.all : List Gated := [.dh, .th, .ft, .am, .em]

/-- The three heaters among the gated outputs (R127). -/
def Gated.isHeater : Gated → Bool
  | .dh | .th | .ft => true
  | .am | .em => false

/-- The seven kinds in the order of their codes (R147). -/
def ObsKind.all : List ObsKind := [.fzdoor, .ffdoor, .compressor, .select, .measure, .lock, .fastice]

end Sys2Proof

namespace Sys2Proof.Machine

/-! ### Bytes and numbers: most significant byte first (00_scope.md, conventions) -/

def byteOf (n : Nat) : Byte := BitVec.ofNat 8 n

/-- The number that bytes spell, most significant first. -/
def numberOf (bs : List Byte) : Nat := bs.foldl (fun n b => n * 256 + b.toNat) 0

def bytes2 (n : Nat) : List Byte := [byteOf (n / 256), byteOf n]

def bytes3 (n : Nat) : List Byte := [byteOf (n / 65536), byteOf (n / 256), byteOf n]

/-- The two's complement of `t` in `width` values. -/
def twosComplement (width : Nat) (t : Int) : Nat := (t % (width : Int)).toNat

/-- The signed number that `n` stands for among `width` values. -/
def signedOf (width n : Nat) : Int := if n < width / 2 then (n : Int) else (n : Int) - (width : Int)

/-- A two-byte signed temperature (R199). -/
def tempBytes (t : Int) : List Byte := bytes2 (twosComplement 65536 t)

def flagByte (b : Bool) : Byte := if b then 1 else 0

/-- A number kept wider than its field, saturated at `top` (R199). -/
def saturated (top n : Nat) : Nat := min top n

/-- `n` consecutive pieces of `size` bytes. -/
def entriesOf (size : Nat) : Nat → List Byte → List (List Byte)
  | 0, _ => []
  | n + 1, bs => bs.take size :: entriesOf size n (bs.drop size)

/-! ### The frame and its check (R160, R162) -/

/-- One of the eight shifts of R162. -/
def crcShift (r : Byte) : Byte := if r.msb then (r <<< 1) ^^^ 7#8 else r <<< 1

/-- One byte taken into the check register (R162). -/
def crcByte (r b : Byte) : Byte :=
  crcShift (crcShift (crcShift (crcShift (crcShift (crcShift (crcShift (crcShift (r ^^^ b))))))))

/-- The check over the lead's address, kind, length and payload (R162). -/
def frameCheck (lead kind : Byte) (payload : List Byte) : Byte :=
  (lead :: kind :: byteOf payload.length :: payload).foldl crcByte 0xFF#8

/-- A frame with its check formed by R162. -/
def Frame.build (lead kind : Byte) (payload : List Byte) : Frame :=
  { lead := lead, kind := kind, payload := payload, check := frameCheck lead kind payload }

/-- A frame is good when the check formed over its bytes equals the one received (R162). -/
def Frame.good (f : Frame) : Bool := frameCheck f.lead f.kind f.payload = f.check

/-- Kind 80h to FFh (R160). -/
def isReplyKind (k : Byte) : Bool := 128 ≤ k.toNat

/-- The kind of the reply to a request kind (R160). -/
def replyKind (k : Byte) : Byte := k + 0x80#8

/-- A frame expects a reply when its kind is 00h to 7Eh and its lead is not 63 (R160, R165). -/
def Frame.expectsReply (f : Frame) : Bool := f.kind.toNat < 127 && f.lead ≠ 63#8

/-- A frame of length n is n + 4 characters long (R160). -/
def Frame.characters (f : Frame) : Nat := f.payload.length + 4

/-! ### Table entries (R187, R203) -/

/-- R203's codes; R170 takes FORWARD for the highest one, 2 (log 41). -/
def RouteAction.code : RouteAction → Nat
  | .noteOnly => 0
  | .forward => 1
  | .discard => 2

/-- The action of a code: R203's layout against R170's "above 2 (FORWARD)" (log 41). -/
def RouteAction.ofCode : Nat → Option RouteAction
  | 0 => some .noteOnly
  | 1 => some .forward
  | 2 => some .discard
  | _ => none

/-- A route entry from its 8 bytes, or `none` where a structural check of R170 fails. -/
def RouteEntry.ofBytes (bs : List Byte) : Option RouteEntry :=
  let b (i : Nat) : Byte := bs.getD i 0
  let dir? : Option Port :=
    if b 1 = 0#8 then some .trunk else if b 1 = 1#8 then some .door else none
  let addr? : Option (Option Byte) :=
    if b 2 = 0xFF#8 then some none else if (b 2).toNat ≤ 63 then some (some (b 2)) else none
  let kindCode := (b 5).toNat % 16
  let kind? : Option (Option ObsKind) :=
    if kindCode = 0 then some none else (ObsKind.ofCode kindCode).map some
  match dir?, addr?, RouteAction.ofCode ((b 5).toNat / 16), kind? with
  | some dir, some addr, some action, some kind =>
    if (b 3).toNat ≤ (b 4).toNat && (b 6).toNat ≤ 23 then
      some { valid := (b 0).getLsbD 0, invert := (b 0).getLsbD 1, direction := dir, address := addr,
             kindLow := b 3, kindHigh := b 4, action := action, kind := kind,
             offset := (b 6).toNat, mask := b 7 }
    else none
  | _, _, _, _ => none

/-- The 8 bytes of a route entry (R203). -/
def RouteEntry.toBytes (e : RouteEntry) : List Byte :=
  [ byteOf ((if e.valid then 1 else 0) + (if e.invert then 2 else 0)),
    (match e.direction with | .trunk => 0 | .door => 1),
    e.address.getD 0xFF#8,
    e.kindLow, e.kindHigh,
    byteOf (e.action.code * 16 + (match e.kind with | none => 0 | some k => k.code)),
    byteOf e.offset, e.mask ]

/-- The door set's entry: addresses 63 down to 56 first, 7 down to 0 last (R187). -/
def doorSetBytes (s : BitVec 64) : List Byte :=
  [7, 6, 5, 4, 3, 2, 1, 0].map (fun i => byteOf (s.toNat / 256 ^ i))

def doorSetOfBytes (bs : List Byte) : BitVec 64 := BitVec.ofNat 64 (numberOf bs)

/-- How many of 0, 63 and the own address the written set names (R188). -/
def doorSetLeftOut (own : Byte) (s : BitVec 64) : Nat :=
  (if s.getLsbD 0 then 1 else 0) + (if s.getLsbD 63 then 1 else 0) + (if s.getLsbD own.toNat then 1 else 0)

/-- A curve point as written: its count and its signed temperature, before clamping (R203). -/
def CurvePoint.rawOfBytes (bs : List Byte) : CurvePoint :=
  { count := numberOf (bs.take 2), temp := signedOf 65536 (numberOf (bs.drop 2)) }

/-- The clamping of a written point (R144). -/
def CurvePoint.clamped (p : CurvePoint) : CurvePoint :=
  { count := min 4095 p.count, temp := clampInt (-32767) 32767 p.temp }

def CurvePoint.toBytes (p : CurvePoint) : List Byte := bytes2 p.count ++ tempBytes p.temp

def CurveSel.ofCode : Nat → Option CurveSel
  | 0 => some .noCurve
  | 1 => some .curveA
  | 2 => some .curveB
  | _ => none

def CurveSel.code : CurveSel → Nat
  | .noCurve => 0
  | .curveA => 1
  | .curveB => 2

/-- A channel map entry as written, or `none` for a curve selector above 2 (R145). -/
def ChanMapEntry.rawOfBytes (bs : List Byte) : Option ChanMapEntry :=
  (CurveSel.ofCode (bs.getD 0 0).toNat).map fun sel =>
    { sel := sel, below := numberOf ((bs.drop 1).take 2), above := numberOf (bs.drop 3) }

/-- The clamping of a written entry: both limits, then the above limit raised to the below limit (R145). -/
def ChanMapEntry.clamped (e : ChanMapEntry) : ChanMapEntry :=
  { e with below := min 4095 e.below, above := max (min 4095 e.below) (min 4095 e.above) }

def ChanMapEntry.toBytes (e : ChanMapEntry) : List Byte :=
  [byteOf e.sel.code] ++ bytes2 e.below ++ bytes2 e.above

def LoadEntry.rawOfBytes (bs : List Byte) : LoadEntry :=
  { weight := (bs.getD 0 0).toNat, cls := (bs.getD 1 0).toNat, aging := (bs.getD 2 0).toNat }

/-- The clamping of a written entry (R119, R120). -/
def LoadEntry.clamped (e : LoadEntry) : LoadEntry :=
  { weight := min 15 e.weight, cls := min 2 e.cls, aging := e.aging }

def LoadEntry.toBytes (e : LoadEntry) : List Byte := [byteOf e.weight, byteOf e.cls, byteOf e.aging]

/-! ### Members of a fixed group, by name and by index -/

def ChanMap.get (m : ChanMap) : Chan → ChanMapEntry
  | .evap => m.evap
  | .fzair => m.fzair
  | .tray => m.tray
  | .tank => m.tank

def ChanMap.set (m : ChanMap) (c : Chan) (e : ChanMapEntry) : ChanMap :=
  match c with
  | .evap => { m with evap := e }
  | .fzair => { m with fzair := e }
  | .tray => { m with tray := e }
  | .tank => { m with tank := e }

def Channels.get (m : Channels) : Chan → Channel
  | .evap => m.evap
  | .fzair => m.fzair
  | .tray => m.tray
  | .tank => m.tank

def Channels.set (m : Channels) (c : Chan) (x : Channel) : Channels :=
  match c with
  | .evap => { m with evap := x }
  | .fzair => { m with fzair := x }
  | .tray => { m with tray := x }
  | .tank => { m with tank := x }

def LoadTable.get (t : LoadTable) : Gated → LoadEntry
  | .dh => t.dh
  | .th => t.th
  | .ft => t.ft
  | .am => t.am
  | .em => t.em

def LoadTable.set (t : LoadTable) (o : Gated) (e : LoadEntry) : LoadTable :=
  match o with
  | .dh => { t with dh := e }
  | .th => { t with th := e }
  | .ft => { t with ft := e }
  | .am => { t with am := e }
  | .em => { t with em := e }

def GrantSet.get (g : GrantSet) : Gated → Bool
  | .dh => g.dh
  | .th => g.th
  | .ft => g.ft
  | .am => g.am
  | .em => g.em

def GrantSet.set (g : GrantSet) (o : Gated) (v : Bool) : GrantSet :=
  match o with
  | .dh => { g with dh := v }
  | .th => { g with th := v }
  | .ft => { g with ft := v }
  | .am => { g with am := v }
  | .em => { g with em := v }

def ObsTable.get (t : ObsTable) : ObsKind → ObsEntry
  | .fzdoor => t.fzdoor
  | .ffdoor => t.ffdoor
  | .compressor => t.compressor
  | .select => t.select
  | .measure => t.measure
  | .lock => t.lock
  | .fastice => t.fastice

def ObsTable.set (t : ObsTable) (k : ObsKind) (e : ObsEntry) : ObsTable :=
  match k with
  | .fzdoor => { t with fzdoor := e }
  | .ffdoor => { t with ffdoor := e }
  | .compressor => { t with compressor := e }
  | .select => { t with select := e }
  | .measure => { t with measure := e }
  | .lock => { t with lock := e }
  | .fastice => { t with fastice := e }

/-- The stale limit of a kind (R149). -/
def GeneralParams.staleLimit (g : GeneralParams) : ObsKind → Nat
  | .fzdoor => g.staleFzdoor
  | .ffdoor => g.staleFfdoor
  | .compressor => g.staleCompressor
  | .select => g.staleSelect
  | .measure => g.staleMeasure
  | .lock => g.staleLock
  | .fastice => g.staleFastice

end Sys2Proof.Machine
end

