-- ==== Sys2Proof/Machine/Params.lean ====
section
/-! DEFINITION. The parameter tables 6 to 9: each parameter's index (R187), range (R1, R26, R44, R70, R99, R119, R128,
R149, R181), reading and storing. A parameter's number is an `Int` here, since six of them are signed. -/

namespace Sys2Proof.Machine

/-- A parameter's range; `signed` marks the asterisk of R187. -/
structure ParamRange where
  lo : Int
  hi : Int
  signed : Bool
  deriving DecidableEq, Repr

def ParamRange.plain (lo hi : Int) : ParamRange := { lo := lo, hi := hi, signed := false }

def ParamRange.temperature (lo hi : Int) : ParamRange := { lo := lo, hi := hi, signed := true }

/-- Table 6, index by index. -/
def generalRanges : List ParamRange :=
  [ .plain 1 60, .plain 50 1000, .plain 1 60, .plain 2 50, .plain 1 4, .plain 0 3, .plain 0 2, .plain 0 2,
    .plain 0 255, .plain 0 255, .plain 0 255, .plain 0 255, .plain 0 255, .plain 0 255, .plain 0 255 ]

/-- Table 7, index by index. -/
def defrostRanges : List ParamRange :=
  [ .plain 57600 8294400, .plain 57600 8294400, .plain 57600 8294400, .plain 0 255, .plain 0 255, .plain 0 255,
    .plain 300 3600, .plain 600 5400, .temperature 20 200, .plain 300 3600, .plain 0 900,
    .temperature (-300) 0, .plain 0 900, .plain 0 600, .plain 0 3600, .plain 24 168 ]

/-- Table 8, index by index. -/
def iceRanges : List ParamRange :=
  [ .plain 50 250, .plain 2 30, .plain 0 600, .temperature (-250) 0, .temperature (-200) (-50),
    .plain 60 1800, .plain 1800 14400, .plain 1800 14400, .temperature 0 100, .plain 30 600,
    .plain 1 10, .plain 5 60, .plain 60 3600, .plain 0 3, .plain 60 3600 ]

/-- Table 9, index by index. FLOWK's 0 is the special form of R66. -/
def waterRanges : List ParamRange :=
  [ .plain 300 5000, .plain 10 1000, .plain 0 3000, .plain 100 2000, .plain 1 10, .plain 2 30, .plain 1 1000,
    .plain 10 300, .plain 5 120, .plain 1 10, .plain 5 120, .plain 100 10000, .plain 0 1000,
    .temperature 0 150, .plain 10 1000 ]

def paramRanges (table : Nat) : List ParamRange :=
  match table with
  | 6 => generalRanges
  | 7 => defrostRanges
  | 8 => iceRanges
  | 9 => waterRanges
  | _ => []

def paramRange (table i : Nat) : ParamRange := (paramRanges table).getD i (.plain 0 0)

/-- The number a written entry of three bytes stands for (R187). -/
def paramOfBytes (table i : Nat) (bs : List Byte) : Int :=
  if (paramRange table i).signed then signedOf 16777216 (numberOf bs) else (numberOf bs : Int)

/-- The three bytes of a stored parameter (R187). -/
def paramBytes (v : Int) : List Byte := bytes3 (twosComplement 16777216 v)

/-- A written number brought into its parameter's range (R188 step 1); FLOWK's 0 stands (R66). -/
def paramClamp (table i : Nat) (v : Int) : Int :=
  if table = 9 ∧ i = 0 ∧ v = 0 then 0 else clampInt (paramRange table i).lo (paramRange table i).hi v

def GeneralParams.get (p : GeneralParams) : Nat → Int
  | 0 => p.budget
  | 1 => p.hmsettle
  | 2 => p.hmhold
  | 3 => p.doorwindow
  | 4 => p.relayhigh
  | 5 => p.relaylow
  | 6 => p.trunkdefault
  | 7 => p.doordefault
  | 8 => p.staleFzdoor
  | 9 => p.staleFfdoor
  | 10 => p.staleCompressor
  | 11 => p.staleSelect
  | 12 => p.staleMeasure
  | 13 => p.staleLock
  | _ => p.staleFastice

def GeneralParams.set (p : GeneralParams) (i : Nat) (v : Int) : GeneralParams :=
  match i with
  | 0 => { p with budget := v.toNat }
  | 1 => { p with hmsettle := v.toNat }
  | 2 => { p with hmhold := v.toNat }
  | 3 => { p with doorwindow := v.toNat }
  | 4 => { p with relayhigh := v.toNat }
  | 5 => { p with relaylow := v.toNat }
  | 6 => { p with trunkdefault := v.toNat }
  | 7 => { p with doordefault := v.toNat }
  | 8 => { p with staleFzdoor := v.toNat }
  | 9 => { p with staleFfdoor := v.toNat }
  | 10 => { p with staleCompressor := v.toNat }
  | 11 => { p with staleSelect := v.toNat }
  | 12 => { p with staleMeasure := v.toNat }
  | 13 => { p with staleLock := v.toNat }
  | 14 => { p with staleFastice := v.toNat }
  | _ => p

def DefrostParams.get (p : DefrostParams) : Nat → Int
  | 0 => p.thrstart
  | 1 => p.thrmin
  | 2 => p.thrmax
  | 3 => p.runw
  | 4 => p.doorfw
  | 5 => p.doorrw
  | 6 => p.targetheat
  | 7 => p.heatmax
  | 8 => p.termtemp
  | 9 => p.fixedheat
  | 10 => p.driptime
  | 11 => p.fantemp
  | 12 => p.fanmax
  | 13 => p.compwait
  | 14 => p.defermax
  | _ => p.cap

def DefrostParams.set (p : DefrostParams) (i : Nat) (v : Int) : DefrostParams :=
  match i with
  | 0 => { p with thrstart := v.toNat }
  | 1 => { p with thrmin := v.toNat }
  | 2 => { p with thrmax := v.toNat }
  | 3 => { p with runw := v.toNat }
  | 4 => { p with doorfw := v.toNat }
  | 5 => { p with doorrw := v.toNat }
  | 6 => { p with targetheat := v.toNat }
  | 7 => { p with heatmax := v.toNat }
  | 8 => { p with termtemp := v }
  | 9 => { p with fixedheat := v.toNat }
  | 10 => { p with driptime := v.toNat }
  | 11 => { p with fantemp := v }
  | 12 => { p with fanmax := v.toNat }
  | 13 => { p with compwait := v.toNat }
  | 14 => { p with defermax := v.toNat }
  | 15 => { p with cap := v.toNat }
  | _ => p

def IceParams.get (p : IceParams) : Nat → Int
  | 0 => p.fillvol
  | 1 => p.fillmax
  | 2 => p.fttrail
  | 3 => p.icemaxair
  | 4 => p.harvtemp
  | 5 => p.freezehold
  | 6 => p.freezemax
  | 7 => p.freezefixed
  | 8 => p.releasetemp
  | 9 => p.harvheatmax
  | 10 => p.rakeleave
  | 11 => p.rakemax
  | 12 => p.binwait
  | 13 => p.retries
  | _ => p.fillretry

def IceParams.set (p : IceParams) (i : Nat) (v : Int) : IceParams :=
  match i with
  | 0 => { p with fillvol := v.toNat }
  | 1 => { p with fillmax := v.toNat }
  | 2 => { p with fttrail := v.toNat }
  | 3 => { p with icemaxair := v }
  | 4 => { p with harvtemp := v }
  | 5 => { p with freezehold := v.toNat }
  | 6 => { p with freezemax := v.toNat }
  | 7 => { p with freezefixed := v.toNat }
  | 8 => { p with releasetemp := v }
  | 9 => { p with harvheatmax := v.toNat }
  | 10 => { p with rakeleave := v.toNat }
  | 11 => { p with rakemax := v.toNat }
  | 12 => { p with binwait := v.toNat }
  | 13 => { p with retries := v.toNat }
  | 14 => { p with fillretry := v.toNat }
  | _ => p

def WaterParams.get (p : WaterParams) : Nat → Int
  | 0 => p.flowk
  | 1 => p.fillrate
  | 2 => p.coast
  | 3 => p.changeover
  | 4 => p.resumedelay
  | 5 => p.noflowtime
  | 6 => p.leakpulses
  | 7 => p.pourmax
  | 8 => p.augermax
  | 9 => p.flaphold
  | 10 => p.measurehold
  | 11 => p.filtercap
  | 12 => p.filterwarn
  | 13 => p.chilltemp
  | _ => p.pourrate

def WaterParams.set (p : WaterParams) (i : Nat) (v : Int) : WaterParams :=
  match i with
  | 0 => { p with flowk := v.toNat }
  | 1 => { p with fillrate := v.toNat }
  | 2 => { p with coast := v.toNat }
  | 3 => { p with changeover := v.toNat }
  | 4 => { p with resumedelay := v.toNat }
  | 5 => { p with noflowtime := v.toNat }
  | 6 => { p with leakpulses := v.toNat }
  | 7 => { p with pourmax := v.toNat }
  | 8 => { p with augermax := v.toNat }
  | 9 => { p with flaphold := v.toNat }
  | 10 => { p with measurehold := v.toNat }
  | 11 => { p with filtercap := v.toNat }
  | 12 => { p with filterwarn := v.toNat }
  | 13 => { p with chilltemp := v }
  | 14 => { p with pourrate := v.toNat }
  | _ => p

/-- A stored parameter of table 6 to 9. -/
def Tables.param (t : Tables) (table i : Nat) : Int :=
  match table with
  | 6 => t.general.get i
  | 7 => t.defrost.get i
  | 8 => t.ice.get i
  | _ => t.water.get i

/-- Table 6 to 9 with one parameter stored. -/
def Tables.setParam (t : Tables) (table i : Nat) (v : Int) : Tables :=
  match table with
  | 6 => { t with general := t.general.set i v }
  | 7 => { t with defrost := t.defrost.set i v }
  | 8 => { t with ice := t.ice.set i v }
  | 9 => { t with water := t.water.set i v }
  | _ => t

/-- The entries of each table (R187). -/
def tableEntries : Nat → Nat
  | 1 => 16
  | 2 => 1
  | 3 => 32
  | 4 => 4
  | 5 => 5
  | 6 => 15
  | 7 => 16
  | 8 => 15
  | 9 => 15
  | _ => 0

/-- The bytes of an entry of each table (R187). -/
def entryBytes : Nat → Nat
  | 1 => 8
  | 2 => 8
  | 3 => 4
  | 4 => 5
  | _ => 3

/-- The most entries a Table Read of each table returns (R187). -/
def maxEntriesPerRead : Nat → Nat
  | 1 => 2
  | 2 => 1
  | 3 => 5
  | 4 => 4
  | 5 => 5
  | _ => 6

/-- An entry as stored, as bytes (R189). -/
def Tables.entryAt (t : Tables) (table i : Nat) : List Byte :=
  match table with
  | 1 => (t.route.getD i .powerOn).toBytes
  | 2 => doorSetBytes t.doorSet
  | 3 => ((t.curveA ++ t.curveB).getD i .powerOn).toBytes
  | 4 => (t.chanMap.get (.ofIndex i)).toBytes
  | 5 => (t.load.get (.ofIndex i)).toBytes
  | _ => paramBytes (t.param table i)

end Sys2Proof.Machine
end

