-- ==== Sys2Proof/Machine/Flags.lean ====
section
/-! DEFINITION. What other state determines at every moment: the readings of observations, channel status and
conversion, volumes, the load gate's reckoning, the fan demand, the drive lines, the attention conditions (log 9). -/

namespace Sys2Proof.Machine

/-! ### Reading an observation entry that may not be fresh (R158) -/

/-- A door flag reads open only when FRESH and true (R158). -/
def ObsEntry.readsOpen (e : ObsEntry) : Bool := e.st = .fresh && e.value ≠ 0

/-- COMPRESSOR for accrual and fan demand: NEVER and STALE read running (R158). -/
def ObsEntry.readsRunning (e : ObsEntry) : Bool := e.st ≠ .fresh || e.value ≠ 0

/-- COMPRESSOR for the end of HOLD: only FRESH and off (R30). -/
def ObsEntry.freshOff (e : ObsEntry) : Bool := e.st = .fresh && e.value = 0

/-- SELECT, MEASURE and LOCK read as the value held, the default when NEVER (R158). -/
def ObsEntry.held (e : ObsEntry) : Nat := if e.st = .never then 0 else e.value

def State.doorReadsOpen (s : State) : Bool := s.obs.fzdoor.readsOpen

def State.fastIceOn (s : State) : Bool := s.obs.fastice.readsOpen

/-- The selection SELECT reads (R103, R147). -/
def State.selection (s : State) : Selection :=
  match s.obs.select.held with
  | 1 => .cubes
  | 2 => .crushed
  | _ => .water

/-! ### Curves and channels (R137 to R142) -/

/-- The step from `p` to `q` breaks the curve: the count does not rise, or the temperature does not step in the
curve's direction (R140). -/
def stepFails (rising : Bool) (p q : CurvePoint) : Bool :=
  !(p.count < q.count && (if rising then p.temp < q.temp else q.temp < p.temp))

def firstFailingFrom (rising : Bool) (i : Nat) (p : CurvePoint) : List CurvePoint → Option Nat
  | [] => none
  | q :: qs => if stepFails rising p q then some i else firstFailingFrom rising (i + 1) q qs

/-- The first failing point of a curve, counted from the curve's own point 0; `none` for a valid curve (R140). -/
def firstFailing : List CurvePoint → Option Nat
  | p :: q :: qs => firstFailingFrom (p.temp < q.temp) 1 p (q :: qs)
  | _ => none

def curveValid (pts : List CurvePoint) : Bool := (firstFailing pts).isNone

/-- The segment walk of R141, from a point at or below the mean. -/
def convertFrom (m : Nat) (p : CurvePoint) : List CurvePoint → Int
  | [] => p.temp
  | q :: qs =>
    if m < q.count then
      p.temp + Int.tdiv ((q.temp - p.temp) * ((m : Int) - (p.count : Int))) ((q.count : Int) - (p.count : Int))
    else convertFrom m q qs

/-- The conversion of a mean through a curve (R141). -/
def convert (m : Nat) : List CurvePoint → Option Int
  | [] => none
  | p :: ps => some (if m ≤ p.count then p.temp else convertFrom m p ps)

/-- The points a selector names (R187). -/
def Tables.curve (t : Tables) : CurveSel → List CurvePoint
  | .noCurve => []
  | .curveA => t.curveA
  | .curveB => t.curveB

/-- The mean: floor of the sum of four counts over 4, none while fewer are held (R137). -/
def Channel.mean (c : Channel) : Option Nat :=
  if c.history.length = 4 then some (c.history.foldl (· + ·) 0 / 4) else none

/-- A channel's status by the first row of R138 that applies. -/
def channelStatus (t : Tables) (m : ChanMapEntry) (c : Channel) : ChanStatus :=
  if m.sel = .noCurve then .notFitted
  else if !curveValid (t.curve m.sel) then .noCurve
  else match c.range with
    | .unsettled => .settling
    | .settled => .ok
    | .low => .below
    | .high => .above

def State.status (s : State) (c : Chan) : ChanStatus :=
  channelStatus s.tables (s.tables.chanMap.get c) (s.temps.get c)

/-- The value a reader may use: only in status OK (R138, R142). -/
def State.usable (s : State) (c : Chan) : Option Int :=
  if s.status c = .ok then (s.temps.get c).value else none

/-! ### Load gate (R120, R121, R127, R128) -/

/-- The smaller of the weight and BUDGET, both as in use (R120). -/
def Gate.weightInUse (g : Gate) (o : Gated) : Nat := min (g.load.get o).weight g.budget

/-- The weight an output adds to the budget in use. -/
def Gate.share (g : Gate) (o : Gated) : Nat := if g.granted.get o then g.weightInUse o else 0

/-- The sum of the weights in use of the GRANTED outputs (R121). -/
def Gate.budgetInUse (g : Gate) : Nat :=
  g.share .dh + g.share .th + g.share .ft + g.share .am + g.share .em

def Gate.budgetFree (g : Gate) : Nat := g.budget - g.budgetInUse

/-- The request state of an output (R121). -/
def Gate.reqState (g : Gate) (o : Gated) : ReqState :=
  if g.granted.get o then .granted
  else if g.wait.any (fun w => w.out = o) then .waiting
  else .noRequest

/-- Some heater is GRANTED. -/
def Gate.heaterGranted (g : Gate) : Bool := g.granted.dh || g.granted.th || g.granted.ft

/-- A heater's drive: GRANTED with HM CLOSED (R127, R129). -/
def Gate.heaterOn (g : Gate) (o : Gated) : Bool := g.granted.get o && g.hm = .hmClosed

/-! ### Volumes and times of the water line (R54, R56) -/

/-- Whole milliseconds since the present opening (R50; log 15). -/
def State.msOpen (s : State) : Nat := (s.now - s.line.openedAt) / Config.tickMs

/-- Time IV has been open in the present or last fill. -/
def State.fillOpenTime (s : State) : Nat :=
  if s.line.st = .fill then satAdd Config.max32 s.line.fillOpen s.msOpen else s.line.fillOpen

/-- Time WV has been open in the present or last pour. -/
def State.pourOpenTime (s : State) : Nat :=
  if s.line.st = .pour then satAdd Config.max32 s.line.pourOpen s.msOpen else s.line.pourOpen

/-- The fill volume in mL (R54, R56). Without a meter the rate is the one that stands now, after a close too (log 43). -/
def State.fillVolume (s : State) : Nat :=
  if s.line.flowk = 0 then s.fillOpenTime * s.tables.water.fillrate / 10000
  else s.line.fillTally * 1000 / s.line.flowk

/-- The pour volume in mL (R54, R56). Without a meter the rate is the one that stands now, after a close too (log 43). -/
def State.pourVolume (s : State) : Nat :=
  if s.line.flowk = 0 then s.pourOpenTime * s.tables.water.pourrate / 10000
  else s.line.pourTally * 1000 / s.line.flowk

/-- The volume the measured fill has delivered (R105): without a meter it advances with the open time (log 16). -/
def State.pouredNow (s : State) : Nat :=
  if s.disp.measured ≠ .inactive && s.line.flowk = 0 && s.line.st = .pour then
    s.disp.pouredBase + s.pourVolume
  else s.disp.poured

/-- Time the present fill has spent in FLOWING, ms: it advances while IV is open (R77). -/
def State.fillElapsed (s : State) : Nat :=
  if s.line.st = .fill ∧ s.ice.st = .fill .flowing then s.ice.elapsed + s.msOpen else s.ice.elapsed

/-- The filter state for a filter total (R63). -/
def filterStateFor (w : WaterParams) (total : Nat) : FilterState :=
  let litres := total / 1000
  if w.filtercap ≤ litres then .expired
  else if w.filtercap ≤ litres + w.filterwarn then .due
  else .good

/-- The chilled flag (R65). -/
inductive Chilled
  | unknown
  | chilled
  | warm
  deriving DecidableEq, Repr

def State.chilled (s : State) : Chilled :=
  match s.usable .tank with
  | none => .unknown
  | some t => if t ≤ s.tables.water.chilltemp then .chilled else .warm

/-! ### The fan, the hold request and the drive lines -/

/-- The evaporator fan's demand (R41); EF follows it in every event (R42). -/
def State.fanOn (s : State) : Bool :=
  s.mode = .running && (s.defrost.st = .accrue || s.defrost.st = .due) && !s.doorReadsOpen &&
    (s.obs.compressor.readsRunning || (s.ice.st = .freeze && s.fastIceOn))

/-- The compressor-hold request is set exactly in HOLD, HEAT and DRIP (R36). -/
def State.compressorHold (s : State) : Bool :=
  s.defrost.st = .hold || s.defrost.st = .heat || s.defrost.st = .drip

/-- The drive lines, in the output order (00_scope.md); `true` is high. -/
structure Drives where
  dh : Bool
  th : Bool
  ft : Bool
  hm : Bool
  ef : Bool
  iv : Bool
  wv : Bool
  am : Bool
  ad : Bool
  df : Bool
  em : Bool
  deriving DecidableEq, Repr

/-- Each drive line as its owner commands it. AD's line is low in LOADING, though its direction is kept
(R117, R183, R198; log 11). -/
def State.drives (s : State) : Drives :=
  { dh := s.gate.heaterOn .dh
    th := s.gate.heaterOn .th
    ft := s.gate.heaterOn .ft
    hm := s.gate.hm ≠ .hmOpen
    ef := s.fanOn
    iv := s.line.st = .fill
    wv := s.line.st = .pour
    am := s.gate.granted.am
    ad := s.disp.adReverse && s.mode = .running
    df := s.disp.flap
    em := s.gate.granted.em }

/-- Every drive line is low. -/
def Drives.allOff : Drives :=
  { dh := false, th := false, ft := false, hm := false, ef := false, iv := false, wv := false, am := false,
    ad := false, df := false, em := false }

/-! ### The link -/

/-- The receiver is inside a frame (R161). -/
def Rx.inside (r : Rx) : Bool := r ≠ .waiting

/-- The line is quiet: no frame in progress at the receiver, the driver idle, and at least 2 character times since
the end of the last character (R163). A character begun on the line and not ended does not count (log 45). -/
def quiet (now : Nat) (p : PortState) : Bool :=
  p.rx = .waiting && p.tx = .idle &&
    (match p.lastChar with
     | none => true
     | some t => decide (t + 2 * Config.tickChar ≤ now))

/-- The entry state of the relay queue's entry at an index (R171, R174). -/
inductive RelayEntryState
  | queued
  | sending
  | awaiting
  deriving DecidableEq, Repr

/-- Only the head leaves QUEUED, with the door side (R171, R174). -/
def Link.entryState (l : Link) (i : Nat) : RelayEntryState :=
  if i = 0 then
    match l.doorSide with
    | .free => .queued
    | .sending => .sending
    | .awaiting _ | .taking => .awaiting
  else .queued

/-! ### Attention (R200) -/

def State.waterPending (s : State) : Bool := s.line.leak || s.line.nosupply

/-- R143. -/
def State.sensorPending (s : State) : Bool :=
  Chan.all.any (fun c => s.status c = .below || s.status c = .above)

/-- R89. -/
def State.iceFaultPending (s : State) : Bool := s.ice.st = .fault

/-- R22. -/
def State.recordPending (s : State) : Bool := s.defrost.ring.any (·.unread)

/-- R63. -/
def State.filterPending (s : State) : Bool := s.line.filterState ≠ .good

def TrunkCounters.values (c : TrunkCounters) : List Nat :=
  [c.check, c.gap, c.long, c.mark, c.collision, c.dropped, c.unknown]

def DoorCounters.values (c : DoorCounters) : List Nat :=
  [c.check, c.gap, c.long, c.mark, c.stray, c.silent, c.busy, c.request]

/-- R180. -/
def State.counterPending (s : State) : Bool :=
  (s.link.trunkCount.values ++ s.link.doorCount.values).any (fun n => 32768 ≤ n)

/-- The six conditions by rank (R200). -/
def State.attention (s : State) : List Bool :=
  [s.waterPending, s.sensorPending, s.iceFaultPending, s.recordPending, s.filterPending, s.counterPending]

/-- The attention set, one bit a condition (R200). -/
def attentionSet : List Bool → Nat
  | [] => 0
  | b :: bs => (if b then 1 else 0) + 2 * attentionSet bs

/-- The lowest rank that is pending, or 0 (R200). -/
def topAttention (rank : Nat) : List Bool → Nat
  | [] => 0
  | b :: bs => if b then rank else topAttention (rank + 1) bs

end Sys2Proof.Machine
end

