-- ==== Sys2Proof/Machine/Ops.lean ====
section
/-! DEFINITION. The shared operations: storing a block, the clock, the counters, the relay queue and the uplink queue. -/

namespace Sys2Proof.Machine

/-! ### Storing one block of the state -/

def State.setNow (s : State) (x : Nat) : State := { s with now := x }

def State.setMode (s : State) (x : Mode) : State := { s with mode := x }

def State.setRestartPending (s : State) (x : Bool) : State := { s with restartPending := x }

def State.setTables (s : State) (x : Tables) : State := { s with tables := x }

def State.setLink (s : State) (x : Link) : State := { s with link := x }

def State.setObs (s : State) (x : ObsTable) : State := { s with obs := x }

def State.setTemps (s : State) (x : Channels) : State := { s with temps := x }

def State.setDefrost (s : State) (x : Defrost) : State := { s with defrost := x }

def State.setIce (s : State) (x : Ice) : State := { s with ice := x }

def State.setDisp (s : State) (x : Disp) : State := { s with disp := x }

def State.setLine (s : State) (x : Line) : State := { s with line := x }

def State.setGate (s : State) (x : Gate) : State := { s with gate := x }

def State.setInputs (s : State) (x : Inputs) : State := { s with inputs := x }

def State.setPending (s : State) (x : List Instr) : State := { s with pending := x }
/-! ### The clock (log 1) -/

/-- `dt` ticks pass. -/
def State.advance (s : State) (dt : Nat) : State := s.setNow (s.now + dt)

/-- The clock comes to the moment `t`, where it is not yet there. -/
def State.reach (s : State) (t : Nat) : State := s.setNow (max s.now t)

/-- The moment `n` milliseconds from now. -/
def State.afterMs (s : State) (n : Nat) : Nat := s.now + n * Config.tickMs

/-- The moment `n` seconds from now. -/
def State.afterSeconds (s : State) (n : Nat) : Nat := s.now + n * Config.tickSecond

/-! ### Counters (R180) -/

/-- A 16-bit counter counts, saturating (R180). -/
def bump (n : Nat) : Nat := satAdd Config.max16 n 1

def Link.countCheck (l : Link) : Port → Link
  | .trunk => { l with trunkCount := { l.trunkCount with check := bump l.trunkCount.check } }
  | .door => { l with doorCount := { l.doorCount with check := bump l.doorCount.check } }

def Link.countGap (l : Link) : Port → Link
  | .trunk => { l with trunkCount := { l.trunkCount with gap := bump l.trunkCount.gap } }
  | .door => { l with doorCount := { l.doorCount with gap := bump l.doorCount.gap } }

def Link.countLong (l : Link) : Port → Link
  | .trunk => { l with trunkCount := { l.trunkCount with long := bump l.trunkCount.long } }
  | .door => { l with doorCount := { l.doorCount with long := bump l.doorCount.long } }

def Link.countMark (l : Link) : Port → Link
  | .trunk => { l with trunkCount := { l.trunkCount with mark := bump l.trunkCount.mark } }
  | .door => { l with doorCount := { l.doorCount with mark := bump l.doorCount.mark } }

def Link.countCollision (l : Link) : Link :=
  { l with trunkCount := { l.trunkCount with collision := bump l.trunkCount.collision } }

def Link.countDropped (l : Link) : Link :=
  { l with trunkCount := { l.trunkCount with dropped := bump l.trunkCount.dropped } }

def Link.countUnknown (l : Link) : Link :=
  { l with trunkCount := { l.trunkCount with unknown := bump l.trunkCount.unknown } }

def Link.countStray (l : Link) : Link :=
  { l with doorCount := { l.doorCount with stray := bump l.doorCount.stray } }

def Link.countSilent (l : Link) : Link :=
  { l with doorCount := { l.doorCount with silent := bump l.doorCount.silent } }

def Link.countBusy (l : Link) : Link :=
  { l with doorCount := { l.doorCount with busy := bump l.doorCount.busy } }

def Link.countRequest (l : Link) : Link :=
  { l with doorCount := { l.doorCount with request := bump l.doorCount.request } }

/-! ### Ports -/

def Link.port (l : Link) : Port → PortState
  | .trunk => l.trunk
  | .door => l.door

def Link.setPort (l : Link) (p : Port) (x : PortState) : Link :=
  match p with
  | .trunk => { l with trunk := x }
  | .door => { l with door := x }

/-! ### Beginning to send (R163, R175) -/

/-- TRUNK begins sending when its line is quiet and a frame waits (R163). -/
def Link.kickTrunk (now : Nat) (l : Link) : Link :=
  if quiet now l.trunk && !l.uplink.isEmpty then
    { l with trunk := { l.trunk with tx := .sending now } }
  else l

/-- DOOR begins sending when its line is quiet, the door side is FREE and a frame waits (R175). -/
def Link.kickDoor (now : Nat) (l : Link) : Link :=
  if quiet now l.door && l.doorSide = .free && !l.relay.isEmpty then
    { l with doorSide := .sending, door := { l.door with tx := .sending now } }
  else l

/-- The port begins sending, where it may (R163). -/
def Link.kick (p : Port) (now : Nat) (l : Link) : Link :=
  match p with
  | .trunk => l.kickTrunk now
  | .door => l.kickDoor now

/-! ### The uplink queue (R179) -/

def Link.uplinkFull (l : Link) : Bool := Config.uplinkCapacity ≤ l.uplink.length

/-- A frame is offered to the uplink queue: appended, or dropped with DROPPED counted (R179). -/
def Link.offerUplink (now : Nat) (f : Frame) (isRestartReply : Bool) (l : Link) : Link :=
  if l.uplinkFull then l.countDropped
  else Link.kickTrunk now { l with uplink := l.uplink ++ [{ frame := f, isRestartReply := isRestartReply }] }

/-! ### The relay queue (R172, R173) -/

/-- The reasons of a relay notice (R178). -/
def noticeSilent : Byte := 1
def noticeBusy : Byte := 2
def noticeBadFrame : Byte := 3

/-- The relay notice for an original frame (R178). -/
def relayNotice (f : Frame) (reason : Byte) : Frame := Frame.build f.lead 0xFF#8 [f.lead, f.kind, reason]

/-- The move of the flow state after an append (R173). -/
def Link.flowAfterAppend (g : GeneralParams) (l : Link) : Link :=
  if g.relayhigh ≤ l.relay.length then { l with flow := .flowBusy } else l

/-- The move of the flow state after a removal (R173). -/
def Link.flowAfterRemoval (g : GeneralParams) (l : Link) : Link :=
  if l.relay.length ≤ g.relaylow then { l with flow := .flowOpen } else l

/-- The move of the flow state at a write of RELAYHIGH or RELAYLOW (R173). -/
def Link.flowAfterWrite (g : GeneralParams) (l : Link) : Link :=
  match l.flow with
  | .flowOpen => l.flowAfterAppend g
  | .flowBusy => l.flowAfterRemoval g

/-- A forwarded TRUNK frame is offered to the relay queue (R169, R172). -/
def Link.offerRelay (g : GeneralParams) (now : Nat) (f : Frame) (l : Link) : Link :=
  if l.flow = .flowOpen ∧ l.relay.length < Config.relayCapacity then
    Link.kickDoor now
      (Link.flowAfterAppend g { l with relay := l.relay ++ [{ frame := f, expectsReply := f.expectsReply }] })
  else if f.expectsReply then Link.offerUplink now (relayNotice f noticeBusy) false l.countBusy
  else l.countBusy

/-- The head leaves the relay queue and the door side becomes FREE (R175, R176, R177). -/
def Link.freeDoor (g : GeneralParams) (now : Nat) (l : Link) : Link :=
  Link.kickDoor now (Link.flowAfterRemoval g { l with relay := l.relay.tail, doorSide := .free })

/-- The exchange ends with an answer for its request: the reply or a notice (R176, R177). -/
def Link.endExchange (g : GeneralParams) (now : Nat) (answer : Frame) (l : Link) : Link :=
  Link.freeDoor g now (Link.offerUplink now answer false l)

/-- The exchange ends with a notice for the head's request (R176, R177). -/
def Link.endWithNotice (g : GeneralParams) (now : Nat) (reason : Byte) (l : Link) : Link :=
  match l.relay with
  | [] => Link.freeDoor g now l
  | h :: _ => Link.endExchange g now (relayNotice h.frame reason) l

end Sys2Proof.Machine
end

