-- ==== Sys2Proof/Machine/Gate.lean ====
section
/-! DEFINITION. The load gate (chapter 6): requests, the wait list, the granting pass, releases, the heater supply relay.
An owner told of a grant acts in the same event (R86, R109, R125). -/

namespace Sys2Proof.Machine

/-- An entry joins the wait list after every entry whose effective class is lower or equal (R123). -/
def joinWait (e : WaitEntry) : List WaitEntry → List WaitEntry
  | [] => [e]
  | w :: ws => if w.cls ≤ e.cls then w :: joinWait e ws else e :: w :: ws

/-- The list without an output's entry; the entries behind close up (R123). -/
def leaveWait (o : Gated) (ws : List WaitEntry) : List WaitEntry := ws.filter (fun w => w.out ≠ o)

/-- AM's owner is told of the grant (R109). -/
def amGranted (s : State) : State :=
  if s.disp.st = .deliver then
    s.setDisp { s.disp with flap := true, delivered := true,
                            augerAt := some (s.afterSeconds s.tables.water.augermax) }
  else s

/-- EM's owner is told of the grant: TH is given up, EM goes on, the rake is supervised from here (R86). -/
def emGranted (s : State) : State :=
  if s.ice.st = .harvestRake then
    (s.setGate { s.gate with granted := s.gate.granted.set .th false, wait := leaveWait .th s.gate.wait }).setIce
      { s.ice with rakeBegun := true, leftMark := !s.inputs.home,
                   rakeleaveAt := some (s.afterSeconds s.tables.ice.rakeleave),
                   rakemaxAt := some (s.afterSeconds s.tables.ice.rakemax) }
  else s

/-- The owner of an output is told of its grant. A heater's owner acts when the heater goes on (R127). -/
def ownerTold (o : Gated) (s : State) : State :=
  match o with
  | .am => amGranted s
  | .em => emGranted s
  | .dh | .th | .ft => s

/-- The granting pass (R125), by at most `fuel` grants; the list's length is fuel enough, since each grant shortens
the list. A weight of 0 fits beside an output reckoned as the whole budget, by R125 against R120 (log 35). -/
def grantingPass : Nat → State → State
  | 0, s => s
  | fuel + 1, s =>
    match s.gate.wait with
    | [] => s
    | w :: ws =>
      if s.gate.weightInUse w.out ≤ s.gate.budgetFree then
        grantingPass fuel
          (ownerTold w.out (s.setGate { s.gate with granted := s.gate.granted.set w.out true, wait := ws }))
      else s

/-- HM at the end of an event that changes a heater's request state (R129, R130, R131). -/
def settledHm (s : State) : HmState :=
  match s.gate.hm, s.gate.heaterGranted with
  | .hmOpen, true => .hmClosing (s.afterMs s.tables.general.hmsettle)
  | .hmHolding _, true => .hmClosed
  | .hmClosed, false => .hmHolding (s.afterSeconds s.tables.general.hmhold)
  | hm, _ => hm

/-- DH that is on in HEAT has its heat begun (R31). -/
def markHeatBegun (s : State) : State :=
  if s.defrost.st = .heat ∧ s.gate.heaterOn .dh = true then s.setDefrost { s.defrost with heatBegun := true }
  else s

/-- HM is settled, and a heater that goes on by it is on (R129, R31). -/
def settleHm (s : State) : State := markHeatBegun (s.setGate { s.gate with hm := settledHm s })

/-- A granting pass, then HM settled at the end of it (R125, R129). -/
def passAndSettle (s : State) : State := settleHm (grantingPass s.gate.wait.length s)

/-- An owner's request for its output (R122). -/
def requestOutput (o : Gated) (s : State) : State :=
  match s.gate.reqState o with
  | .noRequest =>
    let l := s.gate.load.get o
    let e : WaitEntry :=
      { out := o, cls := l.cls, since := s.now,
        ageAt := if l.aging = 0 then none else some (s.afterSeconds l.aging) }
    passAndSettle (s.setGate { s.gate with wait := joinWait e s.gate.wait })
  | .waiting | .granted => s

/-- An owner's withdrawal or release of its output, by the state found (R126). -/
def giveUpOutput (o : Gated) (s : State) : State :=
  match s.gate.reqState o with
  | .noRequest => s
  | .waiting => passAndSettle (s.setGate { s.gate with wait := leaveWait o s.gate.wait })
  | .granted => passAndSettle (s.setGate { s.gate with granted := s.gate.granted.set o false })

/-- A waiting output's aging timer runs out: promotion to class 0 and a pass, or nothing but the timer's end where
the entry is of class 0 already (R124). -/
def promoteOutput (w : WaitEntry) (s : State) : State :=
  if w.cls = 0 then
    s.setGate { s.gate with
      wait := s.gate.wait.map (fun x => if x.out = w.out then { x with ageAt := none } else x) }
  else
    passAndSettle (s.setGate { s.gate with
      wait := joinWait { out := w.out, cls := 0, since := s.now, ageAt := none } (leaveWait w.out s.gate.wait) })

/-- Disarm or Restart empties the gate and opens HM (R133). -/
def emptyGate (s : State) : State :=
  s.setGate { s.gate with granted := .empty, wait := [], hm := .hmOpen }

/-! ### The gate's rows -/

/-- AGING_TIMER_EXPIRY (R124). -/
def execAgingTimerExpiry (out : Gated) (s : State) : Host.Outcome State Fault Refusal :=
  match s.gate.wait.find? (fun w => w.out = out) with
  | none => .next s
  | some w =>
    match w.ageAt with
    | none => .next s
    | some t => .next (promoteOutput w (s.reach t))

/-- HMSETTLE runs out: HM is CLOSED and the GRANTED heaters go on, or HOLDING where none is GRANTED (R131). -/
def hmSettled (s : State) : State := settleHm (s.setGate { s.gate with hm := .hmClosed })

/-- HMSETTLE_EXPIRY (R131). -/
def execHmsettleExpiry (s : State) : Host.Outcome State Fault Refusal :=
  match s.gate.hm with
  | .hmClosing t => .next (hmSettled (s.reach t))
  | _ => .next s

/-- HMHOLD_EXPIRY (R131). -/
def execHmholdExpiry (s : State) : Host.Outcome State Fault Refusal :=
  match s.gate.hm with
  | .hmHolding t => .next ((s.reach t).setGate { s.gate with hm := .hmOpen })
  | _ => .next s

end Sys2Proof.Machine
end

