-- ==== Sys2Proof/Machine/Water.lean ====
section
/-! DEFINITION. The water line (chapter 3): closing and opening a valve, the requests and releases of its two owners.
The ice maker is told of a grant, a suspension and a free line in the same event (R76, R78). -/

namespace Sys2Proof.Machine

/-- A new filter total; the filter state is set again where the total changes (R63; log 12). -/
def setFilterTotal (total : Nat) (s : State) : State :=
  s.setLine { s.line with
    filterTotal := total
    filterState := if total = s.line.filterTotal then s.line.filterState
                   else filterStateFor s.tables.water total }

/-- The rate of a side, in tenths of a millilitre per second (R56). -/
def WaterParams.rate (w : WaterParams) : Valve → Nat
  | .iv => w.fillrate
  | .wv => w.pourrate

/-- The estimate of the opening that ends, 0 with a meter (R62). -/
def State.openingEstimate (s : State) (v : Valve) : Nat :=
  if s.line.flowk = 0 then s.msOpen * s.tables.water.rate v / 10000 else 0

/-- The open valve closes (R46, R62). What advanced while it was open is stored: the open times, the fill elapsed
(R77), and poured (R105). -/
def closeValve (v : Valve) (s : State) : State :=
  (((setFilterTotal (satAdd Config.max32 s.line.filterTotal (s.openingEstimate v))
      (s.setLine { s.line with
        st := .idle, lastClosed := some v, closeAt := s.now,
        changeoverEnd := some (s.afterMs s.tables.water.changeover), noflowAt := none,
        fillOpen := s.fillOpenTime, pourOpen := s.pourOpenTime }))).setIce
    { s.ice with elapsed := s.fillElapsed }).setDisp { s.disp with poured := s.pouredNow }

/-- The changeover end lies ahead for the opening of a side: the other side closed last (R46). -/
def Line.mustChangeOver (l : Line) (now : Nat) (v : Valve) : Bool :=
  match l.lastClosed, l.changeoverEnd with
  | some c, some t => c ≠ v && now < t
  | _, _ => false

/-- The no-flow timer as an opening starts it (R50, R57). -/
def State.noflowStart (s : State) : Option Nat :=
  if s.tables.water.flowk = 0 then none else some (s.afterSeconds s.tables.water.noflowtime)

/-- IV opens (R50), and the ice maker is granted the line (R76). -/
def openIv (s : State) : State :=
  requestOutput .ft
    ((s.setLine { s.line with
        st := .fill, fillWaiting := false, openedAt := s.now, flowk := s.tables.water.flowk,
        fillTally := if s.line.resumes then s.line.fillTally else 0,
        fillOpen := if s.line.resumes then s.line.fillOpen else 0,
        unclaimed := 0, noflowSeen := false, noflowAt := s.noflowStart }).setIce
      { s.ice with st := .fill .flowing, opened := true, trayLoaded := true, trailAt := none })

/-- WV opens (R50), and an ACTIVE measured fill sets its poured base (R105). What coasts from now on is another
opening's (R113). -/
def openWv (s : State) : State :=
  (s.setLine { s.line with
      st := .pour, openedAt := s.now, flowk := s.tables.water.flowk, pourTally := 0, pourOpen := 0,
      unclaimed := 0, noflowSeen := false, noflowAt := s.noflowStart }).setDisp
    { s.disp with
      pouredBase := if s.disp.measured = .active then s.disp.poured else s.disp.pouredBase, completed := false }

/-- IV opens, or the line changes over to the ice maker first (R47, R51). -/
def giveLineToIce (s : State) : State :=
  if s.line.mustChangeOver s.now .iv then s.setLine { s.line with st := .changeover .iceMaker } else openIv s

/-- A fill request (R47); `resumes` says whether it resumes a suspended fill. -/
def fillRequest (resumes : Bool) (s : State) : State :=
  match s.line.st with
  | .idle => giveLineToIce (s.setLine { s.line with resumes := resumes })
  | .changeover .dispenser | .pour =>
    if s.line.fillWaiting then s else s.setLine { s.line with fillWaiting := true, resumes := resumes }
  | .changeover .iceMaker | .fill => s

/-- A pour request (R48); the fill it interrupts is suspended (R78). -/
def pourRequest (s : State) : State :=
  match s.line.st with
  | .idle =>
    if s.line.mustChangeOver s.now .wv then s.setLine { s.line with st := .changeover .dispenser }
    else openWv s
  | .changeover .iceMaker => openWv (s.setLine { s.line with fillWaiting := true })
  | .fill =>
    let s1 := closeValve .iv s
    (s1.setIce { s1.ice with st := .fill .suspended }).setLine
      { s1.line with st := .changeover .dispenser, fillSuspended := true }
  | .changeover .dispenser | .pour => s

/-- A fill release (R51). A release that ends a changeover toward the ice maker leaves no fill waiting (log 17). -/
def fillRelease (s : State) : State :=
  match s.line.st with
  | .idle => s.setLine { s.line with fillSuspended := false }
  | .changeover .iceMaker => s.setLine { s.line with st := .idle, fillWaiting := false }
  | .changeover .dispenser | .pour => s.setLine { s.line with fillWaiting := false, fillSuspended := false }
  | .fill => closeValve .iv s

/-- The line, left by the dispenser, is handed on (R51 note 1); a suspended fill is told that it is free (R78). -/
def handOn (s : State) : State :=
  if s.line.fillWaiting then giveLineToIce s
  else if s.line.fillSuspended then
    (s.setLine { s.line with fillSuspended := false }).setIce
      { s.ice with resumeAt := some (s.afterSeconds s.tables.water.resumedelay) }
  else s

/-- A pour release (R51). -/
def pourRelease (s : State) : State :=
  match s.line.st with
  | .idle | .changeover .iceMaker | .fill => s
  | .changeover .dispenser => handOn (s.setLine { s.line with st := .idle })
  | .pour => handOn (closeValve .wv s)

/-- The valve that is open closes. -/
def closeOpenValve (s : State) : State :=
  match s.line.st with
  | .fill => closeValve .iv s
  | .pour => closeValve .wv s
  | .idle | .changeover _ => s

/-- Disarm stops the line (R67). No-flow seen stands until the next opening (log 44). -/
def disarmLine (s : State) : State :=
  let s1 := closeOpenValve s
  s1.setLine { s1.line with st := .idle, fillWaiting := false, fillSuspended := false }

/-- Restart, beyond Disarm (R68). The moments kept by the model alone return to their power-on values (log 22). -/
def restartLine (s : State) : State :=
  s.setLine { Line.powerOn with
    flowk := s.tables.water.flowk, filterTotal := s.line.filterTotal,
    filterRemainder := s.line.filterRemainder, filterState := s.line.filterState }

end Sys2Proof.Machine
end

