-- ==== Sys2Proof/Machine/IceMaker.lean ====
section
/-! DEFINITION. The ice maker (chapter 4): its operations and its rows. -/

namespace Sys2Proof.Machine

def IceState.inFill : IceState → Bool
  | .fill _ => true
  | _ => false

/-! ### Entering a state -/

/-- OFF is entered (R92). -/
def enterOff (s : State) : State :=
  giveUpOutput .ft (s.setIce { s.ice with
    st := .off, disablePending := false, retry := 0, binwaitAt := none, resumeAt := none, trailAt := none,
    cause := .noCause })

/-- FAULT is entered (R89). -/
def enterFault (cause : IceCause) (s : State) : State :=
  giveUpOutput .ft (s.setIce { s.ice with
    st := .fault, cause := cause, disablePending := false, retry := 0, trailAt := none, resumeAt := none,
    binwaitAt := none })

/-- FREEZE is entered (R79, R90). -/
def enterFreeze (s : State) : State :=
  s.setIce { s.ice with st := .freeze, belowtime := 0, freezetime := 0 }

/-- BINFULL is entered (R75). -/
def enterBinfull (s : State) : State :=
  s.setIce { s.ice with st := .binfull, binwaitAt := some (s.afterSeconds s.tables.ice.binwait) }

/-- HARVEST_HEAT is entered (R84); a harvest begun from BINFULL stops its timer (R93). -/
def enterHarvestHeat (s : State) : State :=
  requestOutput .th (s.setIce { s.ice with st := .harvestHeat, heatTime := 0, binwaitAt := none })

/-- HARVEST_RAKE is entered with EM requested (R85, R90). -/
def enterRake (s : State) : State :=
  requestOutput .em (s.setIce { s.ice with st := .harvestRake, rakeBegun := false })

/-- Leaving OFF, or FAULT by FAULT CLEAR (R90). -/
def leaveOff (s : State) : State :=
  if s.inputs.home = false then enterRake s
  else if s.ice.trayLoaded then enterFreeze s
  else s.setIce { s.ice with st := .park }

/-! ### The fill -/

/-- A fill begins (R76). -/
def beginFill (s : State) : State :=
  fillRequest false (s.setIce { s.ice with st := .fill .lineWait, opened := false, elapsed := 0 })

/-- The FT trail starts, or FT is given up at once with FTTRAIL at 0 (R80). -/
def startTrail (s : State) : State :=
  if s.tables.ice.fttrail = 0 then giveUpOutput .ft s
  else s.setIce { s.ice with trailAt := some (s.afterSeconds s.tables.ice.fttrail) }

/-- The successful end of a fill (R79). -/
def fillSuccess (s : State) : State :=
  let s1 := fillRelease s
  startTrail (enterFreeze (s1.setIce { s1.ice with faultCount := 0, resumeAt := none }))

/-- A fill fault (R81). -/
def fillFault (s : State) : State :=
  let s1 := fillRelease s
  let count := satAdd 255 s.ice.faultCount 1
  if count ≤ s.tables.ice.retries then
    startTrail (s1.setIce { s1.ice with
      st := .park, faultCount := count, retry := s.tables.ice.fillretry, resumeAt := none })
  else enterFault .noflow (s1.setIce { s1.ice with faultCount := count })

/-- The volume test (R77). -/
def fillVolumeTest (s : State) : State :=
  if s.ice.st.inFill && s.ice.opened && s.tables.ice.fillvol ≤ s.fillVolume then fillSuccess s else s

/-- A fill ended by FILLMAX is judged (R77). -/
def endFillByTime (s : State) : State :=
  if s.line.flowk ≠ 0 ∧ s.fillVolume < s.tables.ice.fillvol / 4 then fillFault s else fillSuccess s

/-- The time test (R77). -/
def fillTimeTest (s : State) : State :=
  if s.ice.st.inFill && s.tables.ice.fillmax * 1000 ≤ s.fillElapsed then endFillByTime s else s

/-! ### The second (R71) -/

/-- The second completes: the retry timer is counted down (R71). -/
def iceSecondCounts (s : State) : State :=
  (s.reach s.ice.secondAt).setIce
    { s.ice with secondAt := s.ice.secondAt + Config.tickSecond, retry := s.ice.retry - 1 }

/-- FZAIR holds PARK back (R74, step 4). -/
def State.airTooWarm (s : State) : Bool :=
  match s.usable .fzair with
  | none => false
  | some t => s.tables.ice.icemaxair < t

/-- The PARK evaluation (R74). -/
def parkWork (s : State) : State :=
  if s.ice.disablePending then enterOff s
  else if s.inputs.binfull then enterBinfull s
  else if 0 < s.ice.retry then s
  else if s.airTooWarm then s
  else beginFill s

/-- The freeze counts (R82). -/
def freezeCounts (s : State) : State :=
  s.setIce { s.ice with
    freezetime := if s.defrost.st = .heat ∨ s.defrost.st = .drip then s.ice.freezetime
                  else satAdd Config.max16 s.ice.freezetime 1
    belowtime := match s.usable .tray with
                 | none => s.ice.belowtime
                 | some t => if t ≤ s.tables.ice.harvtemp then satAdd Config.max16 s.ice.belowtime 1 else 0 }

/-- The hold time (R83). -/
def State.holdTime (s : State) : Nat :=
  if s.fastIceOn then s.tables.ice.freezehold / 2 else s.tables.ice.freezehold

/-- TRAY is OK and belowtime has reached the hold time (R83). -/
def State.freezeHeld (s : State) : Bool :=
  (s.usable .tray).isSome && s.holdTime ≤ s.ice.belowtime

/-- TRAY is OK and freezetime has reached FREEZEMAX (R83). -/
def State.freezeLong (s : State) : Bool :=
  (s.usable .tray).isSome && s.tables.ice.freezemax ≤ s.ice.freezetime

/-- TRAY has no usable value and freezetime has reached FREEZEFIXED (R83). -/
def State.freezeFixed (s : State) : Bool :=
  (s.usable .tray).isNone && s.tables.ice.freezefixed ≤ s.ice.freezetime

/-- The freeze is done (R83). -/
def State.freezeDone (s : State) : Bool := s.freezeHeld || s.freezeLong || s.freezeFixed

/-- A second in FREEZE (R82, R83). -/
def freezeWork (s : State) : State :=
  let s1 := freezeCounts s
  if s1.freezeDone then enterHarvestHeat s1 else s1

/-- The heat time counts a second at which TH is on (R84). -/
def heatCount (s : State) : State := s.setIce { s.ice with heatTime := s.ice.heatTime + 1 }

/-- The tray is warm enough (R84). -/
def State.trayReleased (s : State) : Bool :=
  match s.usable .tray with
  | none => false
  | some t => s.tables.ice.releasetemp ≤ t

/-- A second in HARVEST_HEAT (R84, R85). -/
def heatWork (s : State) : State :=
  if s.gate.heaterOn .th then
    let s1 := heatCount s
    if s1.trayReleased || s1.tables.ice.harvheatmax ≤ s1.ice.heatTime then enterRake s1 else s1
  else s

/-- The work of the state at a completed second (R71). -/
def iceWork (s : State) : State :=
  match s.ice.st with
  | .park => parkWork s
  | .freeze => freezeWork s
  | .harvestHeat => heatWork s
  | .off | .fill _ | .harvestRake | .binfull | .fault => s

/-- A completed second of the ice maker (R71). -/
def iceSecond (s : State) : State := iceWork (iceSecondCounts s)

/-- A completed second whose freeze counts answer to `ended` (R83; log 3). -/
def freezeEndingSecond (ended : State → Bool) (s : State) : State :=
  if s.mode = .running ∧ s.ice.st = .freeze ∧ ended (freezeCounts (iceSecondCounts s)) = true then iceSecond s
  else s

/-! ### The rake -/

/-- The rake is over: its time is no longer measured. -/
def stopRake (s : State) : State := s.setIce { s.ice with rakeleaveAt := none, rakemaxAt := none }

/-- The rake is done (R88). -/
def rakeDone (s : State) : State :=
  let s1 := stopRake (s.setIce { s.ice with trayLoaded := false, cycles := (s.ice.cycles + 1) % 65536 })
  giveUpOutput .em (if s.ice.disablePending then enterOff s1 else s1.setIce { s1.ice with st := .park })

/-- A stall (R87, R89). -/
def stall (s : State) : State := giveUpOutput .em (enterFault .stall (stopRake s))

/-- The rake is supervised (R87). -/
def State.raking (s : State) : Bool := s.ice.st = .harvestRake && s.ice.rakeBegun

/-! ### The bin -/

/-- The dispense controller reports the end of an ice delivery (R75). -/
def deliveryReport (s : State) : State :=
  if s.ice.st = .binfull ∧ s.inputs.binfull = false then
    s.setIce { s.ice with st := .park, binwaitAt := none }
  else s

/-! ### Arm, Disarm, Restart -/

/-- Arm starts the ice maker (R96). -/
def armIce (s : State) : State :=
  let s1 := s.setIce { s.ice with secondAt := s.now + Config.tickSecond }
  if s1.ice.enabled then leaveOff s1 else s1

/-- Disarm stops the ice maker (R97). Its outputs are given up with the gate (R133). The fill elapsed, of which R97 and
R98 say nothing, is kept (log 33). -/
def disarmIce (s : State) : State :=
  s.setIce { s.ice with
    st := .off, disablePending := false, retry := 0, cause := .noCause, belowtime := 0, freezetime := 0,
    heatTime := 0, opened := false, rakeBegun := false, leftMark := false, resumeAt := none, trailAt := none,
    binwaitAt := none, rakeleaveAt := none, rakemaxAt := none }

/-- Restart, beyond Disarm: the power-on values, but for enabled and tray-loaded (R98); the fill elapsed is among them
(log 33). -/
def restartIce (s : State) : State :=
  s.setIce { Ice.powerOn with enabled := s.ice.enabled, trayLoaded := s.ice.trayLoaded }

/-! ### The rows -/

/-- ICE_SECOND (R71). -/
def execIceSecond (s : State) : Host.Outcome State Fault Refusal :=
  .next (if s.mode = .running then iceSecond s else s)

/-- RETRY_TIMER_EXPIRY: the second at which the retry timer reaches 0 (R74). -/
def execRetryTimerExpiry (s : State) : Host.Outcome State Fault Refusal :=
  .next (if s.mode = .running ∧ s.ice.retry = 1 then iceSecond s else s)

/-- FREEZEHOLD_REACHED (R83). -/
def execFreezeholdReached (s : State) : Host.Outcome State Fault Refusal :=
  .next (freezeEndingSecond State.freezeHeld s)

/-- FREEZEMAX_EXPIRY (R83). -/
def execFreezemaxExpiry (s : State) : Host.Outcome State Fault Refusal :=
  .next (freezeEndingSecond State.freezeLong s)

/-- FREEZEFIXED_EXPIRY (R83). -/
def execFreezefixedExpiry (s : State) : Host.Outcome State Fault Refusal :=
  .next (freezeEndingSecond State.freezeFixed s)

/-- HARVHEATMAX_EXPIRY: the second at which the heat time reaches HARVHEATMAX (R84). -/
def execHarvheatmaxExpiry (s : State) : Host.Outcome State Fault Refusal :=
  .next (if s.mode = .running ∧ s.ice.st = .harvestHeat ∧ s.gate.heaterOn .th = true
            ∧ s.tables.ice.harvheatmax ≤ s.ice.heatTime + 1 then iceSecond s else s)

/-- HOME_READING_CHANGE (R86, R87). -/
def execHomeReadingChange (dt : Nat) (s : State) : Host.Outcome State Fault Refusal :=
  let s1 := s.advance dt
  let s2 := s1.setInputs { s1.inputs with home := !s1.inputs.home }
  .next (
    if s2.raking then
      if s2.inputs.home then (if s2.ice.leftMark then rakeDone s2 else s2)
      else s2.setIce { s2.ice with leftMark := true }
    else s2)

/-- RAKELEAVE_EXPIRY (R87). -/
def execRakeleaveExpiry (s : State) : Host.Outcome State Fault Refusal :=
  match s.ice.rakeleaveAt with
  | none => .next s
  | some t =>
    let s1 := (s.reach t).setIce { s.ice with rakeleaveAt := none }
    .next (if s1.raking && !s1.ice.leftMark then stall s1 else s1)

/-- RAKEMAX_EXPIRY (R87). -/
def execRakemaxExpiry (s : State) : Host.Outcome State Fault Refusal :=
  match s.ice.rakemaxAt with
  | none => .next s
  | some t =>
    let s1 := (s.reach t).setIce { s.ice with rakemaxAt := none }
    .next (if s1.raking then stall s1 else s1)

/-- BINFULL_READING_CHANGE (R75). -/
def execBinfullReadingChange (dt : Nat) (s : State) : Host.Outcome State Fault Refusal :=
  let s1 := s.advance dt
  .next (s1.setInputs { s1.inputs with binfull := !s1.inputs.binfull })

/-- BINWAIT_EXPIRY (R75). -/
def execBinwaitExpiry (s : State) : Host.Outcome State Fault Refusal :=
  match s.ice.binwaitAt with
  | none => .next s
  | some t =>
    let s1 := (s.reach t).setIce { s.ice with binwaitAt := none }
    .next (
      if s1.ice.st = .binfull then
        if s1.inputs.binfull then enterBinfull s1 else s1.setIce { s1.ice with st := .park }
      else s1)

/-- FT_TRAIL_EXPIRY (R80). -/
def execFtTrailExpiry (s : State) : Host.Outcome State Fault Refusal :=
  match s.ice.trailAt with
  | none => .next s
  | some t => .next (giveUpOutput .ft ((s.reach t).setIce { s.ice with trailAt := none }))

/-- RESUME_TIMER_EXPIRY (R78). -/
def execResumeTimerExpiry (s : State) : Host.Outcome State Fault Refusal :=
  match s.ice.resumeAt with
  | none => .next s
  | some t =>
    .next (fillRequest true ((s.reach t).setIce { s.ice with st := .fill .lineWait, resumeAt := none }))

/-- FILLMAX_EXPIRY: the moment of FLOWING at which the fill elapsed reaches FILLMAX (R77). -/
def execFillmaxExpiry (s : State) : Host.Outcome State Fault Refusal :=
  .next (
    if s.ice.st = .fill .flowing then
      endFillByTime
        (s.reach (s.line.openedAt + (s.tables.ice.fillmax * 1000 - s.ice.elapsed) * Config.tickMs))
    else s)

end Sys2Proof.Machine
end

