-- ==== Sys2Proof/Machine/Dispenser.lean ====
section
/-! DEFINITION. The dispenser (chapter 5): the paddle, pours, ice deliveries, the measured fill, and its rows. -/

namespace Sys2Proof.Machine

/-! ### The measured fill -/

/-- An ACTIVE measured fill becomes PAUSED and its pause timer starts (R106, R107). -/
def pauseMeasured (s : State) : State :=
  if s.disp.measured = .active then
    s.setDisp { s.disp with measured := .paused,
                            pauseAt := some (s.afterSeconds s.tables.water.measurehold) }
  else s

/-- The measured fill is cancelled (R114). -/
def cancelMeasured (s : State) : State :=
  s.setDisp { s.disp with measured := .inactive, pauseAt := none }

/-- An accepted press for water settles the measured fill (R104). Consuming MEASURE leaves the entry's state, age and
source as they stand. -/
def settleMeasured (s : State) : State :=
  match s.disp.measured with
  | .inactive =>
    if s.obs.measure.held = 0 then s
    else
      (s.setDisp { s.disp with measured := .active, target := s.obs.measure.held, poured := 0,
                               pouredBase := 0, completed := false }).setObs
        { s.obs with measure := { s.obs.measure with value := 0 } }
  | .paused => s.setDisp { s.disp with measured := .active, pauseAt := none }
  | .active => s

/-- The completion test of a measured fill (R113). With a meter, what coasts after the close is still to come. -/
def measuredTest (s : State) : State :=
  if s.disp.target ≤ s.disp.poured then
    match s.disp.measured with
    | .active =>
      let s1 := pourRelease s
      s1.setDisp { s1.disp with
        measured := .inactive, pourAt := none, st := .lockout, press := .spent, completed := s.line.flowk ≠ 0 }
    | .paused =>
      let s1 := cancelMeasured s
      s1.setDisp { s1.disp with completed := true }
    | .inactive => s
  else s

/-- The pour volume is taken into poured: a measured fill is under way (R105), or what coasts after its completion is
counted (R113; log 34). -/
def Disp.takesPour (d : Disp) : Bool := d.measured ≠ .inactive || d.completed

/-- Poured, set again from the pour volume, and tested (R105, R113). -/
def pourVolumeChanged (s : State) : State :=
  if s.disp.takesPour then measuredTest (s.setDisp { s.disp with poured := s.disp.pouredBase + s.pourVolume })
  else s

/-! ### Pours -/

/-- A pour starts (R104). -/
def startPour (s : State) : State :=
  let s1 := settleMeasured s
  pourRequest (s1.setDisp { s1.disp with
    st := .pour, flapAt := none, flap := false, pourAt := some (s.afterSeconds s.tables.water.pourmax) })

/-- A pour ends, into the given state and press standing (R106, R107). -/
def endPour (st : DispState) (press : PressStanding) (s : State) : State :=
  let s1 := pauseMeasured (pourRelease s)
  s1.setDisp { s1.disp with st := st, press := press, pourAt := none }

/-! ### Ice deliveries -/

/-- An ice delivery starts (R108). -/
def startDelivery (s : State) : State :=
  requestOutput .am (s.setDisp { s.disp with
    st := .deliver, adReverse := s.disp.latched = .crushed, delivered := false, flapAt := none })

/-- An ice delivery ends, leaving the given press standing (R110, R111). -/
def endDelivery (press : PressStanding) (s : State) : State :=
  let s1 := giveUpOutput .am (s.setDisp { s.disp with
    st := if s.disp.flap then .flaphold else .idle
    flapAt := if s.disp.flap then some (s.afterSeconds s.tables.water.flaphold) else none
    augerAt := none, press := press })
  if s.disp.delivered then deliveryReport s1 else s1

/-- FZDOOR reads open at an update (R106, R110). -/
def doorOpened (s : State) : State :=
  match s.disp.st with
  | .pour => endPour .idle .spent s
  | .deliver => endDelivery .spent s
  | .idle | .flaphold | .lockout => s

/-! ### The press -/

/-- A press is ignored: the lock is on or the freezer door reads open (R103). -/
def State.pressIgnored (s : State) : Bool := s.obs.lock.held ≠ 0 || s.doorReadsOpen

/-- The press standing is set. -/
def setPress (p : PressStanding) (s : State) : State := s.setDisp { s.disp with press := p }

/-- An accepted press latches the selection and starts what it asks for (R103, R104, R108). -/
def acceptPress (s : State) : State :=
  let s1 := s.setDisp { s.disp with press := .taken, latched := s.selection }
  match s.selection with
  | .water => startPour s1
  | .cubes | .crushed => startDelivery s1

/-- A press is judged (R102, R103). -/
def judgePress (s : State) : State :=
  if s.mode = .running ∧ (s.disp.st = .idle ∨ s.disp.st = .flaphold) ∧ s.pressIgnored = false then
    acceptPress s
  else setPress .spent s

/-- A release (R102, R106, R107, R110). -/
def paddleReleased (s : State) : State :=
  match s.disp.st with
  | .pour => endPour .idle .noPress s
  | .deliver => endDelivery .noPress s
  | .lockout => s.setDisp { s.disp with st := .idle, press := .noPress }
  | .idle | .flaphold => setPress .noPress s

/-! ### Disarm and Restart -/

/-- Disarm stops the dispenser (R117). AM is given up with the gate (R133), the line with the line (R67). -/
def disarmDisp (s : State) : State :=
  s.setDisp { s.disp with
    st := .idle, press := if s.inputs.paddle then .spent else .noPress, pourAt := none, augerAt := none,
    flapAt := none, measured := .inactive, pauseAt := none, flap := false }

/-- Restart, beyond Disarm (R118). -/
def restartDisp (s : State) : State := s.setDisp { Disp.powerOn with press := s.disp.press }

/-! ### The rows -/

/-- PRESS (R102, R103). -/
def execPress (dt : Nat) (s : State) : Host.Outcome State Fault Refusal :=
  let s1 := s.advance dt
  .next (if s1.inputs.paddle then s1 else judgePress (s1.setInputs { s1.inputs with paddle := true }))

/-- RELEASE (R102). -/
def execRelease (dt : Nat) (s : State) : Host.Outcome State Fault Refusal :=
  let s1 := s.advance dt
  .next (if s1.inputs.paddle then paddleReleased (s1.setInputs { s1.inputs with paddle := false }) else s1)

/-- POURMAX_EXPIRY (R107). -/
def execPourmaxExpiry (s : State) : Host.Outcome State Fault Refusal :=
  match s.disp.pourAt with
  | none => .next s
  | some t => .next (endPour .lockout .spent (s.reach t))

/-- AUGERMAX_EXPIRY (R111). -/
def execAugermaxExpiry (s : State) : Host.Outcome State Fault Refusal :=
  match s.disp.augerAt with
  | none => .next s
  | some t => .next (endDelivery .spent (s.reach t))

/-- FLAPHOLD_EXPIRY (R112). -/
def execFlapholdExpiry (s : State) : Host.Outcome State Fault Refusal :=
  match s.disp.flapAt with
  | none => .next s
  | some t => .next ((s.reach t).setDisp { s.disp with flapAt := none, flap := false, st := .idle })

/-- MEASUREHOLD_EXPIRY (R114). -/
def execMeasureholdExpiry (s : State) : Host.Outcome State Fault Refusal :=
  match s.disp.pauseAt with
  | none => .next s
  | some t => .next (cancelMeasured (s.reach t))

end Sys2Proof.Machine
end

