-- ==== Sys2Proof/Machine/WaterEvents.lean ====
section
/-! DEFINITION. The rows of the water line (chapter 3). -/

namespace Sys2Proof.Machine

/-- The tally a counted pulse is credited to (R52). -/
inductive Credit
  | fill
  | pour
  | unclaimed
  deriving DecidableEq, Repr

/-- Less than COAST since the close time (R52). -/
def State.inCoast (s : State) : Bool := s.now < s.line.closeAt + s.tables.water.coast * Config.tickMs

/-- The first row of R52 that applies. -/
def State.creditOf (s : State) : Credit :=
  match s.line.st with
  | .fill => .fill
  | .pour => .pour
  | .idle | .changeover _ =>
    if s.inCoast then
      match s.line.lastClosed with
      | some .iv => .fill
      | some .wv => .pour
      | none => .unclaimed
    else .unclaimed

/-- A pulse advances the filter remainder and total (R61); the FLOWK in use is not 0. -/
def advanceFilter (s : State) : State :=
  let r := s.line.filterRemainder + 1000
  let s1 := setFilterTotal (satAdd Config.max32 s.line.filterTotal (r / s.line.flowk)) s
  s1.setLine { s1.line with filterRemainder := r % s.line.flowk }

/-- A pulse to the fill tally; at an open valve it stops the no-flow timer (R57), and the volume is tested (R77). -/
def creditFill (s : State) : State :=
  fillVolumeTest (s.setLine { s.line with
    fillTally := satAdd Config.max16 s.line.fillTally 1
    noflowAt := if s.line.st = .fill then none else s.line.noflowAt })

/-- A pulse to the pour tally (R57, R105, R113). -/
def creditPour (s : State) : State :=
  pourVolumeChanged (s.setLine { s.line with
    pourTally := satAdd Config.max16 s.line.pourTally 1
    noflowAt := if s.line.st = .pour then none else s.line.noflowAt })

/-- A pulse to the unclaimed tally, and the leak it may show (R59). -/
def creditUnclaimed (s : State) : State :=
  let n := satAdd Config.max16 s.line.unclaimed 1
  s.setLine { s.line with
    unclaimed := n
    leak := s.line.leak || (s.mode = .running && s.tables.water.leakpulses ≤ n) }

/-- A counted pulse (R52). -/
def countPulse (s : State) : State :=
  match s.creditOf with
  | .fill => creditFill (advanceFilter s)
  | .pour => creditPour (advanceFilter s)
  | .unclaimed => creditUnclaimed (advanceFilter s)

/-- FLOW_PULSE (R52): ignored while the FLOWK in use is 0. -/
def execFlowPulse (dt : Nat) (s : State) : Host.Outcome State Fault Refusal :=
  let s1 := s.advance dt
  .next (if s1.line.flowk = 0 then s1 else countPulse s1)

/-- A no-flow is handed to the owner of the open valve (R58). -/
def noflowFound (s : State) : State :=
  match s.line.st with
  | .fill => fillFault s
  | .pour =>
    let s1 := s.setLine { s.line with nosupply := true }
    if s1.disp.measured = .active then cancelMeasured s1 else s1
  | .idle | .changeover _ => s

/-- NOFLOWTIME_EXPIRY (R57). -/
def execNoflowtimeExpiry (s : State) : Host.Outcome State Fault Refusal :=
  match s.line.noflowAt with
  | none => .next s
  | some t =>
    .next (
      if s.line.noflowSeen then (s.reach t).setLine { s.line with noflowAt := none }
      else noflowFound ((s.reach t).setLine { s.line with noflowAt := none, noflowSeen := true }))

/-- CHANGEOVER_END (R49). -/
def execChangeoverEnd (s : State) : Host.Outcome State Fault Refusal :=
  match s.line.st, s.line.changeoverEnd with
  | .changeover .iceMaker, some t => .next (openIv (s.reach t))
  | .changeover .dispenser, some t => .next (openWv (s.reach t))
  | _, _ => .next s

/-- The milliseconds of open time at which an estimate reaches `volume` (R56). -/
def msForVolume (volume rate : Nat) : Nat := (volume * 10000 + rate - 1) / rate

/-- The moment at which the open time reaches `ms`, `before` of it spent before the present opening. -/
def State.momentOfOpenTime (s : State) (ms before : Nat) : Nat :=
  s.line.openedAt + (ms - before) * Config.tickMs

/-- UNMETERED_VOLUME_REACHED: the estimate reaches FILLVOL in FLOWING, or a measured fill's target (R56, R77, R113). -/
def execUnmeteredVolumeReached (s : State) : Host.Outcome State Fault Refusal :=
  let w := s.tables.water
  .next (
    if s.line.flowk ≠ 0 then s
    else match s.line.st with
      | .fill =>
        if s.ice.st = .fill .flowing then
          fillVolumeTest (s.reach (s.momentOfOpenTime (msForVolume s.tables.ice.fillvol w.fillrate) s.line.fillOpen))
        else s
      | .pour =>
        if s.disp.measured = .active then
          pourVolumeChanged (s.reach
            (s.momentOfOpenTime (msForVolume (s.disp.target - s.disp.pouredBase) w.pourrate) s.line.pourOpen))
        else s
      | .idle | .changeover _ => s)

end Sys2Proof.Machine
end

