-- ==== Sys2Proof/Machine/Defrost.lean ====
section
/-! DEFINITION. The frost estimate, the threshold and the defrost cycle (chapters 1 and 2), and their rows. -/

namespace Sys2Proof.Machine

/-! ### The threshold's adaptation (R9 to R12) -/

/-- R10; `h` is at least 1 at every termination. -/
def proportionalThr (p : DefrostParams) (thr h : Nat) : Nat :=
  clampNat p.thrmin p.thrmax (clampNat (thr * 3 / 4) (thr * 5 / 4) (thr * p.targetheat / h))

/-- R11. -/
def shortenedThr (p : DefrostParams) (thr : Nat) : Nat := max p.thrmin (thr * 3 / 4)

/-- The estimate began the cycle, or it stood at half of THR or above (R9, the rows of the case table). -/
def earnedStart (trigger : Trigger) (start thr : Nat) : Bool := trigger = .estimate || thr / 2 ≤ start

/-- The case table of R9. -/
def adaptedThr (p : DefrostParams) (trigger : Trigger) (start thr h : Nat) (cause : Cause) : Nat :=
  match cause with
  | .temp => if earnedStart trigger start thr then proportionalThr p thr h else thr
  | .time => shortenedThr p thr
  | .fixed | .abort | .noCause => thr

/-! ### The cycle's parts -/

/-- A cycle starts (R8, R27) and enters the given state. -/
def startCycle (trigger : Trigger) (st : DefrostState) (s : State) : State :=
  let d := s.defrost
  s.setDefrost { d with
    st := st, stateTime := 0, trigger := trigger, startEstimate := d.estimate, cycleTime := 0,
    heatBegun := false, heaterOn := 0, cause := .noCause, thrBefore := d.thr, thrAfter := d.thr,
    timeInDue := 0, compHeld := false, startedAt := s.now }

/-- Another state of the cycle is entered (R27). -/
def enterDefrost (st : DefrostState) (s : State) : State :=
  s.setDefrost { s.defrost with st := st, stateTime := 0 }

/-- HOLD ends: DH is requested and HEAT entered (R30). -/
def enterHeat (compHeld : Bool) (s : State) : State :=
  requestOutput .dh (s.setDefrost { s.defrost with
    st := .heat, stateTime := 0, compHeld := compHeld, heaterOn := 0, heatBegun := false })

/-- The heat terminates: the cause is stored, THR adapted, DH released, DRIP entered (R33, R9, R12). -/
def terminateHeat (cause : Cause) (s : State) : State :=
  let d := s.defrost
  let thr := adaptedThr s.tables.defrost d.trigger d.startEstimate d.thr d.heaterOn cause
  giveUpOutput .dh (s.setDefrost { d with
    st := .drip, stateTime := 0, cause := cause, thrBefore := d.thr, thr := thr, thrAfter := thr,
    origin := if thr = d.thr then d.origin else .adapted })

/-- The record of the cycle that ends (R19). -/
def Defrost.record (d : Defrost) : HistoryRecord :=
  { seq := d.nextSeq, trigger := d.trigger, cause := d.cause, compHeld := d.compHeld,
    startEstimate := d.startEstimate, thrBefore := d.thrBefore, thrAfter := d.thrAfter,
    heaterOn := d.heaterOn, cycleSeconds := d.cycleTime, unread := true }

/-- The record joins the ring at index 0 and takes the next sequence (R18, R20). -/
def Defrost.addRecord (d : Defrost) : Defrost :=
  { d with ring := (d.record :: d.ring).take Config.ringCapacity, nextSeq := (d.nextSeq + 1) % 256 }

/-- ACCRUE is entered; the trigger, the start estimate, the cause and the heat-begun mark are discarded (R13; log 10). -/
def Defrost.toAccrue (d : Defrost) : Defrost :=
  { d with st := .accrue, stateTime := 0, trigger := .noTrigger, startEstimate := 0, cause := .noCause,
           heatBegun := false }

/-- A cycle whose heat has begun ends (R13, R19). -/
def Defrost.complete (d : Defrost) : Defrost :=
  { d.addRecord.toAccrue with estimate := 0, capElapsed := 0 }

/-- A cycle is abandoned by DEFROST ABORT (R13, R37). -/
def abandonCycle (s : State) : State :=
  giveUpOutput .dh (s.setDefrost { s.defrost.toAccrue with estimate := s.defrost.thr * 3 / 4 })

/-! ### The second (R2, R27) -/

/-- The frost units of a second (R3). -/
def State.accrual (s : State) : Nat :=
  (if s.obs.compressor.readsRunning then s.tables.defrost.runw else 0) +
  (if s.obs.fzdoor.readsOpen then s.tables.defrost.doorfw else 0) +
  (if s.obs.ffdoor.readsOpen then s.tables.defrost.doorrw else 0)

/-- The counts of a completed second: E, the cap elapsed, the cycle time, the state time, the time in DUE, H
(R2, R3, R4, R27, R28, R32). -/
def defrostCounts (s : State) : State :=
  let d := s.defrost
  (s.reach d.secondAt).setDefrost { d with
    secondAt := d.secondAt + Config.tickSecond
    estimate := if d.st = .accrue ∨ d.st = .due then satAdd Config.frostMax d.estimate s.accrual else d.estimate
    capElapsed := satAdd Config.capMax d.capElapsed 1
    cycleTime := if d.st = .accrue then d.cycleTime else satAdd Config.max16 d.cycleTime 1
    stateTime := satAdd Config.max16 d.stateTime 1
    timeInDue := if d.st = .due then satAdd Config.max16 d.timeInDue 1 else d.timeInDue
    heaterOn := if d.st = .heat ∧ s.gate.heaterOn .dh = true then d.heaterOn + 1 else d.heaterOn }

/-- E has reached THR (R6). -/
def State.estimateReached (s : State) : Bool := s.defrost.thr ≤ s.defrost.estimate

/-- The cap elapsed has reached CAP hours (R6). -/
def State.capReached (s : State) : Bool := s.tables.defrost.cap * 3600 ≤ s.defrost.capElapsed

/-- The trigger test (R6). -/
def accrueTest (s : State) : State :=
  if s.estimateReached then startCycle .estimate .due s
  else if s.capReached then startCycle .cap .due s
  else s

/-- A deferral condition holds (R28). -/
def State.defers (s : State) : Bool :=
  s.doorReadsOpen || s.disp.st = .pour || s.disp.st = .deliver ||
    s.ice.st = .harvestHeat || s.ice.st = .harvestRake

/-- The time in DUE has reached DEFERMAX (R28). -/
def State.deferLong (s : State) : Bool := s.tables.defrost.defermax ≤ s.defrost.timeInDue

/-- The deferral test (R28, R29). -/
def dueTest (s : State) : State := if s.deferLong || !s.defers then enterDefrost .hold s else s

/-- The state time has reached COMPWAIT (R30). -/
def State.holdLong (s : State) : Bool := s.tables.defrost.compwait ≤ s.defrost.stateTime

/-- The compressor test (R30). -/
def holdTest (s : State) : State :=
  if s.obs.compressor.freshOff then enterHeat true s
  else if s.holdLong then enterHeat false s
  else s

/-- The termination the table of R32 finds, if any. -/
def State.heatEnds (s : State) : Option Cause :=
  match s.usable .evap with
  | some t =>
    if s.tables.defrost.termtemp ≤ t then some .temp
    else if s.tables.defrost.heatmax ≤ s.defrost.heaterOn then some .time
    else none
  | none => if s.tables.defrost.fixedheat ≤ s.defrost.heaterOn then some .fixed else none

/-- The termination test, made while DH is on (R32). -/
def heatTest (s : State) : State :=
  if s.gate.heaterOn .dh then
    match s.heatEnds with
    | some c => terminateHeat c s
    | none => s
  else s

/-- The state time has reached DRIPTIME (R34). -/
def State.dripLong (s : State) : Bool := s.tables.defrost.driptime ≤ s.defrost.stateTime

/-- The drip test (R34, R35). -/
def dripTest (s : State) : State := if s.dripLong then enterDefrost .recover s else s

/-- EVAP is OK and at or below FANTEMP (R35). -/
def State.coilCold (s : State) : Bool :=
  match s.usable .evap with
  | some t => t ≤ s.tables.defrost.fantemp
  | none => false

/-- The state time has reached FANMAX (R35). -/
def State.fanLong (s : State) : Bool := s.tables.defrost.fanmax ≤ s.defrost.stateTime

/-- The fan-delay test (R35). -/
def recoverTest (s : State) : State :=
  if s.coilCold || s.fanLong then s.setDefrost s.defrost.complete else s

/-- The test that belongs to the present state (R27). -/
def defrostTest (s : State) : State :=
  match s.defrost.st with
  | .accrue => accrueTest s
  | .due => dueTest s
  | .hold => holdTest s
  | .heat => heatTest s
  | .drip => dripTest s
  | .recover => recoverTest s

/-- The second that completes now falls together with the DEFROST NOW that was taken first and began the cycle (R7;
log 40): HOLD has counted no second, and the command was taken at the moment of this one. R7 speaks of a second whose
test would trigger; here every such second is meant, one that would not have triggered too (log 40). -/
def State.forcedTogether (s : State) : Bool :=
  s.defrost.st = .hold && s.defrost.trigger = .forced && s.defrost.stateTime = 0 &&
    s.defrost.startedAt = max s.now s.defrost.secondAt

/-- A completed second of the defrost timebase (R2, R27). Together with a DEFROST NOW taken first it tests nothing
(R7; log 40). -/
def defrostSecond (s : State) : State :=
  if s.forcedTogether then defrostCounts s else defrostTest (defrostCounts s)

/-- A completed second in the given state, with a test to make, whose counts answer to `ended` (R7; log 3). -/
def defrostEndingSecond (st : DefrostState) (ended : State → Bool) (s : State) : State :=
  if s.mode = .running ∧ s.defrost.st = st ∧ s.forcedTogether = false ∧ ended (defrostCounts s) = true then
    defrostSecond s
  else s

/-! ### Arm, Disarm, Restart -/

/-- Arm (R17). -/
def armDefrost (s : State) : State :=
  s.setDefrost { s.defrost with
    thr := if s.defrost.origin = .fromDefault then s.tables.defrost.thrstart else s.defrost.thr
    secondAt := s.now + Config.tickSecond }

/-- The heat that Disarm or Restart ends, with cause ABORT and THR unchanged (R9, R19, R38). -/
def Defrost.abortHeat (d : Defrost) : Defrost :=
  { d with cause := .abort, thrBefore := d.thr, thrAfter := d.thr }

/-- Disarm ends a cycle in progress (R13, R24, R38). DH is given up with the gate (R133). -/
def Defrost.disarmed (d : Defrost) : Defrost :=
  match d.st with
  | .accrue | .due | .hold => d.toAccrue
  | .heat => if d.heatBegun then d.abortHeat.complete else d.toAccrue
  | .drip | .recover => d.complete

def disarmDefrost (s : State) : State := s.setDefrost s.defrost.disarmed

/-- Restart, beyond Disarm, sets the start values to their power-on values (R25, R39). -/
def Defrost.restarted (d : Defrost) : Defrost :=
  { d with trigger := .noTrigger, startEstimate := 0, heatBegun := false, heaterOn := 0, cause := .noCause,
           thrBefore := 1382400, thrAfter := 1382400, cycleTime := 0, timeInDue := 0, compHeld := false }

/-- Restart in this chapter: in LOADING it sets the time in DUE alone (R25, R39; log 19). -/
def restartDefrost (wasRunning : Bool) (s : State) : State :=
  s.setDefrost (if wasRunning then s.defrost.restarted else { s.defrost with timeInDue := 0 })

/-! ### The rows -/

/-- DEFROST_SECOND (R2). -/
def execDefrostSecond (s : State) : Host.Outcome State Fault Refusal :=
  .next (if s.mode = .running then defrostSecond s else s)

/-- CAP_REACHED (R6): the trigger is ESTIMATE where both conditions hold. -/
def execCapReached (s : State) : Host.Outcome State Fault Refusal :=
  .next (defrostEndingSecond .accrue State.capReached s)

/-- DEFERMAX_EXPIRY (R28). -/
def execDefermaxExpiry (s : State) : Host.Outcome State Fault Refusal :=
  .next (defrostEndingSecond .due State.deferLong s)

/-- COMPWAIT_EXPIRY (R30): compressor-held is set where the reading is FRESH and off at the same second. -/
def execCompwaitExpiry (s : State) : Host.Outcome State Fault Refusal :=
  .next (defrostEndingSecond .hold State.holdLong s)

/-- DH is on, EVAP is OK and H has reached HEATMAX (R32). -/
def State.heatLong (s : State) : Bool :=
  s.gate.heaterOn .dh && (s.usable .evap).isSome && s.tables.defrost.heatmax ≤ s.defrost.heaterOn

/-- HEATMAX_EXPIRY (R32): the cause is TEMP where EVAP reaches TERMTEMP at the same second. -/
def execHeatmaxExpiry (s : State) : Host.Outcome State Fault Refusal :=
  .next (defrostEndingSecond .heat State.heatLong s)

/-- FIXEDHEAT_EXPIRY (R32). -/
def execFixedheatExpiry (s : State) : Host.Outcome State Fault Refusal :=
  .next (defrostEndingSecond .heat (fun t => t.gate.heaterOn .dh && t.heatEnds = some .fixed) s)

/-- DRIPTIME_EXPIRY (R34). -/
def execDriptimeExpiry (s : State) : Host.Outcome State Fault Refusal :=
  .next (defrostEndingSecond .drip State.dripLong s)

/-- FANMAX_EXPIRY (R35). -/
def execFanmaxExpiry (s : State) : Host.Outcome State Fault Refusal :=
  .next (defrostEndingSecond .recover State.fanLong s)

end Sys2Proof.Machine
end

