-- ==== Sys2Proof/Machine/Observations.lean ====
section
/-! DEFINITION. The observation table (chapter 8): decoding, updates, ages, and its rows. -/

namespace Sys2Proof.Machine

/-! ### Decoding (R152 to R155) -/

/-- R154. -/
def clampMeasure (n : Nat) : Nat := if n = 0 then 0 else clampNat 30 2000 n

/-- The position of a byte's lowest set bit, none for 0. -/
def lowestSetBit (b : Byte) : Option Nat := (List.range 8).find? (fun i => b.getLsbD i)

/-- A flag (R152). -/
def decodeFlag (e : RouteEntry) (payload : List Byte) : Option Nat :=
  payload[e.offset]?.map fun b => if decide (b &&& e.mask ≠ 0#8) != e.invert then 1 else 0

/-- SELECT (R153). -/
def decodeSelect (e : RouteEntry) (payload : List Byte) : Option Nat :=
  match payload[e.offset]?, lowestSetBit e.mask with
  | some b, some i =>
    let n := (b &&& e.mask).toNat / 2 ^ i
    if n ≤ 2 then some n else none
  | _, _ => none

/-- MEASURE (R154). -/
def decodeMeasure (e : RouteEntry) (payload : List Byte) : Option Nat :=
  match payload[e.offset]?, payload[e.offset + 1]? with
  | some hi, some lo => some (clampMeasure (numberOf [hi, lo]))
  | _, _ => none

/-- The value a route entry lifts for its kind, none for a miss (R155). -/
def decodeValue (e : RouteEntry) (payload : List Byte) : ObsKind → Option Nat
  | .select => decodeSelect e payload
  | .measure => decodeMeasure e payload
  | .fzdoor | .ffdoor | .compressor | .lock | .fastice => decodeFlag e payload

/-! ### Updates (R148, R156, R157) -/

/-- MEASURE is held while a measured fill is ACTIVE or PAUSED (R157). -/
def State.updateHeld (s : State) (k : ObsKind) : Bool := k = .measure && s.disp.measured ≠ .inactive

/-- An update of one entry (R148); the consumers act afterwards (`consumersAct`). -/
def updateObs (k : ObsKind) (value : Nat) (source : ObsSource) (s : State) : State :=
  if s.updateHeld k then s
  else s.setObs (s.obs.set k
    { value := value, st := .fresh, age := 0, source := source, ageAt := s.now + Config.tickSecond })

/-- The consumers that act on updates act once, on what the event leaves (R148): a FZDOOR that was updated and reads
open ends a pour or a delivery (R106, R110). The fan follows by `State.fanOn`. -/
def consumersAct (updated : List ObsKind) (s : State) : State :=
  if ObsKind.fzdoor ∈ updated ∧ s.doorReadsOpen = true then doorOpened s else s

/-- A route entry matches a frame received at a port (R166). -/
def RouteEntry.hits (e : RouteEntry) (p : Port) (f : Frame) : Bool :=
  e.valid && e.direction = p && (e.address = none || e.address = some f.lead) &&
    e.kindLow.toNat ≤ f.kind.toNat && f.kind.toNat ≤ e.kindHigh.toNat

/-- The decodes of a frame, in route index order from `i`: kind, value, index (R151). -/
def decodesFrom (p : Port) (f : Frame) (i : Nat) : List RouteEntry → List (ObsKind × Nat × Nat)
  | [] => []
  | e :: es =>
    match e.hits p f, e.kind with
    | true, some k =>
      match decodeValue e f.payload k with
      | some v => (k, v, i) :: decodesFrom p f (i + 1) es
      | none => decodesFrom p f (i + 1) es
    | _, _ => decodesFrom p f (i + 1) es

/-- A frame's observations are taken in one event (R151). -/
def takeObservations (p : Port) (f : Frame) (s : State) : State :=
  let ds := decodesFrom p f 0 s.tables.route
  consumersAct (ds.map (·.1)) (ds.foldl (fun t d => updateObs d.1 d.2.1 (.route d.2.2) t) s)

/-- The value an Observation Write stores, none where it is refused (R156). -/
def directValue (k : ObsKind) (n : Nat) : Option Nat :=
  match k with
  | .select => if n ≤ 2 then some n else none
  | .measure => some (clampMeasure n)
  | .fzdoor | .ffdoor | .compressor | .lock | .fastice => some (if n = 0 then 0 else 1)

/-! ### Ages (R149, R150) -/

/-- A FRESH entry whose age stands at or above a limit that is not 0 becomes STALE (R149, R150). -/
def ObsEntry.staleTest (limit : Nat) (e : ObsEntry) : ObsEntry :=
  if e.st = .fresh ∧ limit ≠ 0 ∧ limit ≤ e.age then { e with st := .stale } else e

/-- The age advances by 1 (R149). -/
def ObsEntry.older (e : ObsEntry) : ObsEntry :=
  { e with age := satAdd Config.max16 e.age 1, ageAt := e.ageAt + Config.tickSecond }

/-- A second of an entry's age (R149). -/
def ageSecond (k : ObsKind) (s : State) : State :=
  let e := s.obs.get k
  (s.reach e.ageAt).setObs (s.obs.set k (e.older.staleTest (s.tables.general.staleLimit k)))

/-- A stale limit written acts on its entry at once (R150). -/
def staleLimitWritten (k : ObsKind) (s : State) : State :=
  s.setObs (s.obs.set k ((s.obs.get k).staleTest (s.tables.general.staleLimit k)))

/-! ### The rows -/

/-- OBSERVATION_AGE_SECOND (R149): a NEVER entry has no age that advances. -/
def execObservationAgeSecond (k : ObsKind) (s : State) : Host.Outcome State Fault Refusal :=
  .next (if (s.obs.get k).st = .never then s else ageSecond k s)

/-- OBSERVATION_STALE (R149): the second at which a FRESH entry's age reaches its limit (log 3). -/
def execObservationStale (k : ObsKind) (s : State) : Host.Outcome State Fault Refusal :=
  let limit := s.tables.general.staleLimit k
  .next (if (s.obs.get k).st = .fresh ∧ limit ≠ 0 ∧ limit ≤ (s.obs.get k).older.age then ageSecond k s else s)

end Sys2Proof.Machine
end

