-- ==== Sys2Proof/Machine/Temperature.lean ====
section
/-! DEFINITION. The temperature channels (chapter 7): sampling, range state, value, and the row of a sample. -/

namespace Sys2Proof.Machine

/-- The classes of a sample (R135). -/
inductive SampleClass
  | low
  | high
  | inRange
  deriving DecidableEq, Repr

/-- R135: a count equal to a limit is in range. -/
def classify (m : ChanMapEntry) (count : Nat) : SampleClass :=
  if count < m.below then .low else if m.above < count then .high else .inRange

/-- The runs and the in-range total after a sample (R135). -/
def Channel.countRuns (c : Channel) : SampleClass → Channel
  | .low => { c with lowRun := satAdd 4 c.lowRun 1, highRun := 0, inRun := 0 }
  | .high => { c with highRun := satAdd 4 c.highRun 1, lowRun := 0, inRun := 0 }
  | .inRange => { c with inRun := satAdd 4 c.inRun 1, total := satAdd 4 c.total 1, lowRun := 0, highRun := 0 }

/-- The range state after the runs are counted (R136). -/
def Channel.nextRange (c : Channel) : RangeState :=
  if c.range ≠ .low ∧ c.lowRun = 4 then .low
  else if c.range ≠ .high ∧ c.highRun = 4 then .high
  else if c.range = .unsettled ∧ c.total = 4 then .settled
  else if (c.range = .low ∨ c.range = .high) ∧ c.inRun = 4 then .settled
  else c.range

/-- An in-range count joins the history, the oldest dropped when four are held (R137). -/
def Channel.remember (c : Channel) (count : Nat) : Channel :=
  { c with history := (if c.history.length = 4 then c.history.tail else c.history) ++ [count] }

/-- The channel after a sample, before its value is set (R135, R136, R137). -/
def Channel.sampled (m : ChanMapEntry) (count : Nat) (c : Channel) : Channel :=
  let cls := classify m count
  let c1 := c.countRuns cls
  let c2 := { c1 with range := c1.nextRange }
  if cls = .inRange then c2.remember count else c2

/-- The mean converted through the selected curve (R141). -/
def Channel.converted (t : Tables) (m : ChanMapEntry) (c : Channel) : Option Int :=
  c.mean.bind fun mean => convert mean (t.curve m.sel)

/-- The value by the status at the end of the event (R139); `held` is what BELOW and ABOVE keep. -/
def Channel.valueFor (t : Tables) (m : ChanMapEntry) (held : Option Int) (c : Channel) : Option Int :=
  match channelStatus t m c with
  | .ok => c.converted t m
  | .below | .above => held
  | .notFitted | .noCurve | .settling => none

/-- A completed sample of a channel (R134): one with no sensor fitted discards it. -/
def Channel.takeSample (t : Tables) (m : ChanMapEntry) (count : Nat) (c : Channel) : Channel :=
  if m.sel = .noCurve then c
  else
    let c1 := c.sampled m count
    { c1 with value := c1.valueFor t m c1.value }

/-- A write of the curve a channel selects: its held value is lost (R144). -/
def Channel.curveWritten (t : Tables) (m : ChanMapEntry) (c : Channel) : Channel :=
  { c with value := c.valueFor t m none }

/-- The channels that select one of the touched curves follow a curve write (R144). -/
def curvesWritten (touched : CurveSel → Bool) (s : State) : State :=
  let follow (c : Chan) (x : Channel) : Channel :=
    let m := s.tables.chanMap.get c
    if touched m.sel then x.curveWritten s.tables m else x
  s.setTemps { evap := follow .evap s.temps.evap, fzair := follow .fzair s.temps.fzair,
               tray := follow .tray s.temps.tray, tank := follow .tank s.temps.tank }

/-- A channel is reset (R145, R146). -/
def resetChannel (c : Chan) (s : State) : State := s.setTemps (s.temps.set c .reset)

/-- SAMPLE_COMPLETION (R134). -/
def execSampleCompletion (dt : Nat) (c : Chan) (count : BitVec 12) (s : State) : Host.Outcome State Fault Refusal :=
  let s1 := s.advance dt
  .next (s1.setTemps (s1.temps.set c
    ((s1.temps.get c).takeSample s1.tables (s1.tables.chanMap.get c) count.toNat)))

end Sys2Proof.Machine
end

