-- ==== Sys2Proof/Machine/Status.lean ====
section
/-! DEFINITION. What the main board reads: the status pages, the record and the counters as bytes (chapter 11). -/

namespace Sys2Proof.Machine

/-! ### Codes -/

def Mode.code : Mode → Byte
  | .loading => 0
  | .running => 1

/-- 02, section 2.1. -/
def DefrostState.code : DefrostState → Byte
  | .accrue => 0
  | .due => 1
  | .hold => 2
  | .heat => 3
  | .drip => 4
  | .recover => 5

/-- 04, section 4.1. -/
def IceState.code : IceState → Byte
  | .off => 0
  | .park => 1
  | .fill _ => 2
  | .freeze => 3
  | .harvestHeat => 4
  | .harvestRake => 5
  | .binfull => 6
  | .fault => 7

/-- 04, section 4.1: 0 outside FILL. -/
def IceState.subCode : IceState → Byte
  | .fill .lineWait => 1
  | .fill .flowing => 2
  | .fill .suspended => 3
  | _ => 0

def IceCause.code : IceCause → Byte
  | .noCause => 0
  | .noflow => 1
  | .stall => 2

/-- R100. -/
def DispState.code : DispState → Byte
  | .idle => 0
  | .pour => 1
  | .deliver => 2
  | .flaphold => 3
  | .lockout => 4

def MeasuredState.code : MeasuredState → Byte
  | .inactive => 0
  | .active => 1
  | .paused => 2

/-- R45. -/
def LineState.code : LineState → Byte
  | .idle => 0
  | .changeover _ => 1
  | .fill => 2
  | .pour => 3

def RelayFlow.code : RelayFlow → Byte
  | .flowOpen => 0
  | .flowBusy => 1

/-- R128. -/
def HmState.code : HmState → Byte
  | .hmOpen => 0
  | .hmClosing _ => 1
  | .hmClosed => 2
  | .hmHolding _ => 3

/-- R60. -/
def Line.waterCause (l : Line) : Byte :=
  byteOf ((if l.leak then 1 else 0) + (if l.nosupply then 2 else 0))

/-- R63. -/
def FilterState.code : FilterState → Byte
  | .good => 0
  | .due => 1
  | .expired => 2

/-- R65. -/
def Chilled.code : Chilled → Byte
  | .unknown => 0
  | .chilled => 1
  | .warm => 2

/-- R138. -/
def ChanStatus.code : ChanStatus → Byte
  | .notFitted => 0
  | .noCurve => 1
  | .settling => 2
  | .ok => 3
  | .below => 4
  | .above => 5

/-- R5. -/
def ThrOrigin.code : ThrOrigin → Byte
  | .fromDefault => 0
  | .restored => 1
  | .adapted => 2

/-- 01, section 1.6; 0 where no cycle has begun. -/
def Trigger.code : Trigger → Byte
  | .noTrigger => 0
  | .estimate => 1
  | .cap => 2
  | .forced => 3

/-- 01, section 1.7. -/
def Cause.code : Cause → Byte
  | .noCause => 0
  | .temp => 1
  | .time => 2
  | .fixed => 3
  | .abort => 4

/-- R147. -/
def ObsState.code : ObsState → Nat
  | .never => 0
  | .fresh => 1
  | .stale => 2

/-- R147. -/
def ObsSource.code : ObsSource → Byte
  | .nothing => 255
  | .route i => byteOf i
  | .direct => 254

/-! ### The pages -/

/-- Eight flags as a byte, the first in bit 7. -/
def bitsByte (bs : List Bool) : Byte := byteOf (bs.foldl (fun n b => n * 2 + (if b then 1 else 0)) 0)

/-- The output bitmap (R198, R203). -/
def Drives.bytes (d : Drives) : List Byte :=
  [ bitsByte [d.dh, d.th, d.ft, d.hm, d.ef, d.iv, d.wv, d.am],
    bitsByte [d.ad, d.df, d.em, false, false, false, false, false] ]

/-- Page 0 after the page number (R198). -/
def page0 (s : State) : List Byte :=
  [ s.mode.code, byteOf (topAttention 1 s.attention), byteOf (attentionSet s.attention),
    s.defrost.st.code, flagByte s.compressorHold, s.ice.st.code, s.ice.st.subCode, s.disp.st.code,
    s.line.st.code, s.link.flow.code ] ++ s.drives.bytes ++ [s.line.waterCause, s.gate.hm.code]

/-- The reported value of a channel: −32,768 for none (R138). -/
def channelBytes (s : State) (c : Chan) : List Byte :=
  (s.status c).code :: tempBytes ((s.temps.get c).value.getD (-32768))

/-- Page 1 after the page number (R199). -/
def page1 (s : State) : List Byte := Chan.all.flatMap (channelBytes s)

/-- How many held records are unread (R22). -/
def Defrost.unreadCount (d : Defrost) : Nat := (d.ring.filter (·.unread)).length

/-- The sequence number of the newest record, 0 for an empty ring (R20). -/
def Defrost.newestSeq (d : Defrost) : Nat :=
  match d.ring with
  | [] => 0
  | r :: _ => r.seq

/-- Page 2 after the page number (R199). -/
def page2 (s : State) : List Byte :=
  let d := s.defrost
  bytes3 d.estimate ++ bytes3 d.thr ++ [d.origin.code] ++ bytes2 (saturated Config.max16 (d.capElapsed / 60)) ++
    bytes2 d.stateTime ++ bytes2 (saturated Config.max16 d.heaterOn) ++ bytes2 d.timeInDue ++
    [byteOf d.unreadCount, byteOf d.newestSeq]

/-- Page 3 after the page number (R199). -/
def page3 (s : State) : List Byte :=
  bytes3 (saturated 16777215 (s.line.filterTotal / 1000)) ++ [s.line.filterState.code, s.chilled.code] ++
    bytes2 (saturated Config.max16 s.pourVolume) ++ [s.disp.measured.code] ++
    bytes2 (saturated Config.max16 s.disp.target) ++ bytes2 (saturated Config.max16 s.pouredNow) ++
    bytes2 (saturated Config.max16 s.fillVolume) ++ bytes2 s.ice.cycles ++
    [byteOf s.ice.faultCount, s.ice.cause.code]

/-- The state codes of the seven entries in two bits each, FZDOOR in bits 13 and 12 (R199). -/
def ObsTable.stateBits (t : ObsTable) : Nat := ObsKind.all.foldl (fun n k => n * 4 + (t.get k).st.code) 0

/-- The flags and SELECT of page 4 (R199). -/
def ObsTable.flagBits (t : ObsTable) : Nat :=
  let bit (e : ObsEntry) (w : Nat) : Nat := if e.value = 0 then 0 else w
  bit t.fzdoor 1 + bit t.ffdoor 2 + bit t.compressor 4 + bit t.lock 8 + bit t.fastice 16 + t.select.value * 32

/-- Page 4 after the page number (R199). -/
def page4 (s : State) : List Byte :=
  bytes2 s.obs.stateBits ++ [byteOf s.obs.flagBits] ++ bytes2 s.obs.measure.value ++
    ObsKind.all.map (fun k => byteOf (saturated 255 (s.obs.get k).age)) ++
    ObsKind.all.map (fun k => (s.obs.get k).source.code)

/-- A page's contents, none above page 4 (R186). -/
def pageBytes (s : State) : Nat → Option (List Byte)
  | 0 => some (page0 s)
  | 1 => some (page1 s)
  | 2 => some (page2 s)
  | 3 => some (page3 s)
  | 4 => some (page4 s)
  | _ => none

/-! ### Record and counters -/

/-- A history record (R203). -/
def HistoryRecord.bytes (r : HistoryRecord) : List Byte :=
  [ byteOf r.seq, r.trigger.code, r.cause.code,
    byteOf ((if r.compHeld then 1 else 0) + (if r.unread then 2 else 0)) ] ++
    bytes3 r.startEstimate ++ bytes3 r.thrBefore ++ bytes3 r.thrAfter ++ bytes2 r.heaterOn ++ bytes2 r.cycleSeconds

/-- A port's counters, in the order of R180's table (R202). -/
def Link.counterValues (l : Link) : Port → List Nat
  | .trunk => l.trunkCount.values
  | .door => l.doorCount.values

/-- A port's counters set to 0 (R180). -/
def Link.clearCounters (l : Link) : Port → Link
  | .trunk => { l with trunkCount := .zero }
  | .door => { l with doorCount := .zero }

end Sys2Proof.Machine
end

