-- ==== Sys2Proof/Machine/Modes.lean ====
section
/-! DEFINITION. Arm, Disarm and the effect of Restart (10, sections 10.5 and 10.6). -/

namespace Sys2Proof.Machine

/-- The first curve in use that is invalid: the point index Arm reports (R192, R140). -/
def curveFault (t : Tables) : List Chan → Option Nat
  | [] => none
  | c :: cs =>
    match (t.chanMap.get c).sel with
    | .noCurve => curveFault t cs
    | .curveA => (firstFailing t.curveA).orElse fun _ => curveFault t cs
    | .curveB => ((firstFailing t.curveB).map (· + 16)).orElse fun _ => curveFault t cs

/-- Arm's part in the water line (R55, R59). -/
def armLine (s : State) : State :=
  s.setLine { s.line with flowk := s.tables.water.flowk, unclaimed := 0 }

/-- The load table and BUDGET come into use (R120). -/
def armGate (s : State) : State :=
  s.setGate { s.gate with load := s.tables.load, budget := s.tables.general.budget }

/-- Arm takes effect (R192). -/
def armEffect (s : State) : State := armIce (armGate (armLine (armDefrost (s.setMode .running))))

/-- Every job and the gate stop (R193). -/
def stopJobs (s : State) : State := disarmDefrost (emptyGate (disarmDisp (disarmIce (disarmLine s))))

/-- Disarm takes effect (R193). -/
def disarmEffect (s : State) : State := (stopJobs s).setMode .loading

/-- TRUNK at Restart (R182, R194): a frame being sent is cut off; a driver enable that outlasts a check already sent
is released in its own time (log 19). -/
def PortState.trunkRestarted (now : Nat) (p : PortState) : PortState :=
  match p.tx with
  | .sending _ => { rx := .waiting, tx := .idle, lastChar := some now }
  | .idle | .trailing _ => { p with rx := .waiting }

/-- DOOR at Restart (R182): a frame being sent is cut off and the driver enable released at once; so is a driver enable
that outlasts a check already sent (log 39). -/
def PortState.doorRestarted (now : Nat) (p : PortState) : PortState :=
  match p.tx with
  | .sending _ => { rx := .waiting, tx := .idle, lastChar := some now }
  | .idle | .trailing _ => { p with rx := .waiting, tx := .idle }

/-- The link at Restart (R182). -/
def Link.restarted (now : Nat) (l : Link) : Link :=
  { Link.powerOn with trunk := l.trunk.trunkRestarted now, door := l.door.doorRestarted now }

/-- The jobs at Restart (R196): stopped as Disarm does, then set to their Restart values. -/
def restartJobs (s : State) : State :=
  restartDisp (restartIce (restartLine (restartDefrost (s.mode = .running)
    (if s.mode = .running then stopJobs s else emptyGate (disarmDisp (disarmIce (disarmLine s)))))))

/-- Restart takes effect (R196). -/
def restartEffect (s : State) : State :=
  ((((restartJobs s).setObs .powerOn).setTemps .reset).setLink (s.link.restarted s.now)).setMode .loading
    |>.setRestartPending false

end Sys2Proof.Machine
end

