-- ==== Sys2Proof/Machine/TableWrite.lean ====
section
/-! DEFINITION. Table Write (R185, R187, R188): storing, clamping, ordering, counting, and what the owners do at once. -/

namespace Sys2Proof.Machine

/-! ### Result codes (R184) -/

def resultDone : Byte := 0
def resultBadLength : Byte := 1
def resultBadTable : Byte := 2
def resultBadIndex : Byte := 3
def resultBadValue : Byte := 4
def resultWrongMode : Byte := 5
def resultBusy : Byte := 6
def resultInvalid : Byte := 7
def resultUnknown : Byte := 8

/-- What a command leaves: the state, and its reply's payload. -/
abbrev CommandResult := State × List Byte

/-- A refusal changes nothing (R184). -/
def refuse (code : Byte) (s : State) : CommandResult := (s, [code])

/-- DONE with what the command gives. -/
def done (data : List Byte) (s : State) : CommandResult := (s, resultDone :: data)

/-! ### Storing -/

/-- A list with `xs` in place of its elements from index `i`. -/
def replaceFrom {α : Type} (l : List α) (i : Nat) (xs : List α) : List α := l.take i ++ xs ++ l.drop (i + xs.length)

/-- `entries`, each paired with its index from `i`. -/
def indexedFrom {α : Type} (i : Nat) (entries : List α) : List (Nat × α) := (List.range' i entries.length).zip entries

/-- One where the two differ. -/
def differs {α : Type} [DecidableEq α] (a b : α) : Nat := if a = b then 0 else 1

/-- Route entries, refused whole where one fails a structural check (R170). -/
def storeRoute (start : Nat) (entries : List (List Byte)) (s : State) : Option (State × Nat) :=
  (entries.mapM RouteEntry.ofBytes).map fun es =>
    (s.setTables { s.tables with route := replaceFrom s.tables.route start es }, 0)

/-- The door set (R167); its count is the members left out (R188). -/
def storeDoorSet (entries : List (List Byte)) (s : State) : State × Nat :=
  let written := doorSetOfBytes entries.flatten
  (s.setTables { s.tables with doorSet := doorSetMembers s.ownAddress written },
    doorSetLeftOut s.ownAddress written)

/-- Curve points (R144). -/
def storeCurves (start : Nat) (entries : List (List Byte)) (s : State) : State × Nat :=
  let raws := entries.map CurvePoint.rawOfBytes
  let points := raws.map CurvePoint.clamped
  let all := replaceFrom (s.tables.curveA ++ s.tables.curveB) start points
  let touched (c : CurveSel) : Bool :=
    match c with
    | .noCurve => false
    | .curveA => start < 16
    | .curveB => 16 < start + entries.length
  let count (p : CurvePoint) : Nat := differs p.count p.clamped.count + differs p.temp p.clamped.temp
  (curvesWritten touched (s.setTables { s.tables with curveA := all.take 16, curveB := all.drop 16 }),
    (raws.map count).sum)

/-- Channel map entries, refused whole for a selector above 2; each written channel is reset (R145). -/
def storeChanMap (start : Nat) (entries : List (List Byte)) (s : State) : Option (State × Nat) :=
  (entries.mapM ChanMapEntry.rawOfBytes).map fun raws =>
    let store (t : State) (ie : Nat × ChanMapEntry) : State :=
      resetChannel (.ofIndex ie.1)
        (t.setTables { t.tables with chanMap := t.tables.chanMap.set (.ofIndex ie.1) ie.2.clamped })
    let count (e : ChanMapEntry) : Nat := differs e.below e.clamped.below + differs e.above e.clamped.above
    ((indexedFrom start raws).foldl store s, (raws.map count).sum)

/-- Load table entries (R120). -/
def storeLoad (start : Nat) (entries : List (List Byte)) (s : State) : State × Nat :=
  let raws := entries.map LoadEntry.rawOfBytes
  let store (t : LoadTable) (ie : Nat × LoadEntry) : LoadTable := t.set (.ofIndex ie.1) ie.2.clamped
  let count (e : LoadEntry) : Nat :=
    differs e.weight e.clamped.weight + differs e.cls e.clamped.cls + differs e.aging e.clamped.aging
  (s.setTables { s.tables with load := (indexedFrom start raws).foldl store s.tables.load }, (raws.map count).sum)

/-! ### Parameters: the orderings (R188, step 2) -/

/-- The threshold range (R14). -/
def DefrostParams.orderThr (p : DefrostParams) : DefrostParams :=
  let top := max p.thrmin p.thrmax
  { p with thrmax := top, thrstart := clampNat p.thrmin top p.thrstart }

/-- HEATMAX against TARGETHEAT (R40). -/
def DefrostParams.orderHeat (p : DefrostParams) : DefrostParams := { p with heatmax := max p.heatmax p.targetheat }

/-- RELAYLOW against RELAYHIGH (R181). -/
def GeneralParams.orderRelay (p : GeneralParams) : GeneralParams :=
  { p with relaylow := min p.relaylow (p.relayhigh - 1) }

/-- The write covers an index from `lo` to `hi`. -/
def covers (start n lo hi : Nat) : Bool := start ≤ hi && lo < start + n

/-- The orderings that a write of `n` entries from `start` makes (R188). -/
def orderTables (table start n : Nat) (t : Tables) : Tables :=
  match table with
  | 6 => if covers start n 4 5 then { t with general := t.general.orderRelay } else t
  | 7 =>
    let d1 := if covers start n 0 2 then t.defrost.orderThr else t.defrost
    { t with defrost := if covers start n 6 7 then d1.orderHeat else d1 }
  | _ => t

/-- The written values, clamped and stored (R188, step 1). -/
def clampInto (table start : Nat) (raws : List Int) (t : Tables) : Tables :=
  (indexedFrom start raws).foldl (fun u ie => u.setParam table ie.1 (paramClamp table ie.1 ie.2)) t

/-- The count: a written value stored otherwise, an unwritten one moved (R188). -/
def paramCount (table start : Nat) (raws : List Int) (before after : Tables) : Nat :=
  ((List.range (tableEntries table)).map fun i =>
    if start ≤ i ∧ i < start + raws.length then differs (raws.getD (i - start) 0) (after.param table i)
    else differs (before.param table i) (after.param table i)).sum

/-! ### Parameters: what the owners do at once (R188, step 3) -/

/-- The live THR is brought into the new range, its origin kept (R14). -/
def bringThrIntoRange (s : State) : State :=
  s.setDefrost { s.defrost with
    thr := clampNat s.tables.defrost.thrmin s.tables.defrost.thrmax s.defrost.thr }

/-- The relay flow state is settled (R173). -/
def settleFlow (s : State) : State := s.setLink (s.link.flowAfterWrite s.tables.general)

/-- The filter state is set again (R63). -/
def resetFilterState (s : State) : State :=
  s.setLine { s.line with filterState := filterStateFor s.tables.water s.line.filterTotal }

/-- FLOWK reaches the FLOWK in use at once in LOADING (R55). -/
def flowkWritten (s : State) : State :=
  if s.mode = .loading then s.setLine { s.line with flowk := s.tables.water.flowk } else s

/-- The stale limits of the kinds written are tested (R150). Table 6 holds them from index 8. -/
def staleLimitsWritten (start n : Nat) (s : State) : State :=
  ObsKind.all.foldl
    (fun t k => if covers start n (k.code + 7) (k.code + 7) then staleLimitWritten k t else t) s

/-- The owners act (R188). The chilled flag follows by `State.chilled`. -/
def ownersAct (table start n : Nat) (s : State) : State :=
  match table with
  | 6 => staleLimitsWritten start n (if covers start n 4 5 then settleFlow s else s)
  | 7 => if covers start n 0 2 then bringThrIntoRange s else s
  | 8 =>
    let s1 := if covers start n 0 0 then fillVolumeTest s else s
    if covers start n 1 1 then fillTimeTest s1 else s1
  | 9 =>
    let s1 := if covers start n 0 0 then flowkWritten s else s
    if covers start n 11 12 then resetFilterState s1 else s1
  | _ => s

/-- Parameters of tables 6 to 9. -/
def storeParams (table start : Nat) (entries : List (List Byte)) (s : State) : State × Nat :=
  let raws := (indexedFrom start entries).map fun ie => paramOfBytes table ie.1 ie.2
  let t := orderTables table start entries.length (clampInto table start raws s.tables)
  (ownersAct table start entries.length (s.setTables t), paramCount table start raws s.tables t)

/-! ### The command -/

/-- A write the part refuses in RUNNING (R188). -/
def lockedInRunning (table start : Nat) : Bool := (3 ≤ table && table ≤ 5) || (table = 6 && start = 0)

/-- The entries are stored, or the write is refused BAD_VALUE. -/
def storeEntries (table start : Nat) (entries : List (List Byte)) (s : State) : Option (State × Nat) :=
  match table with
  | 1 => storeRoute start entries s
  | 2 => some (storeDoorSet entries s)
  | 3 => some (storeCurves start entries s)
  | 4 => storeChanMap start entries s
  | 5 => some (storeLoad start entries s)
  | _ => some (storeParams table start entries s)

/-- Table Write (R188). An empty list of entries is taken with the lengths that depend on the table (log 25). -/
def tableWrite (payload : List Byte) (s : State) : CommandResult :=
  match payload with
  | id :: first :: data =>
    let table := id.toNat
    let start := first.toNat
    let n := data.length / entryBytes table
    if tableEntries table = 0 then refuse resultBadTable s
    else if data.length = 0 ∨ data.length % entryBytes table ≠ 0 then refuse resultBadLength s
    else if tableEntries table < start + n then refuse resultBadIndex s
    else if s.mode = .running ∧ lockedInRunning table start = true then refuse resultWrongMode s
    else
      match storeEntries table start (entriesOf (entryBytes table) n data) s with
      | none => refuse resultBadValue s
      | some (s1, count) => done [byteOf count] s1
  | _ => refuse resultBadLength s

end Sys2Proof.Machine
end

