-- ==== Sys2Proof/Machine/Commands.lean ====
section
/-! DEFINITION. The commands but Table Write (chapter 10), and the command handler. -/

namespace Sys2Proof.Machine

/-! ### Reads -/

/-- Status Read (R186). -/
def statusRead (payload : List Byte) (s : State) : CommandResult :=
  match payload with
  | [page] =>
    match pageBytes s page.toNat with
    | some bs => done (page :: bs) s
    | none => refuse resultBadValue s
  | _ => refuse resultBadLength s

/-- How many entries a Table Read returns (R189). -/
def readCount (table start count : Nat) : Nat :=
  min count (min (tableEntries table - start) (maxEntriesPerRead table))

/-- Table Read (R189). -/
def tableRead (payload : List Byte) (s : State) : CommandResult :=
  match payload with
  | [id, first, count] =>
    if tableEntries id.toNat = 0 then refuse resultBadTable s
    else if tableEntries id.toNat ≤ first.toNat then refuse resultBadIndex s
    else
      let n := readCount id.toNat first.toNat count.toNat
      done ([id, first, byteOf n] ++ (List.range' first.toNat n).flatMap (s.tables.entryAt id.toNat)) s
  | _ => refuse resultBadLength s

/-- The record at an index is marked read (R21). -/
def Defrost.markRead (d : Defrost) (i : Nat) : Defrost :=
  { d with ring := d.ring.modify i fun r => { r with unread := false } }

/-- History Read (R21, R191, R201). -/
def historyRead (payload : List Byte) (s : State) : CommandResult :=
  match payload with
  | [index] =>
    match s.defrost.ring[index.toNat]? with
    | some r => done r.bytes (s.setDefrost (s.defrost.markRead index.toNat))
    | none => refuse resultBadIndex s
  | _ => refuse resultBadLength s

/-- Counter Read (R191, R202). -/
def counterRead (payload : List Byte) (s : State) : CommandResult :=
  match payload with
  | [port, clear] =>
    if 1 < port.toNat ∨ 1 < clear.toNat then refuse resultBadValue s
    else
      let p : Port := if port = 0#8 then .trunk else .door
      done (port :: (s.link.counterValues p).flatMap bytes2)
        (if clear = 1#8 then s.setLink (s.link.clearCounters p) else s)
  | _ => refuse resultBadLength s

/-- Observation Write (R156, R191). -/
def observationWrite (payload : List Byte) (s : State) : CommandResult :=
  match payload with
  | [code, hi, lo] =>
    match ObsKind.ofCode code.toNat with
    | none => refuse resultBadValue s
    | some k =>
      match directValue k (numberOf [hi, lo]) with
      | none => refuse resultBadValue s
      | some v => done [] (consumersAct [k] (updateObs k v .direct s))
  | _ => refuse resultBadLength s

/-! ### Modes -/

/-- Arm (R192). -/
def arm (payload : List Byte) (s : State) : CommandResult :=
  if payload ≠ [] then refuse resultBadLength s
  else if s.mode = .running then refuse resultWrongMode s
  else match curveFault s.tables Chan.all with
    | some i => (s, [resultInvalid, 3, byteOf i])
    | none => done [] (armEffect s)

/-- Disarm (R193). -/
def disarm (payload : List Byte) (s : State) : CommandResult :=
  if payload ≠ [] then refuse resultBadLength s
  else if s.mode = .loading then refuse resultWrongMode s
  else done [] (disarmEffect s)

/-! ### Job commands (R190) -/

/-- DEFROST NOW (R7). -/
def defrostNow (s : State) : CommandResult :=
  if s.mode = .loading then refuse resultWrongMode s
  else if s.defrost.st ≠ .accrue then refuse resultBusy s
  else done [] (startCycle .forced .hold s)

/-- DEFROST ABORT (R37). -/
def defrostAbort (s : State) : CommandResult :=
  if s.mode = .loading then refuse resultWrongMode s
  else match s.defrost.st with
    | .accrue | .drip | .recover => refuse resultBusy s
    | .due | .hold => done [] (abandonCycle s)
    | .heat => done [] (if s.defrost.heatBegun then terminateHeat .abort s else abandonCycle s)

/-- The states in which ICE OFF lets the round go on (R91, R92). -/
def IceState.inRound : IceState → Bool
  | .fill _ | .freeze | .harvestHeat | .harvestRake => true
  | .off | .park | .binfull | .fault => false

/-- ICE ON (R91). In PARK a disable that is pending stays so, by R91's table, against R92's last sentence (log 32). -/
def iceOn (s : State) : CommandResult :=
  let s1 := s.setIce { s.ice with enabled := true }
  done [] (
    if s.mode = .loading then s1
    else if s.ice.st = .off then leaveOff s1
    else if s.ice.st.inRound then s1.setIce { s1.ice with disablePending := false }
    else s1)

/-- ICE OFF (R92). -/
def iceOff (s : State) : CommandResult :=
  let s1 := s.setIce { s.ice with enabled := false }
  done [] (
    if s.mode = .loading ∨ s.ice.st = .off then s1
    else if s.ice.st.inRound then s1.setIce { s1.ice with disablePending := true }
    else enterOff s1)

/-- ICE HARVEST NOW (R93). -/
def iceHarvestNow (s : State) : CommandResult :=
  if s.mode = .loading ∨ s.ice.st = .off then refuse resultWrongMode s
  else match s.ice.st with
    | .park | .freeze | .binfull => done [] (enterHarvestHeat s)
    | .off | .fill _ | .harvestHeat | .harvestRake | .fault => refuse resultBusy s

/-- FAULT CLEAR (R60, R94). -/
def faultClear (s : State) : CommandResult :=
  let s1 := s.setLine { s.line with leak := false, nosupply := false, unclaimed := 0 }
  done [] (
    if s1.ice.st = .fault then
      let s2 := s1.setIce { s1.ice with faultCount := 0, cause := .noCause }
      if s2.ice.enabled then leaveOff s2 else enterOff s2
    else s1)

/-- FILTER RESET (R64; log 12). -/
def filterReset (s : State) : CommandResult :=
  done [] (s.setLine { s.line with filterTotal := 0, filterRemainder := 0, filterState := .good })

/-- RESTORE (R16, R64, R190), from its 14 bytes of arguments. -/
def restore (args : List Byte) (s : State) : CommandResult :=
  if s.mode = .running then refuse resultWrongMode s
  else
    let p := s.tables.defrost
    let thr := numberOf (args.take 4)
    let estimate := numberOf ((args.drop 4).take 4)
    let minutes := numberOf ((args.drop 8).take 2)
    let total := numberOf (args.drop 10)
    done [] ((s.setDefrost { s.defrost with
        thr := clampNat p.thrmin p.thrmax thr, origin := .restored,
        estimate := min Config.frostMax estimate, capElapsed := minutes * 60 }).setLine
      { s.line with filterTotal := total, filterRemainder := 0,
                    filterState := filterStateFor s.tables.water total })

/-- A job command (R190). -/
def jobCommand (payload : List Byte) (s : State) : CommandResult :=
  match payload with
  | [] => refuse resultBadLength s
  | code :: args =>
    let plain (job : State → CommandResult) : CommandResult :=
      if args = [] then job s else refuse resultBadLength s
    match code.toNat with
    | 1 => plain defrostNow
    | 2 => plain defrostAbort
    | 3 => plain iceOn
    | 4 => plain iceOff
    | 5 => plain iceHarvestNow
    | 6 => plain faultClear
    | 7 => plain filterReset
    | 8 => if args.length = 14 then restore args s else refuse resultBadLength s
    | _ => refuse resultUnknown s

/-! ### The handler (R184) -/

/-- The part's reply to a request (R184). -/
def State.reply (s : State) (kind : Byte) (payload : List Byte) : Frame :=
  Frame.build s.ownAddress (replyKind kind) payload

/-- A reply is offered after the command's effect (R184). -/
def answer (kind : Byte) (r : CommandResult) : State :=
  r.1.setLink (r.1.link.offerUplink r.1.now (r.1.reply kind r.2) false)

/-- Restart's command (R194): the reply is offered; where it is dropped the effect comes at once. -/
def restartCommand (kind : Byte) (payload : List Byte) (s : State) : State :=
  if payload ≠ [] then answer kind (refuse resultBadLength s)
  else
    let s1 := (s.setLink (s.link.offerUplink s.now (s.reply kind [resultDone]) true)).setRestartPending true
    if s.link.uplinkFull then restartEffect s1 else s1

/-- A request by its kind; kinds 80h to FFh are discarded (R184). -/
def runCommand (kind : Byte) (payload : List Byte) (s : State) : State :=
  if isReplyKind kind then s
  else match kind.toNat with
    | 1 => answer kind (statusRead payload s)
    | 2 => answer kind (tableWrite payload s)
    | 3 => answer kind (tableRead payload s)
    | 4 => answer kind (jobCommand payload s)
    | 5 => answer kind (historyRead payload s)
    | 6 => answer kind (counterRead payload s)
    | 7 => answer kind (arm payload s)
    | 8 => answer kind (disarm payload s)
    | 9 => restartCommand kind payload s
    | 10 => answer kind (observationWrite payload s)
    | _ => answer kind (refuse resultUnknown s)

/-- Whether a request is carried out while Restart is pending: Status Read is (R195), and DEFROST ABORT where the part
follows R39 (log 31); every other one is lost (R195). -/
def actsWhilePending (kind : Byte) : List Byte → Bool
  | [] => kind = 1#8
  | code :: args => kind = 1#8 || (kind = 4#8 && code = 2#8 && Config.abortActsWhilePending args)

/-- The command handler: what is lost while Restart is pending changes nothing and has no reply (R39, R184, R195). -/
def handleCommand (kind : Byte) (payload : List Byte) (s : State) : State :=
  if s.restartPending = true ∧ actsWhilePending kind payload = false then s else runCommand kind payload s

end Sys2Proof.Machine
end

