-- ==== Sys2Proof/Machine/Receiver.lean ====
section
/-! DEFINITION. Reception and classification (chapter 9): a character at a receiver, a frame completed, a frame
abandoned. -/

namespace Sys2Proof.Machine

/-! ### Classification -/

/-- The matching entry with the lowest index that decides (R166). -/
def decidingAction (p : Port) (f : Frame) (route : List RouteEntry) : Option RouteAction :=
  (route.find? fun e => e.hits p f && e.action ≠ .noteOnly).map (·.action)

/-- A TRUNK frame is forwarded (R166, R167). -/
def Tables.forwardsTrunk (t : Tables) (f : Frame) : Bool :=
  match decidingAction .trunk f t.route with
  | some a => a = .forward
  | none =>
    match t.general.trunkdefault with
    | 0 => f.lead = 63#8 || t.doorSet.getLsbD f.lead.toNat
    | 1 => true
    | _ => false

/-- A good frame from TRUNK (R165). -/
def classifyTrunk (f : Frame) (s : State) : State :=
  if f.kind = 0x7F#8 then s.setLink s.link.countUnknown
  else if f.lead = s.ownAddress then handleCommand f.kind f.payload s
  else
    takeObservations .trunk f
      (if s.tables.forwardsTrunk f then s.setLink (s.link.offerRelay s.tables.general s.now f) else s)

/-- A reply not awaited (R168). -/
def replyNotAwaited (f : Frame) (s : State) : State :=
  match decidingAction .door f s.tables.route with
  | some .forward => s.setLink (s.link.offerUplink s.now f false)
  | some _ => s
  | none =>
    match s.tables.general.doordefault with
    | 0 => s.setLink s.link.countStray
    | 1 => s.setLink (s.link.offerUplink s.now f false)
    | _ => s

/-- The candidate's exchange ends with a BAD_FRAME notice where the door side is TAKING (R177). -/
def candidateBad (s : State) : State :=
  if s.link.doorSide = .taking then
    s.setLink (s.link.endWithNotice s.tables.general s.now noticeBadFrame)
  else s

/-- The awaited kind (R174). -/
def Link.awaitedKind (l : Link) : Option Byte := l.relay.head?.map fun e => replyKind e.frame.kind

/-- The awaited address (R174). -/
def Link.awaitedAddress (l : Link) : Option Byte := l.relay.head?.map fun e => e.frame.lead

/-- The fate of a reply-kind frame from DOOR (R168, R177). -/
def replyFate (f : Frame) (s : State) : State :=
  if s.link.doorSide = .taking then
    if s.link.awaitedKind = some f.kind then s.setLink (s.link.endExchange s.tables.general s.now f)
    else candidateBad s
  else replyNotAwaited f s

/-- A good frame from DOOR (R168, R177). -/
def classifyDoor (f : Frame) (s : State) : State :=
  if isReplyKind f.kind then takeObservations .door f (replyFate f s)
  else candidateBad (s.setLink s.link.countRequest)

/-! ### The receiver (R161, R162) -/

/-- The receiver and the line's last character are set. -/
def State.setRx (s : State) (p : Port) (rx : Rx) : State :=
  s.setLink (s.link.setPort p { s.link.port p with rx := rx })

/-- The end of a character restarts the line's quiet count (R163). -/
def State.charEnded (s : State) (p : Port) : State :=
  s.setLink (s.link.setPort p { s.link.port p with lastChar := some s.now })

/-- What the end of a frame in progress without a good frame means to the exchange: DOOR's candidate (R177). -/
def frameLost (p : Port) (s : State) : State :=
  match p with
  | .trunk => s
  | .door => candidateBad s

/-- A frame completes and its check is tested (R162). -/
def frameComplete (p : Port) (f : Frame) (s : State) : State :=
  let s1 := s.setRx p .waiting
  if f.good then
    match p with
    | .trunk => classifyTrunk f s1
    | .door => classifyDoor f s1
  else frameLost p (s1.setLink (s1.link.countCheck p))

/-- The door side waits, with no candidate yet (R174). -/
def DoorSide.isAwaiting : DoorSide → Bool
  | .awaiting _ => true
  | .free | .sending | .taking => false

/-- A marked character: it begins a frame with an address, or none (R161); in AWAITING the awaited address takes the
candidate (R176). -/
def leadArrives (p : Port) (data : Byte) (s : State) : State :=
  if 63 < data.toNat then s.setRx p .waiting
  else
    let s1 := s.setRx p (.atKind data)
    match p with
    | .trunk => s1
    | .door =>
      if s1.link.doorSide.isAwaiting && s1.link.awaitedAddress = some data then
        s1.setLink { s1.link with doorSide := .taking }
      else s1

/-- A marked character inside a frame abandons it and counts MARK (R161, R177). -/
def markInside (p : Port) (s : State) : State :=
  let s1 := s.setRx p .waiting
  frameLost p (s1.setLink (s1.link.countMark p))

/-- A length character above 24 (R161, R177). -/
def lengthTooLong (p : Port) (s : State) : State :=
  let s1 := s.setRx p .waiting
  frameLost p (s1.setLink (s1.link.countLong p))

/-- A marked character at a receiver (R161). -/
def markedChar (p : Port) (data : Byte) (s : State) : State :=
  leadArrives p data (if (s.link.port p).rx.inside then markInside p s else s)

/-- An unmarked character at a receiver (R161). -/
def unmarkedChar (p : Port) (data : Byte) (s : State) : State :=
  match (s.link.port p).rx with
  | .waiting => s
  | .atKind lead => s.setRx p (.atLength lead data)
  | .atLength lead kind =>
    if Config.maxPayload < data.toNat then lengthTooLong p s
    else if data.toNat = 0 then s.setRx p (.atCheck lead kind [])
    else s.setRx p (.inPayload lead kind data.toNat [])
  | .inPayload lead kind length got =>
    if length ≤ got.length + 1 then s.setRx p (.atCheck lead kind (got ++ [data]))
    else s.setRx p (.inPayload lead kind length (got ++ [data]))
  | .atCheck lead kind payload =>
    frameComplete p { lead := lead, kind := kind, payload := payload, check := data } s

/-- A character ends at a port. While the port's own driver is enabled it is not framed (R163; log 18). A character
that begins before the release of the driver enable and ends after it is framed (log 36). -/
def receiveChar (p : Port) (mark : Bool) (data : Byte) (s : State) : State :=
  let s1 := s.charEnded p
  if (s.link.port p).tx ≠ .idle then s1
  else if mark then markedChar p data s1
  else unmarkedChar p data s1

/-- A request for the part arrives whole at TRUNK (log 6). A frame in progress is abandoned by its lead (R161). -/
def requestArrives (dt : Nat) (kind : Byte) (payload : List Byte) (s : State) : State :=
  let s1 := s.advance dt
  if s1.link.trunk.tx ≠ .idle ∨ Config.maxPayload < payload.length then s1
  else
    let s2 := s1.charEnded .trunk
    let s3 := if s2.link.trunk.rx.inside then markInside .trunk s2 else s2
    classifyTrunk (Frame.build s3.ownAddress kind payload) s3

end Sys2Proof.Machine
end

