-- ==== Sys2Proof/Machine/CommandRows.lean ====
section
/-! DEFINITION. The rows of power-on and of the commands: each a request that arrives whole at TRUNK (log 6). -/

namespace Sys2Proof.Machine

/-- POWER_ON (R197). The commands that wait stay. -/
def execPowerOn (addrSel : Bool) (s : State) : Host.Outcome State Fault Refusal :=
  .next ((State.powerOn addrSel).setPending s.pending)

/-- STATUS_READ (R186): kind 01h (R185). -/
def execStatusRead (dt : Nat) (payload : List Byte) (s : State) : Host.Outcome State Fault Refusal :=
  .next (requestArrives dt 0x01#8 payload s)

/-- TABLE_WRITE (R188): kind 02h (R185). -/
def execTableWrite (dt : Nat) (payload : List Byte) (s : State) : Host.Outcome State Fault Refusal :=
  .next (requestArrives dt 0x02#8 payload s)

/-- TABLE_READ (R189): kind 03h (R185). -/
def execTableRead (dt : Nat) (payload : List Byte) (s : State) : Host.Outcome State Fault Refusal :=
  .next (requestArrives dt 0x03#8 payload s)

/-- HISTORY_READ (R21, R191): kind 05h (R185). -/
def execHistoryRead (dt : Nat) (payload : List Byte) (s : State) : Host.Outcome State Fault Refusal :=
  .next (requestArrives dt 0x05#8 payload s)

/-- COUNTER_READ (R191): kind 06h (R185). -/
def execCounterRead (dt : Nat) (payload : List Byte) (s : State) : Host.Outcome State Fault Refusal :=
  .next (requestArrives dt 0x06#8 payload s)

/-- ARM (R192): kind 07h (R185). -/
def execArm (dt : Nat) (payload : List Byte) (s : State) : Host.Outcome State Fault Refusal :=
  .next (requestArrives dt 0x07#8 payload s)

/-- DISARM (R193): kind 08h (R185). -/
def execDisarm (dt : Nat) (payload : List Byte) (s : State) : Host.Outcome State Fault Refusal :=
  .next (requestArrives dt 0x08#8 payload s)

/-- RESTART (R194): kind 09h (R185). -/
def execRestart (dt : Nat) (payload : List Byte) (s : State) : Host.Outcome State Fault Refusal :=
  .next (requestArrives dt 0x09#8 payload s)

/-- OBSERVATION_WRITE (R156): kind 0Ah (R185). -/
def execObservationWrite (dt : Nat) (payload : List Byte) (s : State) : Host.Outcome State Fault Refusal :=
  .next (requestArrives dt 0x0A#8 payload s)

/-- UNKNOWN_COMMAND (R184). -/
def execUnknownCommand (dt : Nat) (kind : Byte) (payload : List Byte) (s : State) :
    Host.Outcome State Fault Refusal :=
  .next (requestArrives dt kind payload s)

/-- DEFROST_NOW (R7): job code 1 (R190). -/
def execDefrostNow (dt : Nat) (args : List Byte) (s : State) : Host.Outcome State Fault Refusal :=
  .next (requestArrives dt 0x04#8 (1#8 :: args) s)

/-- DEFROST_ABORT (R37): job code 2 (R190). -/
def execDefrostAbort (dt : Nat) (args : List Byte) (s : State) : Host.Outcome State Fault Refusal :=
  .next (requestArrives dt 0x04#8 (2#8 :: args) s)

/-- ICE_ON (R91): job code 3 (R190). -/
def execIceOn (dt : Nat) (args : List Byte) (s : State) : Host.Outcome State Fault Refusal :=
  .next (requestArrives dt 0x04#8 (3#8 :: args) s)

/-- ICE_OFF (R92): job code 4 (R190). -/
def execIceOff (dt : Nat) (args : List Byte) (s : State) : Host.Outcome State Fault Refusal :=
  .next (requestArrives dt 0x04#8 (4#8 :: args) s)

/-- ICE_HARVEST_NOW (R93): job code 5 (R190). -/
def execIceHarvestNow (dt : Nat) (args : List Byte) (s : State) : Host.Outcome State Fault Refusal :=
  .next (requestArrives dt 0x04#8 (5#8 :: args) s)

/-- FAULT_CLEAR (R60, R94): job code 6 (R190). -/
def execFaultClear (dt : Nat) (args : List Byte) (s : State) : Host.Outcome State Fault Refusal :=
  .next (requestArrives dt 0x04#8 (6#8 :: args) s)

/-- FILTER_RESET (R64): job code 7 (R190). -/
def execFilterReset (dt : Nat) (args : List Byte) (s : State) : Host.Outcome State Fault Refusal :=
  .next (requestArrives dt 0x04#8 (7#8 :: args) s)

/-- RESTORE (R16, R64): job code 8 (R190). -/
def execRestore (dt : Nat) (args : List Byte) (s : State) : Host.Outcome State Fault Refusal :=
  .next (requestArrives dt 0x04#8 (8#8 :: args) s)

end Sys2Proof.Machine
end

