-- ==== Sys2Proof/Machine/LinkRows.lean ====
section
/-! DEFINITION. The rows of the link ports and the relay (chapter 9). -/

namespace Sys2Proof.Machine

/-! ### Reception -/

/-- CHARACTER_RECEIVED (R161). -/
def execCharacterReceived (dt : Nat) (p : Port) (mark : Bool) (data : Byte) (s : State) :
    Host.Outcome State Fault Refusal :=
  .next (receiveChar p mark data (s.advance dt))

/-- A receiver at the check of a frame. -/
def Rx.isAtCheck : Rx → Bool
  | .atCheck _ _ _ => true
  | .waiting | .atKind _ | .atLength _ _ | .inPayload _ _ _ _ => false

/-- A receiver at the length of a frame. -/
def Rx.isAtLength : Rx → Bool
  | .atLength _ _ => true
  | .waiting | .atKind _ | .inPayload _ _ _ _ | .atCheck _ _ _ => false

/-- TRUNK_FRAME_RECEIVED: the check that completes the frame (R161, R162, R165; log 7). -/
def execTrunkFrameReceived (dt : Nat) (check : Byte) (s : State) : Host.Outcome State Fault Refusal :=
  let s1 := s.advance dt
  .next (if s1.link.trunk.rx.isAtCheck then receiveChar .trunk false check s1 else s1)

/-- DOOR_FRAME_RECEIVED (R161, R162, R168; log 7). -/
def execDoorFrameReceived (dt : Nat) (check : Byte) (s : State) : Host.Outcome State Fault Refusal :=
  let s1 := s.advance dt
  .next (if s1.link.door.rx.isAtCheck then receiveChar .door false check s1 else s1)

/-- FRAME_ABANDONED_MARK (R161). -/
def execFrameAbandonedMark (dt : Nat) (p : Port) (data : Byte) (s : State) : Host.Outcome State Fault Refusal :=
  let s1 := s.advance dt
  .next (if (s1.link.port p).rx.inside then receiveChar p true data s1 else s1)

/-- FRAME_ABANDONED_LONG (R161). -/
def execFrameAbandonedLong (dt : Nat) (p : Port) (data : Byte) (s : State) : Host.Outcome State Fault Refusal :=
  let s1 := s.advance dt
  .next (if (s1.link.port p).rx.isAtLength && Config.maxPayload < data.toNat then receiveChar p false data s1
         else s1)

/-- The moment `n` character times after the end of a line's last character. -/
def PortState.afterLast (p : PortState) (n : Nat) : Nat :=
  match p.lastChar with
  | none => 0
  | some t => t + n * Config.tickChar

/-- A frame in progress is abandoned by a pause; the port's line is quiet, so a frame that waits goes (R161, R163). -/
def gapExpires (p : Port) (s : State) : State :=
  let s1 := s.setRx p .waiting
  let s2 := frameLost p (s1.setLink (s1.link.countGap p))
  s2.setLink (s2.link.kick p s2.now)

/-- FRAME_ABANDONED_GAP: 3 character times after the end of the last character (R161). A character that has begun by
then and not ended is not held; the run leaves this row out where one has (log 37). -/
def execFrameAbandonedGap (p : Port) (s : State) : Host.Outcome State Fault Refusal :=
  .next (
    if (s.link.port p).rx.inside then gapExpires p (s.reach ((s.link.port p).afterLast 3))
    else s)

/-- AWAITED_LEAD: the lead with the awaited address (R176); in TAKING it abandons the candidate (R177; log 7). The lead
is taken at its end; the run leaves the window's expiry out where the lead has begun within the window (log 38). -/
def execAwaitedLead (dt : Nat) (s : State) : Host.Outcome State Fault Refusal :=
  let s1 := s.advance dt
  .next (
    match s1.link.awaitedAddress with
    | some a =>
      if s1.link.doorSide.isAwaiting || s1.link.doorSide = .taking then receiveChar .door true a s1 else s1
    | none => s1)

/-! ### Sending -/

/-- TRUNK_SEND_BEGIN: 2 character times after the end of the last character (R163). -/
def execTrunkSendBegin (s : State) : Host.Outcome State Fault Refusal :=
  .next (
    if s.link.trunk.rx = .waiting ∧ s.link.trunk.tx = .idle ∧ s.link.uplink ≠ [] then
      let s1 := s.reach (s.link.trunk.afterLast 2)
      s1.setLink (s1.link.kickTrunk s1.now)
    else s)

/-- DOOR_SEND_BEGIN: 2 character times after the end of the last character (R163, R175). -/
def execDoorSendBegin (s : State) : Host.Outcome State Fault Refusal :=
  .next (
    if s.link.door.rx = .waiting ∧ s.link.door.tx = .idle ∧ s.link.doorSide = .free ∧ s.link.relay ≠ [] then
      let s1 := s.reach (s.link.door.afterLast 2)
      s1.setLink (s1.link.kickDoor s1.now)
    else s)

/-- The moment the check of a frame is sent: one character time of lead-in, then the frame's characters (R163). -/
def checkSentAt (start : Nat) (f : Frame) : Nat := start + (1 + f.characters) * Config.tickChar

/-- A frame has left the uplink queue; Restart takes effect with its own reply (R194). -/
def uplinkLeft (e : UplinkEntry) (s : State) : State :=
  if e.isRestartReply ∧ s.restartPending = true then restartEffect s else s

/-- TRUNK_FRAME_SENT (R163, R179, R194). -/
def execTrunkFrameSent (s : State) : Host.Outcome State Fault Refusal :=
  match s.link.trunk.tx, s.link.uplink with
  | .sending start, e :: rest =>
    let s1 := s.reach (checkSentAt start e.frame)
    .next (uplinkLeft e (s1.setLink { s1.link with
      uplink := rest, trunk := { s1.link.trunk with tx := .trailing s1.now, lastChar := some s1.now } }))
  | _, _ => .next s

/-- DOOR_FRAME_SENT (R163, R175). -/
def execDoorFrameSent (s : State) : Host.Outcome State Fault Refusal :=
  match s.link.door.tx, s.link.relay with
  | .sending start, e :: _ =>
    let s1 := s.reach (checkSentAt start e.frame)
    let g := s1.tables.general
    let l := { s1.link with door := { s1.link.door with tx := .trailing s1.now, lastChar := some s1.now } }
    .next (s1.setLink (
      if e.expectsReply then { l with doorSide := .awaiting (s1.afterMs g.doorwindow) }
      else l.freeDoor g s1.now))
  | _, _ => .next s

/-- DRIVER_ENABLE_RELEASE: one character time after the check (R163). -/
def execDriverEnableRelease (p : Port) (s : State) : Host.Outcome State Fault Refusal :=
  match (s.link.port p).tx with
  | .trailing sent =>
    let s1 := s.reach (sent + Config.tickChar)
    .next (s1.setLink (s1.link.setPort p { s1.link.port p with tx := .idle, rx := .waiting }))
  | .idle | .sending _ => .next s

/-- COLLISION: the read-back differs at the end of a character sent (R164). That it differs, and at which character,
is the run's to give by this row: the row carries no character and is taken at any moment of sending, and a character
received at TRUNK meanwhile is not compared (log 42). -/
def execCollision (dt : Nat) (s : State) : Host.Outcome State Fault Refusal :=
  let s1 := s.advance dt
  match s1.link.trunk.tx, s1.link.uplink with
  | .sending _, e :: rest =>
    let l := s1.link.countCollision
    .next (uplinkLeft e (s1.setLink { l with
      uplink := rest, trunk := { rx := .waiting, tx := .idle, lastChar := some s1.now } }))
  | _, _ => .next s1

/-- REPLY_WINDOW_EXPIRY (R176). -/
def execReplyWindowExpiry (s : State) : Host.Outcome State Fault Refusal :=
  match s.link.doorSide with
  | .awaiting t =>
    let s1 := s.reach t
    .next (s1.setLink (s1.link.countSilent.endWithNotice s1.tables.general s1.now noticeSilent))
  | .free | .sending | .taking => .next s

end Sys2Proof.Machine
end

