-- ==== Sys2Proof/Machine/Dispatch.lean ====
section
/-! DEFINITION. The effect of each command, one arm a row. -/

namespace Sys2Proof.Machine

def exec (i : Instr) (s : State) : Host.Outcome State Fault Refusal :=
  match i with
  | .powerOn addrSel => Sys2Proof.Machine.execPowerOn addrSel s
  | .statusRead dt payload => Sys2Proof.Machine.execStatusRead dt payload s
  | .tableWrite dt payload => Sys2Proof.Machine.execTableWrite dt payload s
  | .tableRead dt payload => Sys2Proof.Machine.execTableRead dt payload s
  | .historyRead dt payload => Sys2Proof.Machine.execHistoryRead dt payload s
  | .counterRead dt payload => Sys2Proof.Machine.execCounterRead dt payload s
  | .arm dt payload => Sys2Proof.Machine.execArm dt payload s
  | .disarm dt payload => Sys2Proof.Machine.execDisarm dt payload s
  | .restart dt payload => Sys2Proof.Machine.execRestart dt payload s
  | .observationWrite dt payload => Sys2Proof.Machine.execObservationWrite dt payload s
  | .unknownCommand dt kind payload => Sys2Proof.Machine.execUnknownCommand dt kind payload s
  | .defrostNow dt args => Sys2Proof.Machine.execDefrostNow dt args s
  | .defrostAbort dt args => Sys2Proof.Machine.execDefrostAbort dt args s
  | .iceOn dt args => Sys2Proof.Machine.execIceOn dt args s
  | .iceOff dt args => Sys2Proof.Machine.execIceOff dt args s
  | .iceHarvestNow dt args => Sys2Proof.Machine.execIceHarvestNow dt args s
  | .faultClear dt args => Sys2Proof.Machine.execFaultClear dt args s
  | .filterReset dt args => Sys2Proof.Machine.execFilterReset dt args s
  | .restore dt args => Sys2Proof.Machine.execRestore dt args s
  | .trunkFrameReceived dt check => Sys2Proof.Machine.execTrunkFrameReceived dt check s
  | .doorFrameReceived dt check => Sys2Proof.Machine.execDoorFrameReceived dt check s
  | .frameAbandonedMark dt port data => Sys2Proof.Machine.execFrameAbandonedMark dt port data s
  | .frameAbandonedLong dt port data => Sys2Proof.Machine.execFrameAbandonedLong dt port data s
  | .frameAbandonedGap port => Sys2Proof.Machine.execFrameAbandonedGap port s
  | .trunkSendBegin => Sys2Proof.Machine.execTrunkSendBegin s
  | .doorSendBegin => Sys2Proof.Machine.execDoorSendBegin s
  | .trunkFrameSent => Sys2Proof.Machine.execTrunkFrameSent s
  | .doorFrameSent => Sys2Proof.Machine.execDoorFrameSent s
  | .driverEnableRelease port => Sys2Proof.Machine.execDriverEnableRelease port s
  | .collision dt => Sys2Proof.Machine.execCollision dt s
  | .replyWindowExpiry => Sys2Proof.Machine.execReplyWindowExpiry s
  | .awaitedLead dt => Sys2Proof.Machine.execAwaitedLead dt s
  | .observationStale kind => Sys2Proof.Machine.execObservationStale kind s
  | .defrostSecond => Sys2Proof.Machine.execDefrostSecond s
  | .capReached => Sys2Proof.Machine.execCapReached s
  | .defermaxExpiry => Sys2Proof.Machine.execDefermaxExpiry s
  | .compwaitExpiry => Sys2Proof.Machine.execCompwaitExpiry s
  | .heatmaxExpiry => Sys2Proof.Machine.execHeatmaxExpiry s
  | .fixedheatExpiry => Sys2Proof.Machine.execFixedheatExpiry s
  | .driptimeExpiry => Sys2Proof.Machine.execDriptimeExpiry s
  | .fanmaxExpiry => Sys2Proof.Machine.execFanmaxExpiry s
  | .iceSecond => Sys2Proof.Machine.execIceSecond s
  | .retryTimerExpiry => Sys2Proof.Machine.execRetryTimerExpiry s
  | .changeoverEnd => Sys2Proof.Machine.execChangeoverEnd s
  | .resumeTimerExpiry => Sys2Proof.Machine.execResumeTimerExpiry s
  | .fillmaxExpiry => Sys2Proof.Machine.execFillmaxExpiry s
  | .unmeteredVolumeReached => Sys2Proof.Machine.execUnmeteredVolumeReached s
  | .ftTrailExpiry => Sys2Proof.Machine.execFtTrailExpiry s
  | .freezeholdReached => Sys2Proof.Machine.execFreezeholdReached s
  | .freezemaxExpiry => Sys2Proof.Machine.execFreezemaxExpiry s
  | .freezefixedExpiry => Sys2Proof.Machine.execFreezefixedExpiry s
  | .harvheatmaxExpiry => Sys2Proof.Machine.execHarvheatmaxExpiry s
  | .homeReadingChange dt => Sys2Proof.Machine.execHomeReadingChange dt s
  | .rakeleaveExpiry => Sys2Proof.Machine.execRakeleaveExpiry s
  | .rakemaxExpiry => Sys2Proof.Machine.execRakemaxExpiry s
  | .binfullReadingChange dt => Sys2Proof.Machine.execBinfullReadingChange dt s
  | .binwaitExpiry => Sys2Proof.Machine.execBinwaitExpiry s
  | .flowPulse dt => Sys2Proof.Machine.execFlowPulse dt s
  | .noflowtimeExpiry => Sys2Proof.Machine.execNoflowtimeExpiry s
  | .press dt => Sys2Proof.Machine.execPress dt s
  | .release dt => Sys2Proof.Machine.execRelease dt s
  | .pourmaxExpiry => Sys2Proof.Machine.execPourmaxExpiry s
  | .augermaxExpiry => Sys2Proof.Machine.execAugermaxExpiry s
  | .flapholdExpiry => Sys2Proof.Machine.execFlapholdExpiry s
  | .measureholdExpiry => Sys2Proof.Machine.execMeasureholdExpiry s
  | .agingTimerExpiry out => Sys2Proof.Machine.execAgingTimerExpiry out s
  | .hmsettleExpiry => Sys2Proof.Machine.execHmsettleExpiry s
  | .hmholdExpiry => Sys2Proof.Machine.execHmholdExpiry s
  | .sampleCompletion dt chan count => Sys2Proof.Machine.execSampleCompletion dt chan count s
  | .characterReceived dt port mark data => Sys2Proof.Machine.execCharacterReceived dt port mark data s
  | .observationAgeSecond kind => Sys2Proof.Machine.execObservationAgeSecond kind s

end Sys2Proof.Machine
end

