-- ==== Sys2Proof/Safety.lean ====
section
/-! DEFINITION. The words the statements use: when a command is heard, what a reply leaves on the link, what a step
leaves alone, a frame's fate and its observations, what the queues' offers leave, and the invariants. -/

namespace Sys2Proof.Machine

/-! ### Commands and replies -/

/-- TRUNK can take a request: its driver is idle, no frame is in progress, and the reply finds room (R163, R179). -/
abbrev State.hears (s : State) : Prop :=
  s.link.trunk.tx = .idle ∧ s.link.trunk.rx = .waiting ∧ s.link.uplink.length < Config.uplinkCapacity

/-- The state at the end of a request's last character, `dt` after the event before. -/
def State.atCommand (s : State) (dt : Nat) : State :=
  { s with now := s.now + dt,
           link := { s.link with trunk := { s.link.trunk with lastChar := some (s.now + dt) } } }

/-- The link once a reply of the given kind and payload has joined the uplink queue (R184). -/
def State.repliedLink (s : State) (dt : Nat) (kind : Byte) (payload : List Byte) : Link :=
  { s.link with
    trunk := { s.link.trunk with lastChar := some (s.now + dt) }
    uplink := s.link.uplink ++ [{ frame := Frame.build s.ownAddress kind payload, isRestartReply := false }] }

/-- The state after a command that only replies. -/
def State.replied (s : State) (dt : Nat) (kind : Byte) (payload : List Byte) : State :=
  { s with now := s.now + dt, link := s.repliedLink dt kind payload }

/-! ### Frames: what a step leaves alone -/

/-- The mode, the restart-pending mark, the own address, the tables and the queue stand. -/
abbrev KeepsSetup (s t : State) : Prop :=
  t.mode = s.mode ∧ t.restartPending = s.restartPending ∧ t.ownAddress = s.ownAddress ∧
    t.tables = s.tables ∧ t.pending = s.pending

/-- The observations, the channels and the debounced readings stand. -/
abbrev KeepsSenses (s t : State) : Prop := t.obs = s.obs ∧ t.temps = s.temps ∧ t.inputs = s.inputs

/-- The three jobs, the line and the gate stand. -/
abbrev KeepsJobs (s t : State) : Prop :=
  t.defrost = s.defrost ∧ t.ice = s.ice ∧ t.disp = s.disp ∧ t.line = s.line ∧ t.gate = s.gate

/-- Every entry of the wait list is for the given output, so that giving it up tells no other owner of a grant. -/
abbrev State.noneWaitsBut (s : State) (o : Gated) : Prop := ∀ w ∈ s.gate.wait, w.out = o

/-- An output is GRANTED or on the wait list, never both, and on the list at most once (R121, R123). -/
abbrev Gate.apart (g : Gate) (o : Gated) : Prop :=
  (g.granted.get o = true → ∀ w ∈ g.wait, w.out ≠ o) ∧ (g.wait.filter (fun w => w.out = o)).length ≤ 1

/-- The same, of the state's gate. -/
abbrev State.apart (s : State) (o : Gated) : Prop := s.gate.apart o

/-! ### A frame's observations -/

/-- One route entry's part in a frame's observations at the moment `m`, the entry with its index: where it matches and
its kind decodes, the value is lifted (R148, R151, R155); MEASURE stands while it is held (R157). -/
def ObsTable.lift (p : Port) (f : Frame) (m : Nat) (held : Bool) (o : ObsTable) (x : RouteEntry × Nat) : ObsTable :=
  match x.1.hits p f, x.1.kind with
  | true, some k =>
    match decodeValue x.1 f.payload k with
    | some v =>
      if k = .measure ∧ held = true then o
      else o.set k { value := v, st := .fresh, age := 0, source := .route x.2, ageAt := m + Config.tickSecond }
    | none => o
  | _, _ => o

/-- The observation table once the entries that match a frame have lifted their values from it at the moment `m`, in
index order (R151); MEASURE is held while a measured fill is ACTIVE or PAUSED (R157). -/
def State.liftedObs (s : State) (p : Port) (f : Frame) (m : Nat) : ObsTable :=
  s.tables.route.zipIdx.foldl (ObsTable.lift p f m (s.disp.measured ≠ .inactive)) s.obs

/-- No pour or delivery is under way, or FZDOOR does not read open (R106, R110). -/
abbrev State.pourStands (s : State) (o : ObsTable) : Prop :=
  (s.disp.st ≠ .pour ∧ s.disp.st ≠ .deliver) ∨ o.fzdoor.st ≠ .fresh ∨ o.fzdoor.value = 0

/-- A frame has lifted an open FZDOOR: a pour, or a delivery, has ended by it in that event (R106, R110, R148). -/
abbrev EndsByDoor (s t : State) : Prop :=
  t.disp.press = .spent ∧
    (s.disp.st = .pour → t.disp.st = .idle ∧ t.disp.pourAt = none ∧
      (s.line.st = .pour → t.line.st ≠ .pour ∧ t.line.lastClosed = some .wv ∧ t.line.closeAt = t.now)) ∧
    (s.disp.st = .deliver → t.disp.st = (if s.disp.flap then .flaphold else .idle) ∧ t.disp.augerAt = none ∧
      t.line = s.line)

/-- A matching entry lifts FZDOOR from the frame. -/
abbrev State.liftsDoor (s : State) (p : Port) (f : Frame) : Prop :=
  ∃ e ∈ s.tables.route, e.hits p f = true ∧ e.kind = some .fzdoor ∧ (decodeValue e f.payload .fzdoor).isSome = true

/-! ### A frame's fate -/

/-- Every entry that matches a frame is NOTE ONLY (R166). -/
abbrev State.onlyNoted (s : State) (p : Port) (f : Frame) : Prop :=
  ∀ x ∈ s.tables.route, x.hits p f = true → x.action = .noteOnly

/-- The lowest matching entry that is not NOTE ONLY has the given action (R166, R168). -/
abbrev State.decidedBy (s : State) (p : Port) (f : Frame) (a : RouteAction) : Prop :=
  a ≠ .noteOnly ∧ ∃ (before after : List RouteEntry) (e : RouteEntry), s.tables.route = before ++ e :: after ∧
    (∀ x ∈ before, x.hits p f = true → x.action = .noteOnly) ∧ e.hits p f = true ∧ e.action = a

/-- A TRUNK frame is forwarded: by an entry, or by TRUNKDEFAULT with the door set (R166, R167). -/
abbrev State.sendsOn (s : State) (f : Frame) : Prop :=
  s.decidedBy .trunk f .forward ∨ (s.onlyNoted .trunk f ∧ (s.tables.general.trunkdefault = 1 ∨
    (s.tables.general.trunkdefault = 0 ∧ (f.lead = 63#8 ∨ s.tables.doorSet.getLsbD f.lead.toNat = true))))

/-- A TRUNK frame is discarded (R166, R167). -/
abbrev State.keepsBack (s : State) (f : Frame) : Prop :=
  s.decidedBy .trunk f .discard ∨ (s.onlyNoted .trunk f ∧ (s.tables.general.trunkdefault = 2 ∨
    (s.tables.general.trunkdefault = 0 ∧ f.lead ≠ 63#8 ∧ s.tables.doorSet.getLsbD f.lead.toNat = false)))

/-! ### The queues -/

/-- The port may begin to send at the moment `m`: no frame in progress, the driver idle, and 2 character times since
the last character (R163); a character begun and not ended does not count (log 45). -/
abbrev PortState.quietAt (p : PortState) (m : Nat) : Prop :=
  p.rx = .waiting ∧ p.tx = .idle ∧ ∀ c ∈ p.lastChar, c + 2 * Config.tickChar ≤ m

/-- A frame complete at TRUNK has joined the relay queue, with room and the flow OPEN, the observations as given; with
the door side FREE and DOOR quiet its sending begins, else DOOR's port and the door side stand; nothing else happens
(R169, R172, R173, R175). -/
abbrev JoinsRelayLifting (s t : State) (dt : Nat) (f : Frame) (o : ObsTable) : Prop :=
  t.link.relay = s.link.relay ++
      [{ frame := f, expectsReply := decide (f.kind.toNat ≤ 126) && decide (f.lead ≠ 63#8) }] ∧
    t.link.flow = (if s.tables.general.relayhigh ≤ s.link.relay.length + 1 then .flowBusy else .flowOpen) ∧
    (s.link.doorSide = .free ∧ s.link.door.quietAt (s.now + dt) →
      t.link.doorSide = .sending ∧ t.link.door = { s.link.door with tx := .sending (s.now + dt) }) ∧
    (¬(s.link.doorSide = .free ∧ s.link.door.quietAt (s.now + dt)) →
      t.link.doorSide = s.link.doorSide ∧ t.link.door = s.link.door) ∧
    t.link.trunk = { rx := .waiting, tx := .idle, lastChar := some (s.now + dt) } ∧
    t.link.uplink = s.link.uplink ∧ t.link.trunkCount = s.link.trunkCount ∧ t.link.doorCount = s.link.doorCount ∧
    t.now = s.now + dt ∧ KeepsSetup s t ∧ (t.obs = o ∧ t.temps = s.temps ∧ t.inputs = s.inputs) ∧ KeepsJobs s t

/-- The same, where no observation is lifted. -/
abbrev JoinsRelay (s t : State) (dt : Nat) (f : Frame) : Prop := JoinsRelayLifting s t dt f s.obs

/-- A frame has been offered to the uplink queue: appended, and sent at once where TRUNK is quiet; or dropped and
counted (R163, R179). -/
abbrev OffersUplink (s t : State) (f : Frame) : Prop :=
  (s.link.uplink.length ≤ 2 →
    t.link.uplink = s.link.uplink ++ [{ frame := f, isRestartReply := false }] ∧
    t.link.trunkCount = s.link.trunkCount ∧
    (s.link.trunk.quietAt t.now → t.link.trunk = { s.link.trunk with tx := .sending t.now }) ∧
    (¬s.link.trunk.quietAt t.now → t.link.trunk = s.link.trunk)) ∧
  (s.link.uplink.length = 3 → t.link.uplink = s.link.uplink ∧ t.link.trunk = s.link.trunk ∧
    t.link.trunkCount = { s.link.trunkCount with dropped := min 65535 (s.link.trunkCount.dropped + 1) })

/-- The head has left the relay queue and the door side is FREE, the flow state moved by the removal (R173, R177). -/
abbrev FreesDoor (s t : State) (rest : List RelayEntry) : Prop :=
  t.link.relay = rest ∧ t.link.doorSide = .free ∧
    t.link.flow = (if rest.length ≤ s.tables.general.relaylow then .flowOpen else s.link.flow)

/-! ### The load gate's grants -/

/-- HM once a heater is GRANTED at the moment `m` (R130). -/
def State.hmOnGrant (s : State) (m : Nat) : HmState :=
  match s.gate.hm with
  | .hmOpen => .hmClosing (m + s.tables.general.hmsettle * Config.tickMs)
  | .hmClosing k => .hmClosing k
  | .hmClosed | .hmHolding _ => .hmClosed

/-- DH, on before the event, is switched off in it and released (R126, R131): with no output waiting HM stays CLOSED
for another heater, or goes to HOLDING after the last one; a heater that waits at the head of the list and fits
without DH is GRANTED, where the entry behind it does not fit. `g` is the gate without DH's grant. -/
abbrev ReleasesDh (s t : State) : Prop :=
  ∀ g : Gate, g = { s.gate with granted := { s.gate.granted with dh := false } } →
    (s.gate.wait = [] → t.gate = { g with
      hm := if g.granted.th = true ∨ g.granted.ft = true then .hmClosed
            else .hmHolding (t.now + s.tables.general.hmhold * Config.tickSecond) }) ∧
    (∀ (w : WaitEntry) (rest : List WaitEntry) (g2 : Gate), s.gate.wait = w :: rest → w.out = .th ∨ w.out = .ft →
      g.weightInUse w.out ≤ g.budgetFree →
      g2 = { g with granted := g.granted.set w.out true, wait := rest, hm := .hmClosed } →
      (∀ x xs, rest = x :: xs → g2.budgetFree < g2.weightInUse x.out) → t.gate = g2)

/-! ### DEFROST ABORT -/

/-- What a DEFROST ABORT that is carried out brings (R13, R37): refused, the cycle abandoned before its heat, or the
heat ended with cause ABORT. -/
abbrev DefrostAborted (dt : Nat) (s : State) : Prop :=
    (s.mode = .loading → exec (.defrostAbort dt []) s = .next (s.replied dt 0x84 [5])) ∧
    (s.mode = .running → s.defrost.st = .accrue ∨ s.defrost.st = .drip ∨ s.defrost.st = .recover →
      exec (.defrostAbort dt []) s = .next (s.replied dt 0x84 [6])) ∧
    (s.mode = .running →
      s.defrost.st = .due ∨ s.defrost.st = .hold ∨ (s.defrost.st = .heat ∧ s.defrost.heatBegun = false) →
      ∃ t, exec (.defrostAbort dt []) s = .next t ∧
        t.defrost = { s.defrost with
          st := .accrue, stateTime := 0, trigger := .noTrigger, startEstimate := 0, cause := .noCause,
          heatBegun := false, estimate := s.defrost.thr * 3 / 4 } ∧
        (s.apart .dh → t.gate.reqState .dh = .noRequest) ∧ (s.noneWaitsBut .dh → t.ice = s.ice ∧ t.disp = s.disp) ∧
        t.line = s.line ∧ t.link = s.repliedLink dt 0x84 [0] ∧ KeepsSetup s t ∧ KeepsSenses s t) ∧
    (s.mode = .running → s.defrost.st = .heat → s.defrost.heatBegun = true →
      ∃ t, exec (.defrostAbort dt []) s = .next t ∧
        t.defrost = { s.defrost with
          st := .drip, stateTime := 0, cause := .abort, thrBefore := s.defrost.thr, thrAfter := s.defrost.thr } ∧
        (s.apart .dh → t.gate.reqState .dh = .noRequest) ∧ (s.noneWaitsBut .dh → t.ice = s.ice ∧ t.disp = s.disp) ∧
        t.line = s.line ∧ t.link = s.repliedLink dt 0x84 [0] ∧ KeepsSetup s t ∧ KeepsSenses s t)

/-! ### Restart -/

/-- The defrost values that Restart sets beside the treatment of the cycle (R23, R25, R39). -/
def Defrost.startCleared (d : Defrost) : Defrost :=
  { d with trigger := .noTrigger, startEstimate := 0, heatBegun := false, heaterOn := 0, cause := .noCause,
           thrBefore := 1382400, thrAfter := 1382400, cycleTime := 0, timeInDue := 0, compHeld := false }

/-- What Restart leaves of the defrost chapters (R13, R19, R25, R39). -/
abbrev RestartDefrost (s t : State) : Prop :=
  (s.mode = .loading → t.defrost = { s.defrost with timeInDue := 0 }) ∧
    (s.mode = .running →
      s.defrost.st = .accrue ∨ s.defrost.st = .due ∨ s.defrost.st = .hold ∨
        (s.defrost.st = .heat ∧ s.defrost.heatBegun = false) →
      t.defrost = Defrost.startCleared { s.defrost with st := .accrue, stateTime := 0 }) ∧
    (s.mode = .running → s.defrost.st = .heat → s.defrost.heatBegun = true →
      t.defrost = Defrost.startCleared { s.defrost with
        st := .accrue, stateTime := 0, estimate := 0, capElapsed := 0
        ring := ({ seq := s.defrost.nextSeq, trigger := s.defrost.trigger, cause := .abort,
                   compHeld := s.defrost.compHeld, startEstimate := s.defrost.startEstimate,
                   thrBefore := s.defrost.thr, thrAfter := s.defrost.thr, heaterOn := s.defrost.heaterOn,
                   cycleSeconds := s.defrost.cycleTime, unread := true } :: s.defrost.ring).take 4
        nextSeq := (s.defrost.nextSeq + 1) % 256 }) ∧
    (s.mode = .running → s.defrost.st = .drip ∨ s.defrost.st = .recover →
      t.defrost = Defrost.startCleared { s.defrost with
        st := .accrue, stateTime := 0, estimate := 0, capElapsed := 0
        ring := ({ seq := s.defrost.nextSeq, trigger := s.defrost.trigger, cause := s.defrost.cause,
                   compHeld := s.defrost.compHeld, startEstimate := s.defrost.startEstimate,
                   thrBefore := s.defrost.thrBefore, thrAfter := s.defrost.thrAfter,
                   heaterOn := s.defrost.heaterOn, cycleSeconds := s.defrost.cycleTime,
                   unread := true } :: s.defrost.ring).take 4
        nextSeq := (s.defrost.nextSeq + 1) % 256 })

/-- What Restart leaves, whatever it found (R196 and the rules it names). -/
abbrev RestartValues (s t : State) : Prop :=
  t.mode = .loading ∧ t.restartPending = false ∧ t.drives = .allOff ∧
    (t.link.relay = [] ∧ t.link.uplink = [] ∧ t.link.doorSide = .free ∧ t.link.flow = .flowOpen ∧
      t.link.trunkCount = .zero ∧ t.link.doorCount = .zero ∧ t.link.trunk.rx = .waiting ∧
      t.link.door.rx = .waiting ∧ t.link.door.tx = .idle) ∧
    (t.obs = .powerOn ∧ t.temps = .reset) ∧
    (t.ice.st = .off ∧ t.ice.enabled = s.ice.enabled ∧ t.ice.trayLoaded = s.ice.trayLoaded ∧
      t.ice.faultCount = 0 ∧ t.ice.cycles = 0 ∧ t.ice.cause = .noCause) ∧
    (t.disp.st = .idle ∧ t.disp.measured = .inactive ∧ t.disp.target = 0 ∧ t.disp.poured = 0 ∧
      t.disp.latched = .water) ∧
    (t.line.st = .idle ∧ t.line.lastClosed = none ∧ t.line.fillTally = 0 ∧ t.line.pourTally = 0 ∧
      t.line.unclaimed = 0 ∧ t.line.leak = false ∧ t.line.nosupply = false ∧
      t.line.flowk = s.tables.water.flowk ∧
      ((s.line.st ≠ .fill ∧ s.line.st ≠ .pour) ∨ s.line.flowk ≠ 0 → s.line.filterTotal ≤ Config.max32 →
        t.line.filterTotal = s.line.filterTotal ∧ t.line.filterState = s.line.filterState) ∧
      t.line.filterRemainder = s.line.filterRemainder) ∧
    ((∀ o, t.gate.reqState o = .noRequest) ∧ t.gate.hm = .hmOpen) ∧
    (t.defrost.thr = s.defrost.thr ∧ t.defrost.origin = s.defrost.origin ∧
      (s.mode = .running → t.defrost.st = .accrue) ∧ RestartDefrost s t) ∧
    (t.tables = s.tables ∧ t.ownAddress = s.ownAddress ∧ t.inputs = s.inputs ∧ t.pending = s.pending)

/-! ### Invariants -/

/-- Every parameter of tables 6 to 9 is within its range: clamping it again moves nothing (R188). -/
abbrev Tables.inRange (t : Tables) : Prop :=
  ∀ table i, 6 ≤ table → table ≤ 9 → i < tableEntries table → paramClamp table i (t.param table i) = t.param table i

/-- The orderings of R14, R40 and R181 hold. -/
abbrev Tables.ordered (t : Tables) : Prop :=
  (t.defrost.thrmin ≤ t.defrost.thrstart ∧ t.defrost.thrstart ≤ t.defrost.thrmax) ∧
    t.defrost.targetheat ≤ t.defrost.heatmax ∧ t.general.relaylow < t.general.relayhigh

/-- The parameters are in range and in order, THR lies in the range in force (R5, R14), and E in its own (R3). -/
abbrev State.paramInv (s : State) : Prop :=
  s.tables.inRange ∧ s.tables.ordered ∧
    (s.tables.defrost.thrmin ≤ s.defrost.thr ∧ s.defrost.thr ≤ s.tables.defrost.thrmax) ∧
    s.defrost.estimate ≤ Config.frostMax

/-- The GRANTED weights fit the budget (R121). -/
abbrev Gate.fits (g : Gate) : Prop := g.budgetInUse ≤ g.budget

/-- In LOADING every job, the line and the gate are at rest (R183). -/
abbrev State.atRest (s : State) : Prop :=
  s.defrost.st = .accrue ∧
  (s.ice.st = .off ∧ s.ice.trailAt = none ∧ s.ice.resumeAt = none ∧ s.ice.binwaitAt = none ∧
    s.ice.rakeleaveAt = none ∧ s.ice.rakemaxAt = none) ∧
  (s.disp.st = .idle ∧ s.disp.pourAt = none ∧ s.disp.augerAt = none ∧ s.disp.flapAt = none ∧
    s.disp.pauseAt = none ∧ s.disp.measured = .inactive ∧ s.disp.flap = false) ∧
  (s.line.st = .idle ∧ s.line.fillWaiting = false ∧ s.line.fillSuspended = false) ∧
  (s.gate.granted = .empty ∧ s.gate.wait = [] ∧ s.gate.hm = .hmOpen)

/-- The wait list is in the order of effective class (R123). -/
abbrev Gate.sorted (g : Gate) : Prop := g.wait.Pairwise (fun x y => x.cls ≤ y.cls)

/-- HM is closed or closing while a heater is GRANTED, and closed only then (R129, R131); DH is requested in HEAT
alone (R30, R33), and a heat whose heater is on has begun (R31). -/
abbrev State.heaterInv (s : State) : Prop :=
  (s.gate.heaterGranted = true → s.gate.hm = .hmClosed ∨ ∃ m, s.gate.hm = .hmClosing m) ∧
    (s.gate.hm = .hmClosed → s.gate.heaterGranted = true) ∧
    (s.defrost.st ≠ .heat → s.gate.reqState .dh = .noRequest) ∧
    (s.defrost.st = .heat → s.gate.heaterOn .dh = true → s.defrost.heatBegun = true)

/-- The load gate in order: the grants fit, every output is in one place of the gate at most, the wait list is sorted,
HM follows the heaters (R121, R123, R129). -/
abbrev State.gateInv (s : State) : Prop := s.gate.fits ∧ (∀ o, s.apart o) ∧ s.gate.sorted ∧ s.heaterInv

/-- The load gate's invariant: the gate is in order, and LOADING is at rest (R133, R183). -/
abbrev State.loadInv (s : State) : Prop := s.gateInv ∧ (s.mode = .loading → s.atRest)

/-- The queues, the ring and the tables keep their sizes, the door set leaves out 0, 63 and the own address, an
exchange has its request at the head (R18, R167, R171, R172, R174, R179, R187), and the filter total and the open
times fit their four bytes (03, section 3.1). -/
abbrev State.sizeInv (s : State) : Prop :=
  s.link.relay.length ≤ Config.relayCapacity ∧ s.link.uplink.length ≤ Config.uplinkCapacity ∧
    s.defrost.ring.length ≤ Config.ringCapacity ∧ s.tables.route.length = 16 ∧
    s.tables.curveA.length = 16 ∧ s.tables.curveB.length = 16 ∧
    s.tables.doorSet.getLsbD 0 = false ∧ s.tables.doorSet.getLsbD 63 = false ∧
    s.tables.doorSet.getLsbD s.ownAddress.toNat = false ∧
    (s.link.doorSide ≠ .free → s.link.relay ≠ []) ∧
    s.line.filterTotal ≤ Config.max32 ∧ s.line.fillOpen ≤ Config.max32 ∧ s.line.pourOpen ≤ Config.max32

end Sys2Proof.Machine
end

