-- ==== Sys2Proof/Certificates/Slice0/Obligations.lean ====
section
/-! DEFINITION. The statements for the provers. Each says, for every state that meets its hypotheses, what next state
the commands it names give; an equation of states is the effect and the frame at once. -/

open Sys2Proof Sys2Proof.Machine

/-! ### The machine, its start and its invariants -/

/-- A step is the command at the front of the queue, on the state with the queue's rest. The queue is the model's own
(log 4, log 5). -/
def Obligations.StepRunsFrontCommand : Prop :=
  ∀ (c : Instr) (rest : List Instr) (s : State), step (s.setPending (c :: rest)) = exec c (s.setPending rest)

/-- POWER_ON (R197, R1, R5, R23, R26, R43, R44, R69, R70, R98, R99, R118, R119, R128, R133, R146, R149, R159, R167,
R181, R182): every block of the state. The queue is the model's own (log 4); the fields of an invalid route entry (log
13), the quiet lines (log 20), the moments the model alone holds (log 22) and the fill elapsed (log 33) are the
model's choices. -/
def Obligations.PowerOnSetsEverything : Prop :=
  ∀ (a : Bool) (s : State), ∃ t, exec (.powerOn a) s = .next t ∧
    t.now = 0 ∧ t.mode = .loading ∧ t.restartPending = false ∧ t.ownAddress = (if a then 49 else 48) ∧
    t.tables.route = List.replicate 16
      { valid := false, invert := false, direction := .trunk, address := some 0, kindLow := 0, kindHigh := 0,
        action := .noteOnly, kind := none, offset := 0, mask := 0 } ∧
    (∀ n, n < 64 → t.tables.doorSet.getLsbD n = decide (1 ≤ n ∧ n ≤ 62 ∧ n ≠ t.ownAddress.toNat)) ∧
    t.tables.curveA = List.replicate 16 { count := 0, temp := 0 } ∧
    t.tables.curveB = List.replicate 16 { count := 0, temp := 0 } ∧
    curveValid t.tables.curveA = false ∧ curveValid t.tables.curveB = false ∧
    (∀ c, t.tables.chanMap.get c = { sel := .noCurve, below := 0, above := 4095 } ∧ t.status c = .notFitted ∧
      t.temps.get c = { range := .unsettled, total := 0, lowRun := 0, highRun := 0, inRun := 0, history := [],
                        value := none }) ∧
    t.tables.load =
      { dh := { weight := 8, cls := 1, aging := 0 }, th := { weight := 6, cls := 1, aging := 120 },
        ft := { weight := 1, cls := 2, aging := 60 }, am := { weight := 3, cls := 0, aging := 0 },
        em := { weight := 2, cls := 1, aging := 30 } } ∧
    t.tables.general =
      { budget := 12, hmsettle := 100, hmhold := 10, doorwindow := 10, relayhigh := 3, relaylow := 1,
        trunkdefault := 0, doordefault := 0, staleFzdoor := 5, staleFfdoor := 5, staleCompressor := 10,
        staleSelect := 0, staleMeasure := 0, staleLock := 0, staleFastice := 60 } ∧
    t.tables.defrost =
      { thrstart := 1382400, thrmin := 460800, thrmax := 2764800, runw := 16, doorfw := 160, doorrw := 32,
        targetheat := 1200, heatmax := 2700, termtemp := 80, fixedheat := 1500, driptime := 300, fantemp := -100,
        fanmax := 420, compwait := 180, defermax := 900, cap := 72 } ∧
    t.tables.ice =
      { fillvol := 115, fillmax := 10, fttrail := 120, icemaxair := -80, harvtemp := -120, freezehold := 600,
        freezemax := 7200, freezefixed := 5400, releasetemp := 20, harvheatmax := 240, rakeleave := 3, rakemax := 20,
        binwait := 600, retries := 2, fillretry := 300 } ∧
    t.tables.water =
      { flowk := 1380, fillrate := 250, coast := 1500, changeover := 200, resumedelay := 2, noflowtime := 5,
        leakpulses := 50, pourmax := 120, augermax := 60, flaphold := 4, measurehold := 30, filtercap := 1800,
        filterwarn := 100, chilltemp := 60, pourrate := 300 } ∧
    t.defrost =
      { estimate := 0, thr := 1382400, origin := .fromDefault, capElapsed := 0, st := .accrue, trigger := .noTrigger,
        startEstimate := 0, heatBegun := false, heaterOn := 0, cause := .noCause, thrBefore := 1382400,
        thrAfter := 1382400, cycleTime := 0, ring := [], nextSeq := 1, stateTime := 0, timeInDue := 0,
        compHeld := false, secondAt := 0, startedAt := 0 } ∧
    t.ice =
      { st := .off, enabled := true, disablePending := false, trayLoaded := true, opened := false, elapsed := 0,
        resumeAt := none, trailAt := none, binwaitAt := none, rakeleaveAt := none, rakemaxAt := none, faultCount := 0,
        retry := 0, belowtime := 0, freezetime := 0, heatTime := 0, rakeBegun := false, leftMark := false, cycles := 0,
        cause := .noCause, secondAt := 0 } ∧
    t.disp =
      { st := .idle, press := .noPress, latched := .water, delivered := false, pourAt := none, augerAt := none,
        flapAt := none, measured := .inactive, target := 0, poured := 0, pouredBase := 0, completed := false,
        pauseAt := none, adReverse := false, flap := false } ∧
    t.line =
      { st := .idle, fillWaiting := false, fillSuspended := false, resumes := false, lastClosed := none, closeAt := 0,
        changeoverEnd := none, openedAt := 0, flowk := 1380, fillTally := 0, fillOpen := 0, pourTally := 0,
        pourOpen := 0, unclaimed := 0, noflowAt := none, noflowSeen := false, leak := false, nosupply := false,
        filterTotal := 0, filterRemainder := 0, filterState := .good } ∧
    (∀ o, t.gate.reqState o = .noRequest) ∧ t.gate.wait = [] ∧ t.gate.hm = .hmOpen ∧
    t.gate.load = t.tables.load ∧ t.gate.budget = 12 ∧
    (∀ k, t.obs.get k = { value := 0, st := .never, age := 0, source := .nothing, ageAt := 0 }) ∧
    t.inputs = { paddle := false, home := true, binfull := false } ∧
    t.link.trunk = { rx := .waiting, tx := .idle, lastChar := none } ∧
    t.link.door = { rx := .waiting, tx := .idle, lastChar := none } ∧
    t.link.relay = [] ∧ t.link.uplink = [] ∧ t.link.doorSide = .free ∧ t.link.flow = .flowOpen ∧
    t.link.trunkCount = .zero ∧ t.link.doorCount = .zero ∧
    t.drives = .allOff ∧ t.attention = List.replicate 6 false ∧ t.pending = s.pending

/-- The invariants hold right after power-on. Reset takes ADDRSEL low (log 8). -/
def Obligations.ResetHoldsInvariants : Prop :=
  State.reset.paramInv ∧ State.reset.loadInv ∧ State.reset.sizeInv

/-- Every step keeps the parameters in range and in order, THR inside the range in force, and E in its range (R3, R5,
R14, R40, R181, R188). -/
def Obligations.StepKeepsParameters : Prop :=
  ∀ s t : State, s.paramInv → step s = .next t → t.paramInv

/-- Every step keeps the GRANTED weights within the budget, the wait list in order and apart from the grants, HM with
the heaters, and LOADING at rest (R121, R123, R129, R133, R183). -/
def Obligations.StepKeepsLoadGate : Prop :=
  ∀ s t : State, s.loadInv → step s = .next t → t.loadInv

/-- Every step keeps the sizes of the queues, the ring, the tables and the four-byte counts (R18, R167, R172, R174,
R179). -/
def Obligations.StepKeepsSizes : Prop :=
  ∀ s t : State, s.sizeInv → step s = .next t → t.sizeInv

/-- In LOADING at rest every drive line is low (R183, R198). AD's line is low in LOADING by log 11. -/
def Obligations.LoadingDrivesOff : Prop :=
  ∀ s : State, s.mode = .loading → s.loadInv → s.drives = .allOff

/-! ### Pure rules -/

/-- The conversion of a mean (R141), over any points whose counts rise. -/
def Obligations.ConversionFollowsCurve : Prop :=
  ∀ (pts : List CurvePoint) (m : Nat) (h : pts ≠ []), pts.Pairwise (fun p q => p.count < q.count) →
    (m ≤ (pts.head h).count → convert m pts = some (pts.head h).temp) ∧
    ((pts.getLast h).count ≤ m → convert m pts = some (pts.getLast h).temp) ∧
    (∀ (i : Nat) (h1 : i < pts.length) (h2 : i + 1 < pts.length), pts[i].count ≤ m → m < pts[i + 1].count →
      convert m pts = some (pts[i].temp + Int.tdiv ((pts[i + 1].temp - pts[i].temp) * ((m : Int) - pts[i].count))
        ((pts[i + 1].count : Int) - pts[i].count)))

/-- What a route entry lifts from a payload (R152, R153, R154, R155). -/
def Obligations.DecodingRules : Prop :=
  ∀ (e : RouteEntry) (payload : List Byte),
    (∀ k, k = .fzdoor ∨ k = .ffdoor ∨ k = .compressor ∨ k = .lock ∨ k = .fastice →
      (∀ h : e.offset < payload.length,
        decodeValue e payload k =
          some (if payload[e.offset] &&& e.mask = 0#8 ↔ e.invert = true then 1 else 0)) ∧
      (payload.length ≤ e.offset → decodeValue e payload k = none)) ∧
    (∀ (h : e.offset < payload.length) (i : Nat), i < 8 → e.mask.getLsbD i = true →
      (∀ j, j < i → e.mask.getLsbD j = false) →
      decodeValue e payload .select =
        (if (payload[e.offset] &&& e.mask).toNat / 2 ^ i ≤ 2
         then some ((payload[e.offset] &&& e.mask).toNat / 2 ^ i) else none)) ∧
    (e.mask = 0#8 ∨ payload.length ≤ e.offset → decodeValue e payload .select = none) ∧
    (∀ h : e.offset + 1 < payload.length,
      decodeValue e payload .measure =
        some (if payload[e.offset].toNat * 256 + payload[e.offset + 1].toNat = 0 then 0
              else max 30 (min 2000 (payload[e.offset].toNat * 256 + payload[e.offset + 1].toNat)))) ∧
    (payload.length ≤ e.offset + 1 → decodeValue e payload .measure = none)

/-- A route entry's eight bytes, and which eight bytes spell an entry (R170, R203); an entry written and read back is
the entry. The codes of FORWARD and DISCARD are R203's, against R170's (log 41). -/
def Obligations.RouteEntryRoundTrip : Prop :=
  (∀ e : RouteEntry, (∀ a, e.address = some a → a.toNat ≤ 63) → e.kindLow.toNat ≤ e.kindHigh.toNat → e.offset ≤ 23 →
    RouteEntry.ofBytes e.toBytes = some e) ∧
  (∀ e : RouteEntry, e.toBytes =
    [ byteOf ((if e.valid then 1 else 0) + (if e.invert then 2 else 0)), if e.direction = .trunk then 0 else 1,
      e.address.getD 0xFF, e.kindLow, e.kindHigh,
      byteOf ((if e.action = .noteOnly then 0 else if e.action = .forward then 16 else 32) +
        (if e.kind = none then 0 else if e.kind = some .fzdoor then 1 else if e.kind = some .ffdoor then 2
         else if e.kind = some .compressor then 3 else if e.kind = some .select then 4
         else if e.kind = some .measure then 5 else if e.kind = some .lock then 6 else 7)),
      byteOf e.offset, e.mask ]) ∧
  (∀ (b0 b1 b2 b3 b4 b5 b6 b7 : Byte) (e : RouteEntry),
    RouteEntry.ofBytes [b0, b1, b2, b3, b4, b5, b6, b7] = some e ↔
      e.valid = b0.getLsbD 0 ∧ e.invert = b0.getLsbD 1 ∧
      ((b1 = 0 ∧ e.direction = .trunk) ∨ (b1 = 1 ∧ e.direction = .door)) ∧
      ((b2 = 0xFF ∧ e.address = none) ∨ (b2.toNat ≤ 63 ∧ e.address = some b2)) ∧
      e.kindLow = b3 ∧ e.kindHigh = b4 ∧ b3.toNat ≤ b4.toNat ∧
      ((b5.toNat / 16 = 0 ∧ e.action = .noteOnly) ∨ (b5.toNat / 16 = 1 ∧ e.action = .forward) ∨
        (b5.toNat / 16 = 2 ∧ e.action = .discard)) ∧
      ((b5.toNat % 16 = 0 ∧ e.kind = none) ∨ (b5.toNat % 16 = 1 ∧ e.kind = some .fzdoor) ∨
        (b5.toNat % 16 = 2 ∧ e.kind = some .ffdoor) ∨ (b5.toNat % 16 = 3 ∧ e.kind = some .compressor) ∨
        (b5.toNat % 16 = 4 ∧ e.kind = some .select) ∨ (b5.toNat % 16 = 5 ∧ e.kind = some .measure) ∨
        (b5.toNat % 16 = 6 ∧ e.kind = some .lock) ∨ (b5.toNat % 16 = 7 ∧ e.kind = some .fastice)) ∧
      e.offset = b6.toNat ∧ b6.toNat ≤ 23 ∧ e.mask = b7)

/-! ### Commands -/

/-- STATUS_READ (R186, R198, R199, R200, R203): the page as the state stands at the command, nothing else changes, and
the fields of each page; each drive line (R36, R41, R42, R127, R129) and the volumes of the line (R54, R56, R105).
Clock and arrival as a whole frame are the model's choices (log 1, log 6); the drive lines in LOADING and poured
without a meter are log 11 and log 16; open times are whole milliseconds (log 15); that a rate written after a close
moves the volume is log 43. -/
def Obligations.StatusReadAnswers : Prop :=
  (∀ (s : State) (dt : Nat), s.hears →
    (∀ p : Byte, p.toNat ≤ 4 → ∃ bs, pageBytes (s.atCommand dt) p.toNat = some bs ∧
      bs.length + 2 = [16, 14, 19, 20, 21].getD p.toNat 0 ∧
      exec (.statusRead dt [p]) s = .next (s.replied dt 0x81 (0 :: p :: bs))) ∧
    (∀ p : Byte, 4 < p.toNat → exec (.statusRead dt [p]) s = .next (s.replied dt 0x81 [4]))) ∧
  (∀ (u : State) (w c i r f k : Bool) (h : Byte), (w = true ↔ u.line.leak = true ∨ u.line.nosupply = true) →
    (c = true ↔ ∃ ch, u.status ch = .below ∨ u.status ch = .above) → (i = true ↔ u.ice.st = .fault) →
    (r = true ↔ ∃ x ∈ u.defrost.ring, x.unread = true) → (f = true ↔ u.line.filterState ≠ .good) →
    (k = true ↔ ∃ n ∈ u.link.trunkCount.values ++ u.link.doorCount.values, 32768 ≤ n) →
    (u.gate.hm = .hmOpen → h = 0) → (∀ m, u.gate.hm = .hmClosing m → h = 1) → (u.gate.hm = .hmClosed → h = 2) →
    (∀ m, u.gate.hm = .hmHolding m → h = 3) →
    pageBytes u 0 = some
      [ if u.mode = .loading then 0 else 1,
        if w then 1 else if c then 2 else if i then 3 else if r then 4 else if f then 5 else if k then 6 else 0,
        byteOf ((if w then 1 else 0) + (if c then 2 else 0) + (if i then 4 else 0) + (if r then 8 else 0) +
          (if f then 16 else 0) + (if k then 32 else 0)),
        if u.defrost.st = .accrue then 0 else if u.defrost.st = .due then 1 else if u.defrost.st = .hold then 2
        else if u.defrost.st = .heat then 3 else if u.defrost.st = .drip then 4 else 5,
        if u.defrost.st = .hold ∨ u.defrost.st = .heat ∨ u.defrost.st = .drip then 1 else 0,
        if u.ice.st = .off then 0 else if u.ice.st = .park then 1 else if u.ice.st = .freeze then 3
        else if u.ice.st = .harvestHeat then 4 else if u.ice.st = .harvestRake then 5
        else if u.ice.st = .binfull then 6 else if u.ice.st = .fault then 7 else 2,
        if u.ice.st = .fill .lineWait then 1 else if u.ice.st = .fill .flowing then 2
        else if u.ice.st = .fill .suspended then 3 else 0,
        if u.disp.st = .idle then 0 else if u.disp.st = .pour then 1 else if u.disp.st = .deliver then 2
        else if u.disp.st = .flaphold then 3 else 4,
        if u.line.st = .idle then 0 else if u.line.st = .fill then 2 else if u.line.st = .pour then 3 else 1,
        if u.link.flow = .flowOpen then 0 else 1,
        byteOf ((if u.drives.dh then 128 else 0) + (if u.drives.th then 64 else 0) + (if u.drives.ft then 32 else 0) +
          (if u.drives.hm then 16 else 0) + (if u.drives.ef then 8 else 0) + (if u.drives.iv then 4 else 0) +
          (if u.drives.wv then 2 else 0) + (if u.drives.am then 1 else 0)),
        byteOf ((if u.drives.ad then 128 else 0) + (if u.drives.df then 64 else 0) + (if u.drives.em then 32 else 0)),
        byteOf ((if u.line.leak then 1 else 0) + (if u.line.nosupply then 2 else 0)), h ]) ∧
  (∀ u : State,
    (u.drives.dh = true ↔ u.gate.granted.dh = true ∧ u.gate.hm = .hmClosed) ∧
    (u.drives.th = true ↔ u.gate.granted.th = true ∧ u.gate.hm = .hmClosed) ∧
    (u.drives.ft = true ↔ u.gate.granted.ft = true ∧ u.gate.hm = .hmClosed) ∧
    (u.drives.hm = true ↔ u.gate.hm ≠ .hmOpen) ∧
    (u.drives.ef = true ↔ u.mode = .running ∧ (u.defrost.st = .accrue ∨ u.defrost.st = .due) ∧
      ¬(u.obs.fzdoor.st = .fresh ∧ u.obs.fzdoor.value ≠ 0) ∧
      (u.obs.compressor.st ≠ .fresh ∨ u.obs.compressor.value ≠ 0 ∨
        (u.ice.st = .freeze ∧ u.obs.fastice.st = .fresh ∧ u.obs.fastice.value ≠ 0))) ∧
    (u.drives.iv = true ↔ u.line.st = .fill) ∧ (u.drives.wv = true ↔ u.line.st = .pour) ∧
    u.drives.am = u.gate.granted.am ∧ u.drives.em = u.gate.granted.em ∧ u.drives.df = u.disp.flap ∧
    (u.drives.ad = true ↔ u.disp.adReverse = true ∧ u.mode = .running) ∧
    (u.compressorHold = true ↔ u.defrost.st = .hold ∨ u.defrost.st = .heat ∨ u.defrost.st = .drip)) ∧
  (∀ u : State,
    u.fillVolume = (if u.line.flowk = 0 then
        (if u.line.st = .fill then min 4294967295 (u.line.fillOpen + (u.now - u.line.openedAt) / Config.tickMs)
         else u.line.fillOpen) * u.tables.water.fillrate / 10000
      else u.line.fillTally * 1000 / u.line.flowk) ∧
    u.pourVolume = (if u.line.flowk = 0 then
        (if u.line.st = .pour then min 4294967295 (u.line.pourOpen + (u.now - u.line.openedAt) / Config.tickMs)
         else u.line.pourOpen) * u.tables.water.pourrate / 10000
      else u.line.pourTally * 1000 / u.line.flowk) ∧
    u.pouredNow = (if u.disp.measured ≠ .inactive ∧ u.line.flowk = 0 ∧ u.line.st = .pour
      then u.disp.pouredBase + u.pourVolume else u.disp.poured)) ∧
  (∀ u : State, pageBytes u 1 = some ([Chan.evap, .fzair, .tray, .tank].flatMap fun ch =>
    (if u.status ch = .notFitted then 0 else if u.status ch = .noCurve then 1 else if u.status ch = .settling then 2
     else if u.status ch = .ok then 3 else if u.status ch = .below then 4 else 5) ::
      bytes2 (((u.temps.get ch).value.getD (-32768) % 65536).toNat))) ∧
  (∀ u : State, pageBytes u 2 = some (bytes3 u.defrost.estimate ++ bytes3 u.defrost.thr ++
    [if u.defrost.origin = .fromDefault then 0 else if u.defrost.origin = .restored then 1 else 2] ++
    bytes2 (min 65535 (u.defrost.capElapsed / 60)) ++ bytes2 u.defrost.stateTime ++
    bytes2 (min 65535 u.defrost.heaterOn) ++ bytes2 u.defrost.timeInDue ++
    [byteOf (u.defrost.ring.filter (fun x => x.unread)).length,
     byteOf ((u.defrost.ring.head?.map (fun x => x.seq)).getD 0)])) ∧
  (∀ (u : State) (chilled : Byte), (u.usable .tank = none → chilled = 0) →
    (∀ temp, u.usable .tank = some temp → chilled = if temp ≤ u.tables.water.chilltemp then 1 else 2) →
    pageBytes u 3 = some (bytes3 (min 16777215 (u.line.filterTotal / 1000)) ++
      [if u.line.filterState = .good then 0 else if u.line.filterState = .due then 1 else 2, chilled] ++
      bytes2 (min 65535 u.pourVolume) ++
      [if u.disp.measured = .inactive then 0 else if u.disp.measured = .active then 1 else 2] ++
      bytes2 (min 65535 u.disp.target) ++ bytes2 (min 65535 u.pouredNow) ++ bytes2 (min 65535 u.fillVolume) ++
      bytes2 u.ice.cycles ++
      [byteOf u.ice.faultCount, if u.ice.cause = .noCause then 0 else if u.ice.cause = .noflow then 1 else 2])) ∧
  (∀ (u : State) (code bit : ObsKind → Nat) (source : ObsKind → Byte),
    (∀ k, code k = if (u.obs.get k).st = .never then 0 else if (u.obs.get k).st = .fresh then 1 else 2) →
    (∀ k, bit k = if (u.obs.get k).value = 0 then 0 else 1) →
    (∀ k, (u.obs.get k).source = .nothing → source k = 255) →
    (∀ k j, (u.obs.get k).source = .route j → source k = byteOf j) →
    (∀ k, (u.obs.get k).source = .direct → source k = 254) →
    pageBytes u 4 = some (
      bytes2 (code .fzdoor * 4096 + code .ffdoor * 1024 + code .compressor * 256 + code .select * 64 +
        code .measure * 16 + code .lock * 4 + code .fastice) ++
      [byteOf (bit .fzdoor + bit .ffdoor * 2 + bit .compressor * 4 + bit .lock * 8 + bit .fastice * 16 +
        u.obs.select.value * 32)] ++
      bytes2 u.obs.measure.value ++
      [ObsKind.fzdoor, .ffdoor, .compressor, .select, .measure, .lock, .fastice].map
        (fun k => byteOf (min 255 (u.obs.get k).age)) ++
      [ObsKind.fzdoor, .ffdoor, .compressor, .select, .measure, .lock, .fastice].map source))

/-- TABLE_READ (R189), and the bytes of each table's entries (R187, R203); numbers of more than one byte, the more
significant first (R199). Clock and arrival as a whole frame are the model's choices (log 1, log 6). -/
def Obligations.TableReadAnswers : Prop :=
  (∀ (s : State) (dt : Nat) (id first count : Byte), s.hears → s.restartPending = false →
    ((id = 0#8 ∨ 9 < id.toNat) → exec (.tableRead dt [id, first, count]) s = .next (s.replied dt 0x83 [2])) ∧
    (1 ≤ id.toNat → id.toNat ≤ 9 → tableEntries id.toNat ≤ first.toNat →
      exec (.tableRead dt [id, first, count]) s = .next (s.replied dt 0x83 [3])) ∧
    (∀ n : Nat, first.toNat < tableEntries id.toNat →
      n = min count.toNat (min (tableEntries id.toNat - first.toNat) (maxEntriesPerRead id.toNat)) →
      exec (.tableRead dt [id, first, count]) s =
        .next (s.replied dt 0x83 ([0, id, first, byteOf n] ++
          (List.range n).flatMap (fun j => s.tables.entryAt id.toNat (first.toNat + j)))))) ∧
  (∀ (t : Tables) (i : Nat),
    (∀ e, t.route[i]? = some e → t.entryAt 1 i = e.toBytes) ∧
    (t.entryAt 2 0).length = 8 ∧
    (∀ a, a < 64 → ((t.entryAt 2 0).getD (7 - a / 8) 0).getLsbD (a % 8) = t.doorSet.getLsbD a) ∧
    (∀ p, t.curveA[i]? = some p → t.entryAt 3 i = bytes2 p.count ++ bytes2 (p.temp % 65536).toNat) ∧
    (∀ p, t.curveA.length = 16 → t.curveB[i]? = some p →
      t.entryAt 3 (16 + i) = bytes2 p.count ++ bytes2 (p.temp % 65536).toNat) ∧
    (∀ m, [t.chanMap.evap, t.chanMap.fzair, t.chanMap.tray, t.chanMap.tank][i]? = some m →
      t.entryAt 4 i = [if m.sel = .noCurve then 0 else if m.sel = .curveA then 1 else 2] ++
        bytes2 m.below ++ bytes2 m.above) ∧
    (∀ e, [t.load.dh, t.load.th, t.load.ft, t.load.am, t.load.em][i]? = some e →
      t.entryAt 5 i = [byteOf e.weight, byteOf e.cls, byteOf e.aging]) ∧
    (∀ v, [t.general.budget, t.general.hmsettle, t.general.hmhold, t.general.doorwindow, t.general.relayhigh,
        t.general.relaylow, t.general.trunkdefault, t.general.doordefault, t.general.staleFzdoor,
        t.general.staleFfdoor, t.general.staleCompressor, t.general.staleSelect, t.general.staleMeasure,
        t.general.staleLock, t.general.staleFastice][i]? = some v →
      v < 16777216 → t.entryAt 6 i = bytes3 v) ∧
    (∀ v : Int, [(t.defrost.thrstart : Int), t.defrost.thrmin, t.defrost.thrmax, t.defrost.runw, t.defrost.doorfw,
        t.defrost.doorrw, t.defrost.targetheat, t.defrost.heatmax, t.defrost.termtemp, t.defrost.fixedheat,
        t.defrost.driptime, t.defrost.fantemp, t.defrost.fanmax, t.defrost.compwait, t.defrost.defermax,
        t.defrost.cap][i]? = some v →
      t.entryAt 7 i = bytes3 (v % 16777216).toNat) ∧
    (∀ v : Int, [(t.ice.fillvol : Int), t.ice.fillmax, t.ice.fttrail, t.ice.icemaxair, t.ice.harvtemp,
        t.ice.freezehold, t.ice.freezemax, t.ice.freezefixed, t.ice.releasetemp, t.ice.harvheatmax, t.ice.rakeleave,
        t.ice.rakemax, t.ice.binwait, t.ice.retries, t.ice.fillretry][i]? = some v →
      t.entryAt 8 i = bytes3 (v % 16777216).toNat) ∧
    (∀ v : Int, [(t.water.flowk : Int), t.water.fillrate, t.water.coast, t.water.changeover, t.water.resumedelay,
        t.water.noflowtime, t.water.leakpulses, t.water.pourmax, t.water.augermax, t.water.flaphold,
        t.water.measurehold, t.water.filtercap, t.water.filterwarn, t.water.chilltemp, t.water.pourrate][i]? = some v →
      t.entryAt 9 i = bytes3 (v % 16777216).toNat)) ∧
  [1, 2, 3, 4, 5, 6, 7, 8, 9].map tableEntries = [16, 1, 32, 4, 5, 15, 16, 15, 15] ∧
  [1, 2, 3, 4, 5, 6, 7, 8, 9].map entryBytes = [8, 8, 4, 5, 3, 3, 3, 3, 3] ∧
  [1, 2, 3, 4, 5, 6, 7, 8, 9].map maxEntriesPerRead = [2, 1, 5, 4, 5, 6, 6, 6, 6] ∧
  (∀ (v : Nat) (bs : List Byte) (b : Byte), byteOf v = BitVec.ofNat 8 v ∧ bytes2 v = [byteOf (v / 256), byteOf v] ∧
    bytes3 v = [byteOf (v / 65536), byteOf (v / 256), byteOf v] ∧ numberOf [] = 0 ∧
    numberOf (bs ++ [b]) = numberOf bs * 256 + b.toNat)

/-- HISTORY_READ (R21, R191, R201), and the bytes of a record (R203). Clock and arrival as a whole frame are the
model's choices (log 1, log 6). -/
def Obligations.HistoryReadAnswers : Prop :=
  (∀ (s : State) (dt : Nat) (i : Byte), s.hears → s.restartPending = false →
    (∀ h : i.toNat < s.defrost.ring.length,
      exec (.historyRead dt [i]) s = .next { s.replied dt 0x85 (0 :: s.defrost.ring[i.toNat].bytes) with
        defrost := { s.defrost with
          ring := s.defrost.ring.set i.toNat { s.defrost.ring[i.toNat] with unread := false } } }) ∧
    (s.defrost.ring.length ≤ i.toNat → exec (.historyRead dt [i]) s = .next (s.replied dt 0x85 [3]))) ∧
  (∀ r : HistoryRecord, r.bytes =
    [ byteOf r.seq,
      if r.trigger = .estimate then 1 else if r.trigger = .cap then 2 else if r.trigger = .forced then 3 else 0,
      if r.cause = .temp then 1 else if r.cause = .time then 2 else if r.cause = .fixed then 3
      else if r.cause = .abort then 4 else 0,
      byteOf ((if r.compHeld then 1 else 0) + (if r.unread then 2 else 0)),
      byteOf (r.startEstimate / 65536), byteOf (r.startEstimate / 256), byteOf r.startEstimate,
      byteOf (r.thrBefore / 65536), byteOf (r.thrBefore / 256), byteOf r.thrBefore,
      byteOf (r.thrAfter / 65536), byteOf (r.thrAfter / 256), byteOf r.thrAfter,
      byteOf (r.heaterOn / 256), byteOf r.heaterOn, byteOf (r.cycleSeconds / 256), byteOf r.cycleSeconds ])

/-- COUNTER_READ (R180, R191, R202): the reply first, then the clearing. Clock and arrival as a whole frame are the
model's choices (log 1, log 6). -/
def Obligations.CounterReadAnswers : Prop :=
  ∀ (s : State) (dt : Nat) (c : TrunkCounters) (d : DoorCounters) (trunk door : List Byte), s.hears →
    s.restartPending = false → c = s.link.trunkCount → d = s.link.doorCount →
    trunk = [0, 0] ++ bytes2 c.check ++ bytes2 c.gap ++ bytes2 c.long ++ bytes2 c.mark ++ bytes2 c.collision ++
      bytes2 c.dropped ++ bytes2 c.unknown →
    door = [0, 1] ++ bytes2 d.check ++ bytes2 d.gap ++ bytes2 d.long ++ bytes2 d.mark ++ bytes2 d.stray ++
      bytes2 d.silent ++ bytes2 d.busy ++ bytes2 d.request →
    exec (.counterRead dt [0, 0]) s = .next (s.replied dt 0x86 trunk) ∧
    exec (.counterRead dt [1, 0]) s = .next (s.replied dt 0x86 door) ∧
    exec (.counterRead dt [0, 1]) s = .next { s.replied dt 0x86 trunk with
      link := { s.repliedLink dt 0x86 trunk with
        trunkCount := { check := 0, gap := 0, long := 0, mark := 0, collision := 0, dropped := 0, unknown := 0 } } } ∧
    exec (.counterRead dt [1, 1]) s = .next { s.replied dt 0x86 door with
      link := { s.repliedLink dt 0x86 door with
        doorCount := { check := 0, gap := 0, long := 0, mark := 0, stray := 0, silent := 0, busy := 0,
                       request := 0 } } } ∧
    (∀ port clear : Byte, 1 < port.toNat ∨ 1 < clear.toNat →
      exec (.counterRead dt [port, clear]) s = .next (s.replied dt 0x86 [4]))

/-- OBSERVATION_WRITE (R148, R156, R157), where no pour or delivery is under way; and FZDOOR written open in a pour
and in a delivery ends it (R106, R110, R148). Clock and arrival as a whole frame are the model's choices (log 1, log
6); the pour open time is whole milliseconds (log 15). -/
def Obligations.ObservationWriteUpdates : Prop :=
  (∀ (s : State) (dt : Nat) (hi lo : Byte), s.hears → s.restartPending = false →
    s.disp.st ≠ .pour → s.disp.st ≠ .deliver →
    (∀ k, k = .fzdoor ∨ k = .ffdoor ∨ k = .compressor ∨ k = .lock ∨ k = .fastice →
      exec (.observationWrite dt [byteOf k.code, hi, lo]) s = .next { s.replied dt 0x8A [0] with
        obs := s.obs.set k { value := if hi = 0#8 ∧ lo = 0#8 then 0 else 1, st := .fresh, age := 0, source := .direct,
                             ageAt := s.now + dt + Config.tickSecond } }) ∧
    (hi.toNat * 256 + lo.toNat ≤ 2 →
      exec (.observationWrite dt [4, hi, lo]) s = .next { s.replied dt 0x8A [0] with
        obs := s.obs.set .select { value := hi.toNat * 256 + lo.toNat, st := .fresh, age := 0, source := .direct,
                                   ageAt := s.now + dt + Config.tickSecond } }) ∧
    (2 < hi.toNat * 256 + lo.toNat →
      exec (.observationWrite dt [4, hi, lo]) s = .next (s.replied dt 0x8A [4])) ∧
    (s.disp.measured = .inactive →
      exec (.observationWrite dt [5, hi, lo]) s = .next { s.replied dt 0x8A [0] with
        obs := s.obs.set .measure { value := if hi.toNat * 256 + lo.toNat = 0 then 0
                                             else max 30 (min 2000 (hi.toNat * 256 + lo.toNat)),
                                    st := .fresh, age := 0, source := .direct,
                                    ageAt := s.now + dt + Config.tickSecond } }) ∧
    (s.disp.measured ≠ .inactive → exec (.observationWrite dt [5, hi, lo]) s = .next (s.replied dt 0x8A [0])) ∧
    (∀ c : Byte, c = 0#8 ∨ 7 < c.toNat →
      exec (.observationWrite dt [c, hi, lo]) s = .next (s.replied dt 0x8A [4]))) ∧
  (∀ (s : State) (dt : Nat) (hi lo : Byte), s.hears → s.restartPending = false → hi ≠ 0#8 ∨ lo ≠ 0#8 →
    (s.disp.st = .pour → s.line.st = .pour → s.line.fillWaiting = false → s.line.fillSuspended = false →
      s.line.flowk ≠ 0 → s.line.filterTotal ≤ Config.max32 →
      exec (.observationWrite dt [1, hi, lo]) s = .next { s.replied dt 0x8A [0] with
        obs := s.obs.set .fzdoor { value := 1, st := .fresh, age := 0, source := .direct,
                                   ageAt := s.now + dt + Config.tickSecond }
        disp := { s.disp with
          st := .idle, press := .spent, pourAt := none
          measured := if s.disp.measured = .active then .paused else s.disp.measured
          pauseAt := if s.disp.measured = .active
                     then some (s.now + dt + s.tables.water.measurehold * Config.tickSecond) else s.disp.pauseAt }
        line := { s.line with
          st := .idle, lastClosed := some .wv, closeAt := s.now + dt
          changeoverEnd := some (s.now + dt + s.tables.water.changeover * Config.tickMs), noflowAt := none
          pourOpen := min 4294967295 (s.line.pourOpen + (s.now + dt - s.line.openedAt) / Config.tickMs) } }) ∧
    (s.disp.st = .deliver → ∃ t, exec (.observationWrite dt [1, hi, lo]) s = .next t ∧
      t.disp.st = (if s.disp.flap then .flaphold else .idle) ∧ t.disp.press = .spent ∧ t.disp.augerAt = none ∧
      t.disp.flapAt = (if s.disp.flap then some (s.now + dt + s.tables.water.flaphold * Config.tickSecond) else none) ∧
      (s.apart .am → t.gate.reqState .am = .noRequest) ∧
      (s.disp.delivered = true → s.ice.st = .binfull → s.inputs.binfull = false → t.ice.st = .park) ∧
      t.obs = s.obs.set .fzdoor { value := 1, st := .fresh, age := 0, source := .direct,
                                  ageAt := s.now + dt + Config.tickSecond } ∧
      t.line = s.line ∧ t.link = s.repliedLink dt 0x8A [0] ∧ t.inputs = s.inputs ∧ t.temps = s.temps ∧
      KeepsSetup s t))

/-- UNKNOWN_COMMAND (R184): UNKNOWN is answered and nothing else changes; a reply that finds three frames in the
uplink queue is dropped and counted (R179). A request of a wrong length is answered BAD_LENGTH, an unknown job code
UNKNOWN, and nothing else changes (R185, R190). Clock and arrival as a whole frame are the model's choices (log 1, log
6). -/
def Obligations.UnknownCommandAnswered : Prop :=
  (∀ (s : State) (dt : Nat) (kind : Byte) (payload : List Byte), s.hears → s.restartPending = false →
     (kind = 0#8 ∨ (11 ≤ kind.toNat ∧ kind.toNat ≤ 126)) → payload.length ≤ 24 →
     exec (.unknownCommand dt kind payload) s = .next (s.replied dt (kind + 0x80#8) [8])) ∧
  (∀ (s : State) (dt : Nat) (kind : Byte) (payload : List Byte), s.link.trunk.tx = .idle →
    s.link.trunk.rx = .waiting → s.link.uplink.length = 3 → s.restartPending = false →
    (kind = 0#8 ∨ (11 ≤ kind.toNat ∧ kind.toNat ≤ 126)) → payload.length ≤ 24 →
    exec (.unknownCommand dt kind payload) s = .next { s with
      now := s.now + dt
      link := { s.link with
        trunk := { s.link.trunk with lastChar := some (s.now + dt) }
        trunkCount := { s.link.trunkCount with dropped := min 65535 (s.link.trunkCount.dropped + 1) } } }) ∧
  (∀ (s : State) (dt : Nat) (p : List Byte), s.hears → s.restartPending = false → p.length ≤ 24 →
    (p.length ≠ 1 → exec (.statusRead dt p) s = .next (s.replied dt 0x81 [1])) ∧
    (p.length < 2 → exec (.tableWrite dt p) s = .next (s.replied dt 0x82 [1])) ∧
    (p.length ≠ 3 → exec (.tableRead dt p) s = .next (s.replied dt 0x83 [1])) ∧
    (p.length ≠ 1 → exec (.historyRead dt p) s = .next (s.replied dt 0x85 [1])) ∧
    (p.length ≠ 2 → exec (.counterRead dt p) s = .next (s.replied dt 0x86 [1])) ∧
    (p.length ≠ 0 → exec (.arm dt p) s = .next (s.replied dt 0x87 [1]) ∧
      exec (.disarm dt p) s = .next (s.replied dt 0x88 [1]) ∧ exec (.restart dt p) s = .next (s.replied dt 0x89 [1])) ∧
    (p.length ≠ 3 → exec (.observationWrite dt p) s = .next (s.replied dt 0x8A [1])) ∧
    (∀ c : Instr, p.length ≠ 0 → p.length ≤ 23 →
      c ∈ [.defrostNow dt p, .defrostAbort dt p, .iceOn dt p, .iceOff dt p, .iceHarvestNow dt p, .faultClear dt p,
        .filterReset dt p] → exec c s = .next (s.replied dt 0x84 [1])) ∧
    (p.length ≠ 14 → p.length ≤ 23 → exec (.restore dt p) s = .next (s.replied dt 0x84 [1]))) ∧
  (∀ (s : State) (dt : Nat) (p : List Byte) (result : Byte), s.link.trunk.tx = .idle →
    s.link.trunk.rx = .atCheck s.ownAddress 4#8 p → s.link.uplink.length ≤ 2 → s.restartPending = false →
    (p = [] ∧ result = 1) ∨ (∃ code args, p = code :: args ∧ (code = 0#8 ∨ 8 < code.toNat) ∧ result = 8) →
    exec (.trunkFrameReceived dt (frameCheck s.ownAddress 4#8 p)) s = .next { s.replied dt 0x84 [result] with
      link := { s.repliedLink dt 0x84 [result] with
        trunk := { rx := .waiting, tx := .idle, lastChar := some (s.now + dt) } } })

/-- ARM, with the curves in use valid (R192, R17, R55, R59, R90, R96, R120). Clock and arrival as a whole frame are
the model's choices (log 1, log 6). -/
def Obligations.ArmStartsJobs : Prop :=
  ∀ (s : State) (dt : Nat), s.hears → s.restartPending = false → s.mode = .loading → s.ice.st = .off →
    s.defrost.st = .accrue →
    (∀ c, (s.tables.chanMap.get c).sel = .noCurve ∨
      curveValid (s.tables.curve (s.tables.chanMap.get c).sel) = true) →
    ∃ t, exec (.arm dt []) s = .next t ∧ t.mode = .running ∧ t.now = s.now + dt ∧
      t.defrost = { s.defrost with
        thr := if s.defrost.origin = .fromDefault then s.tables.defrost.thrstart else s.defrost.thr
        secondAt := s.now + dt + Config.tickSecond } ∧
      t.line = { s.line with flowk := s.tables.water.flowk, unclaimed := 0 } ∧
      t.gate.load = s.tables.load ∧ t.gate.budget = s.tables.general.budget ∧
      t.ice.secondAt = s.now + dt + Config.tickSecond ∧
      (s.ice.enabled = false → t.ice.st = .off) ∧
      (s.ice.enabled = true → s.inputs.home = false → t.ice.st = .harvestRake ∧ t.gate.reqState .em ≠ .noRequest) ∧
      (s.ice.enabled = true → s.inputs.home = true → s.ice.trayLoaded = true →
        t.ice.st = .freeze ∧ t.ice.belowtime = 0 ∧ t.ice.freezetime = 0) ∧
      (s.ice.enabled = true → s.inputs.home = true → s.ice.trayLoaded = false → t.ice.st = .park) ∧
      t.link = s.repliedLink dt 0x87 [0] ∧ t.tables = s.tables ∧ KeepsSenses s t ∧ t.pending = s.pending

/-- ARM refused: INVALID names the first failing point of the first invalid curve in use, the channels taken in the
order EVAP, FZAIR, TRAY, TANK; WRONG_MODE in RUNNING (R192). When a curve is valid, and which point fails first
(R140). Clock and arrival as a whole frame are the model's choices (log 1, log 6). -/
def Obligations.ArmRefused : Prop :=
  (∀ (s : State) (dt : Nat), s.hears → s.restartPending = false →
    (s.mode = .running → exec (.arm dt []) s = .next (s.replied dt 0x87 [5])) ∧
    (∀ (before after : List Chan) (c : Chan) (i : Nat), s.mode = .loading →
      [Chan.evap, .fzair, .tray, .tank] = before ++ c :: after →
      (∀ x ∈ before, (s.tables.chanMap.get x).sel = .noCurve ∨
        curveValid (s.tables.curve (s.tables.chanMap.get x).sel) = true) →
      ((s.tables.chanMap.get c).sel = .curveA → firstFailing s.tables.curveA = some i →
        exec (.arm dt []) s = .next (s.replied dt 0x87 [7, 3, byteOf i])) ∧
      ((s.tables.chanMap.get c).sel = .curveB → firstFailing s.tables.curveB = some i →
        exec (.arm dt []) s = .next (s.replied dt 0x87 [7, 3, byteOf (i + 16)])))) ∧
  (∀ t : Tables, t.curve .curveA = t.curveA ∧ t.curve .curveB = t.curveB) ∧
  (∀ (count : Nat → Nat) (temp : Nat → Int) (pts : List CurvePoint) (steps : Nat → Prop),
    pts = (List.range 16).map (fun i => { count := count i, temp := temp i }) →
    (∀ i, steps i ↔ count (i - 1) < count i ∧
      (if temp 0 < temp 1 then temp (i - 1) < temp i else temp i < temp (i - 1))) →
    (curveValid pts = true ↔ (∀ i, i < 15 → count i < count (i + 1)) ∧
      ((∀ i, i < 15 → temp i < temp (i + 1)) ∨ (∀ i, i < 15 → temp (i + 1) < temp i))) ∧
    (∀ i, firstFailing pts = some i ↔ 1 ≤ i ∧ i ≤ 15 ∧ ¬steps i ∧ ∀ j, 1 ≤ j → j < i → steps j))

/-- DISARM (R193, R13, R19, R24, R38, R67, R97, R117, R133): every job stops, every load is off, what is learned is
kept, and a cycle whose heat has begun is recorded. Clock and arrival as a whole frame are the model's choices (log 1,
log 6). What a cycle's end discards is log 10; AD's line in LOADING is log 11. -/
def Obligations.DisarmStopsEverything : Prop :=
  ∀ (s : State) (dt : Nat), s.hears → s.restartPending = false →
    (s.mode = .loading → exec (.disarm dt []) s = .next (s.replied dt 0x88 [5])) ∧
    (s.mode = .running → ∃ t, exec (.disarm dt []) s = .next t ∧ t.mode = .loading ∧ t.drives = .allOff ∧
      (s.defrost.st = .accrue ∨ s.defrost.st = .due ∨ s.defrost.st = .hold ∨
          (s.defrost.st = .heat ∧ s.defrost.heatBegun = false) →
        t.defrost = { s.defrost with
          st := .accrue, stateTime := 0, trigger := .noTrigger, startEstimate := 0, cause := .noCause,
          heatBegun := false }) ∧
      (s.defrost.st = .heat → s.defrost.heatBegun = true →
        t.defrost = { s.defrost with
          st := .accrue, stateTime := 0, trigger := .noTrigger, startEstimate := 0, cause := .noCause,
          heatBegun := false, estimate := 0, capElapsed := 0, thrBefore := s.defrost.thr, thrAfter := s.defrost.thr
          ring := ({ seq := s.defrost.nextSeq, trigger := s.defrost.trigger, cause := .abort,
                     compHeld := s.defrost.compHeld, startEstimate := s.defrost.startEstimate,
                     thrBefore := s.defrost.thr, thrAfter := s.defrost.thr, heaterOn := s.defrost.heaterOn,
                     cycleSeconds := s.defrost.cycleTime, unread := true } :: s.defrost.ring).take 4
          nextSeq := (s.defrost.nextSeq + 1) % 256 }) ∧
      (s.defrost.st = .drip ∨ s.defrost.st = .recover →
        t.defrost = { s.defrost with
          st := .accrue, stateTime := 0, trigger := .noTrigger, startEstimate := 0, cause := .noCause,
          heatBegun := false, estimate := 0, capElapsed := 0
          ring := ({ seq := s.defrost.nextSeq, trigger := s.defrost.trigger, cause := s.defrost.cause,
                     compHeld := s.defrost.compHeld, startEstimate := s.defrost.startEstimate,
                     thrBefore := s.defrost.thrBefore, thrAfter := s.defrost.thrAfter,
                     heaterOn := s.defrost.heaterOn, cycleSeconds := s.defrost.cycleTime,
                     unread := true } :: s.defrost.ring).take 4
          nextSeq := (s.defrost.nextSeq + 1) % 256 }) ∧
      t.ice.st = .off ∧ t.ice.enabled = s.ice.enabled ∧ t.ice.trayLoaded = s.ice.trayLoaded ∧
      t.ice.faultCount = s.ice.faultCount ∧ t.ice.cycles = s.ice.cycles ∧ t.ice.cause = .noCause ∧
      t.ice.disablePending = false ∧ t.ice.retry = 0 ∧
      t.disp.st = .idle ∧ t.disp.measured = .inactive ∧
      t.disp.press = (if s.inputs.paddle then .spent else .noPress) ∧ t.disp.latched = s.disp.latched ∧
      t.disp.adReverse = s.disp.adReverse ∧ t.disp.target = s.disp.target ∧
      t.line.st = .idle ∧ t.line.fillWaiting = false ∧ t.line.fillSuspended = false ∧
      t.line.fillTally = s.line.fillTally ∧ t.line.pourTally = s.line.pourTally ∧ t.line.flowk = s.line.flowk ∧
      t.line.leak = s.line.leak ∧ t.line.nosupply = s.line.nosupply ∧
      (s.line.st = .fill → t.line.lastClosed = some .iv ∧ t.line.closeAt = s.now + dt) ∧
      (s.line.st = .pour → t.line.lastClosed = some .wv ∧ t.line.closeAt = s.now + dt) ∧
      (∀ o, t.gate.reqState o = .noRequest) ∧ t.gate.wait = [] ∧ t.gate.hm = .hmOpen ∧
      t.now = s.now + dt ∧ t.ownAddress = s.ownAddress ∧ t.restartPending = false ∧
      t.link = s.repliedLink dt 0x88 [0] ∧ t.tables = s.tables ∧ KeepsSenses s t ∧ t.pending = s.pending)

/-- RESTART (R194): the reply is offered and the mark set; nothing else changes in that event. While the mark is set
every command but Status Read and DEFROST ABORT is lost (R195). A DEFROST ABORT is taken as R39 has it or lost as R195
has it, by a free value of the model's (log 31): without arguments in DefrostAbortEndsCycleOrHeat, with arguments it is
answered BAD_LENGTH (R185, R190) or lost. Clock and arrival as a whole frame are the model's choices (log 1, log 6). -/
def Obligations.RestartWaitsForReply : Prop :=
  ∀ (s : State) (dt : Nat), s.hears →
    (s.restartPending = false → exec (.restart dt []) s = .next { s with
      now := s.now + dt
      restartPending := true
      link := { s.link with
        trunk := { s.link.trunk with lastChar := some (s.now + dt) }
        uplink := s.link.uplink ++
          [{ frame := Frame.build s.ownAddress 0x89 [0], isRestartReply := true }] } }) ∧
    (∀ (c : Instr) (payload : List Byte), s.restartPending = true → payload.length ≤ 23 →
      c ∈ [.restart dt payload, .arm dt payload, .disarm dt payload, .tableWrite dt payload, .tableRead dt payload,
        .historyRead dt payload, .counterRead dt payload, .observationWrite dt payload, .defrostNow dt payload,
        .iceOn dt payload, .iceOff dt payload, .iceHarvestNow dt payload, .faultClear dt payload,
        .filterReset dt payload, .restore dt payload] →
      exec c s = .next (s.atCommand dt)) ∧
    (∀ args : List Byte, s.restartPending = true → args ≠ [] → args.length ≤ 23 →
      exec (.defrostAbort dt args) s =
        .next (if Config.abortActsWhilePending args = true then s.replied dt 0x84 [1] else s.atCommand dt)) ∧
    (∀ (kind : Byte) (payload : List Byte), s.restartPending = true → payload.length ≤ 24 →
      (kind = 0#8 ∨ (11 ≤ kind.toNat ∧ kind.toNat ≤ 126)) →
      exec (.unknownCommand dt kind payload) s = .next (s.atCommand dt))

/-- Restart takes effect when its reply has been sent, has been stopped by a collision, or is dropped at its offer
(R194, R196): every block at its Restart value, the cycle it ends treated as R39 has it, its record written where the
heat had begun (R13, R19, R25), the ring, the next sequence and the filter kept. Clock and arrival as a whole frame
are the model's choices (log 1, log 6). What the model keeps for itself on a Restart is log 19 and log 22; that DOOR's
driver enable trailing a check already sent is released at once is log 39. -/
def Obligations.RestartTakesEffect : Prop :=
  ∀ s : State,
    (∀ dt, s.link.trunk.tx = .idle → s.link.trunk.rx = .waiting → s.restartPending = false →
      s.link.uplink.length = 3 → ∃ t, exec (.restart dt []) s = .next t ∧ RestartValues s t) ∧
    (∀ b e rest, s.link.trunk.tx = .sending b → s.link.uplink = e :: rest → e.isRestartReply = true →
      s.restartPending = true →
      (∃ t, exec .trunkFrameSent s = .next t ∧ RestartValues s t) ∧
      (∀ dt, ∃ t, exec (.collision dt) s = .next t ∧ RestartValues s t))

/-! ### Job commands -/

/-- DEFROST_NOW, and the second that falls together with it and is taken after it: it tests nothing (R7, R8). Clock and
arrival as a whole frame are the model's choices (log 1, log 6), and so are what that second counts, that it falls
together with a command taken at the moment it completes, and that one which would not have triggered tests nothing
either (log 40). -/
def Obligations.DefrostNowForcesCycle : Prop :=
  ∀ (s : State) (dt : Nat), s.hears → s.restartPending = false →
    (s.mode = .loading → exec (.defrostNow dt []) s = .next (s.replied dt 0x84 [5])) ∧
    (s.mode = .running → s.defrost.st ≠ .accrue → exec (.defrostNow dt []) s = .next (s.replied dt 0x84 [6])) ∧
    (s.mode = .running → s.defrost.st = .accrue →
      exec (.defrostNow dt []) s = .next { s.replied dt 0x84 [0] with
        defrost := { s.defrost with
          st := .hold, stateTime := 0, trigger := .forced, startEstimate := s.defrost.estimate, cycleTime := 0,
          heatBegun := false, heaterOn := 0, cause := .noCause, thrBefore := s.defrost.thr,
          thrAfter := s.defrost.thr, timeInDue := 0, compHeld := false, startedAt := s.now + dt } } ∧
      (s.defrost.secondAt ≤ s.now + dt → ∃ t, exec (.defrostNow dt []) s = .next t ∧
        exec .defrostSecond t = .next { t with
          defrost := { t.defrost with
            secondAt := s.defrost.secondAt + Config.tickSecond
            capElapsed := min 3932100 (s.defrost.capElapsed + 1)
            cycleTime := 1, stateTime := 1 } }))

/-- DEFROST_ABORT (R13, R37): refused, the cycle abandoned before its heat, or the heat ended with cause ABORT. While
Restart is pending it does the same (R39) or is lost (R195): the rules say the two things, and which one a part does is
a free value of the model's (log 31). Clock and arrival as a whole frame are the model's choices (log 1, log 6). What a
cycle's end discards is log 10. -/
def Obligations.DefrostAbortEndsCycleOrHeat : Prop :=
  ∀ (s : State) (dt : Nat), s.hears →
    (s.restartPending = false → DefrostAborted dt s) ∧
    (s.restartPending = true →
      if Config.abortActsWhilePending [] = true then DefrostAborted dt s
      else exec (.defrostAbort dt []) s = .next (s.atCommand dt))

/-- ICE_ON and ICE_OFF (R91, R92). Clock and arrival as a whole frame are the model's choices (log 1, log 6); that ICE
ON in PARK leaves a disable pending as it stands is log 32. -/
def Obligations.IceOnAndOff : Prop :=
  ∀ (s : State) (dt : Nat), s.hears → s.restartPending = false →
    (s.mode = .loading → exec (.iceOn dt []) s =
      .next { s.replied dt 0x84 [0] with ice := { s.ice with enabled := true } }) ∧
    (s.mode = .running → s.ice.st.inRound = true → exec (.iceOn dt []) s =
      .next { s.replied dt 0x84 [0] with ice := { s.ice with enabled := true, disablePending := false } }) ∧
    (s.mode = .running → s.ice.st = .park ∨ s.ice.st = .binfull ∨ s.ice.st = .fault → exec (.iceOn dt []) s =
      .next { s.replied dt 0x84 [0] with ice := { s.ice with enabled := true } }) ∧
    (s.mode = .running → s.ice.st = .off → s.inputs.home = true → exec (.iceOn dt []) s =
      .next { s.replied dt 0x84 [0] with
        ice := if s.ice.trayLoaded then { s.ice with enabled := true, st := .freeze, belowtime := 0, freezetime := 0 }
               else { s.ice with enabled := true, st := .park } }) ∧
    (s.mode = .running → s.ice.st = .off → s.inputs.home = false → ∃ t, exec (.iceOn dt []) s = .next t ∧
      t.ice.st = .harvestRake ∧ t.ice.enabled = true ∧ t.gate.reqState .em ≠ .noRequest ∧
      t.line = s.line ∧ t.link = s.repliedLink dt 0x84 [0] ∧ KeepsSetup s t ∧ KeepsSenses s t) ∧
    (s.mode = .loading ∨ s.ice.st = .off → exec (.iceOff dt []) s =
      .next { s.replied dt 0x84 [0] with ice := { s.ice with enabled := false } }) ∧
    (s.mode = .running → s.ice.st.inRound = true → exec (.iceOff dt []) s =
      .next { s.replied dt 0x84 [0] with ice := { s.ice with enabled := false, disablePending := true } }) ∧
    (s.mode = .running → s.ice.st = .park ∨ s.ice.st = .binfull ∨ s.ice.st = .fault →
      ∃ t, exec (.iceOff dt []) s = .next t ∧
        t.ice = { s.ice with
          enabled := false, st := .off, disablePending := false, retry := 0, binwaitAt := none, resumeAt := none,
          trailAt := none, cause := .noCause } ∧
        (s.apart .ft → t.gate.reqState .ft = .noRequest) ∧ (s.noneWaitsBut .ft → t.disp = s.disp) ∧
        t.line = s.line ∧ t.link = s.repliedLink dt 0x84 [0] ∧ KeepsSetup s t ∧ KeepsSenses s t) ∧
    (s.ice.st.inRound = true ↔
      s.ice.st.inFill = true ∨ s.ice.st = .freeze ∨ s.ice.st = .harvestHeat ∨ s.ice.st = .harvestRake)

/-- ICE_HARVEST_NOW (R84, R93). Clock and arrival as a whole frame are the model's choices (log 1, log 6). -/
def Obligations.IceHarvestNowBegins : Prop :=
  ∀ (s : State) (dt : Nat), s.hears → s.restartPending = false →
    (s.mode = .loading ∨ s.ice.st = .off → exec (.iceHarvestNow dt []) s = .next (s.replied dt 0x84 [5])) ∧
    (s.mode = .running →
      s.ice.st.inFill = true ∨ s.ice.st = .harvestHeat ∨ s.ice.st = .harvestRake ∨ s.ice.st = .fault →
      exec (.iceHarvestNow dt []) s = .next (s.replied dt 0x84 [6])) ∧
    (s.mode = .running → s.ice.st = .park ∨ s.ice.st = .freeze ∨ s.ice.st = .binfull →
      ∃ t, exec (.iceHarvestNow dt []) s = .next t ∧
        t.ice = { s.ice with st := .harvestHeat, heatTime := 0, binwaitAt := none } ∧
        t.gate.reqState .th ≠ .noRequest ∧ t.line = s.line ∧ t.link = s.repliedLink dt 0x84 [0] ∧
        KeepsSetup s t ∧ KeepsSenses s t) ∧
    (s.ice.st.inFill = true ↔ ∃ sub, s.ice.st = .fill sub)

/-- FAULT_CLEAR (R60, R94). Clock and arrival as a whole frame are the model's choices (log 1, log 6). -/
def Obligations.FaultClearClears : Prop :=
  ∀ (s : State) (dt : Nat), s.hears → s.restartPending = false →
    (s.ice.st ≠ .fault → exec (.faultClear dt []) s = .next { s.replied dt 0x84 [0] with
      line := { s.line with leak := false, nosupply := false, unclaimed := 0 } }) ∧
    (s.ice.st = .fault → s.ice.enabled = true → s.inputs.home = true →
      exec (.faultClear dt []) s = .next { s.replied dt 0x84 [0] with
        line := { s.line with leak := false, nosupply := false, unclaimed := 0 }
        ice := if s.ice.trayLoaded then
                 { s.ice with faultCount := 0, cause := .noCause, st := .freeze, belowtime := 0, freezetime := 0 }
               else { s.ice with faultCount := 0, cause := .noCause, st := .park } }) ∧
    (s.ice.st = .fault → s.ice.enabled = true → s.inputs.home = false →
      ∃ t, exec (.faultClear dt []) s = .next t ∧ t.ice.st = .harvestRake ∧ t.ice.faultCount = 0 ∧
        t.ice.cause = .noCause ∧ t.gate.reqState .em ≠ .noRequest ∧
        t.line = { s.line with leak := false, nosupply := false, unclaimed := 0 } ∧
        t.link = s.repliedLink dt 0x84 [0] ∧ KeepsSetup s t ∧ KeepsSenses s t) ∧
    (s.ice.st = .fault → s.ice.enabled = false →
      ∃ t, exec (.faultClear dt []) s = .next t ∧ t.ice.st = .off ∧ t.ice.faultCount = 0 ∧ t.ice.cause = .noCause ∧
        t.line = { s.line with leak := false, nosupply := false, unclaimed := 0 } ∧
        t.link = s.repliedLink dt 0x84 [0] ∧ KeepsSetup s t ∧ KeepsSenses s t)

/-- FILTER_RESET and RESTORE (R16, R63, R64, R190). Clock and arrival as a whole frame are the model's choices (log 1,
log 6). GOOD whatever FILTERWARN is log 12. -/
def Obligations.FilterResetAndRestore : Prop :=
  ∀ (s : State) (dt : Nat), s.hears → s.restartPending = false →
    exec (.filterReset dt []) s = .next { s.replied dt 0x84 [0] with
      line := { s.line with filterTotal := 0, filterRemainder := 0, filterState := .good } } ∧
    (∀ args : List Byte, args.length = 14 → s.mode = .running →
      exec (.restore dt args) s = .next (s.replied dt 0x84 [5])) ∧
    (∀ args : List Byte, args.length = 14 → s.mode = .loading →
      exec (.restore dt args) s = .next { s.replied dt 0x84 [0] with
        defrost := { s.defrost with
          thr := clampNat s.tables.defrost.thrmin s.tables.defrost.thrmax (numberOf (args.take 4))
          origin := .restored
          estimate := min 16777215 (numberOf ((args.drop 4).take 4))
          capElapsed := numberOf ((args.drop 8).take 2) * 60 }
        line := { s.line with
          filterTotal := numberOf (args.drop 10), filterRemainder := 0,
          filterState := if s.tables.water.filtercap ≤ numberOf (args.drop 10) / 1000 then .expired
                         else if s.tables.water.filtercap ≤
                             numberOf (args.drop 10) / 1000 + s.tables.water.filterwarn then .due
                         else .good } })

/-! ### Table Write -/

/-- A write of THRSTART, THRMIN or THRMAX, and of several of them in one write (R14, R188): all clamped first, then
ordered, the live THR brought into the range, and the count of what is stored otherwise than written or moved
unwritten. Clock and arrival as a whole frame are the model's choices (log 1, log 6). -/
def Obligations.ThresholdWriteOrders : Prop :=
  (∀ (s : State) (dt i : Nat) (b0 b1 b2 : Byte) (p : DefrostParams), s.hears → s.restartPending = false → i ≤ 2 →
    p = (s.tables.defrost.set i (clampInt 57600 8294400 (numberOf [b0, b1, b2]))).orderThr →
    exec (.tableWrite dt [7, byteOf i, b0, b1, b2]) s =
      .next { s.replied dt 0x82 [0, byteOf
          ((if p.get i = (numberOf [b0, b1, b2] : Int) then 0 else 1) +
           (if i = 0 ∨ p.thrstart = s.tables.defrost.thrstart then 0 else 1) +
           (if i = 1 ∨ p.thrmin = s.tables.defrost.thrmin then 0 else 1) +
           (if i = 2 ∨ p.thrmax = s.tables.defrost.thrmax then 0 else 1))] with
        tables := { s.tables with defrost := p }
        defrost := { s.defrost with thr := max p.thrmin (min p.thrmax s.defrost.thr) } } ∧
    p.thrmax = max p.thrmin (s.tables.defrost.set i (clampInt 57600 8294400 (numberOf [b0, b1, b2]))).thrmax ∧
    p.thrmin = (s.tables.defrost.set i (clampInt 57600 8294400 (numberOf [b0, b1, b2]))).thrmin ∧
    p.thrstart = max p.thrmin (min p.thrmax
      (s.tables.defrost.set i (clampInt 57600 8294400 (numberOf [b0, b1, b2]))).thrstart) ∧
    p.thrmin ≤ p.thrstart ∧ p.thrstart ≤ p.thrmax) ∧
  (∀ (s : State) (dt i n : Nat) (data : List Byte) (stored written base : Nat → Nat) (p : DefrostParams), s.hears →
    s.restartPending = false → data.length = 3 * n → 1 ≤ n → i + n ≤ 3 →
    stored 0 = s.tables.defrost.thrstart → stored 1 = s.tables.defrost.thrmin → stored 2 = s.tables.defrost.thrmax →
    (∀ j, j < n → written (i + j) = numberOf ((data.drop (3 * j)).take 3)) →
    (∀ j, base j = if i ≤ j ∧ j < i + n then max 57600 (min 8294400 (written j)) else stored j) →
    p = { s.tables.defrost with
          thrmin := base 1, thrmax := max (base 1) (base 2)
          thrstart := max (base 1) (min (max (base 1) (base 2)) (base 0)) } →
    exec (.tableWrite dt (7 :: byteOf i :: data)) s =
      .next { s.replied dt 0x82 [0, byteOf
          ((if p.thrstart = (if i = 0 then written 0 else stored 0) then 0 else 1) +
           (if p.thrmin = (if i ≤ 1 ∧ 1 < i + n then written 1 else stored 1) then 0 else 1) +
           (if p.thrmax = (if i + n = 3 then written 2 else stored 2) then 0 else 1))] with
        tables := { s.tables with defrost := p }
        defrost := { s.defrost with thr := max p.thrmin (min p.thrmax s.defrost.thr) } })

/-- The refusals of Table Write (R185, R188): nothing is stored, of the other entries of the write neither. Clock and
arrival as a whole frame are the model's choices (log 1, log 6). That a table id out of range is found before an empty
list of entries is log 25. -/
def Obligations.TableWriteRefusals : Prop :=
  ∀ (s : State) (dt : Nat) (id first : Byte) (data : List Byte), s.hears → s.restartPending = false →
    data.length ≤ 22 →
    (id = 0#8 ∨ 9 < id.toNat → exec (.tableWrite dt (id :: first :: data)) s = .next (s.replied dt 0x82 [2])) ∧
    (1 ≤ id.toNat → id.toNat ≤ 9 → data = [] ∨ data.length % entryBytes id.toNat ≠ 0 →
      exec (.tableWrite dt (id :: first :: data)) s = .next (s.replied dt 0x82 [1])) ∧
    (1 ≤ id.toNat → id.toNat ≤ 9 → data ≠ [] → data.length % entryBytes id.toNat = 0 →
      tableEntries id.toNat < first.toNat + data.length / entryBytes id.toNat →
      exec (.tableWrite dt (id :: first :: data)) s = .next (s.replied dt 0x82 [3])) ∧
    (s.mode = .running → id = 3#8 ∨ id = 4#8 ∨ id = 5#8 ∨ (id = 6#8 ∧ first = 0#8) → data ≠ [] →
      data.length % entryBytes id.toNat = 0 →
      first.toNat + data.length / entryBytes id.toNat ≤ tableEntries id.toNat →
      exec (.tableWrite dt (id :: first :: data)) s = .next (s.replied dt 0x82 [5])) ∧
    (id = 1#8 → data.length = 8 → first.toNat < 16 → RouteEntry.ofBytes data = none →
      exec (.tableWrite dt (id :: first :: data)) s = .next (s.replied dt 0x82 [4])) ∧
    (id = 4#8 → s.mode = .loading → data.length = 5 → first.toNat < 4 → 2 < (data.getD 0 0).toNat →
      exec (.tableWrite dt (id :: first :: data)) s = .next (s.replied dt 0x82 [4])) ∧
    (id = 1#8 → data.length = 16 → first.toNat < 15 →
      RouteEntry.ofBytes (data.take 8) = none ∨ RouteEntry.ofBytes (data.drop 8) = none →
      exec (.tableWrite dt (id :: first :: data)) s = .next (s.replied dt 0x82 [4])) ∧
    (∀ j n : Nat, id = 4#8 → s.mode = .loading → data.length = 5 * n → first.toNat + n ≤ 4 → j < n →
      2 < (data.getD (5 * j) 0).toNat →
      exec (.tableWrite dt (id :: first :: data)) s = .next (s.replied dt 0x82 [4]))

/-- What a Table Write stores, table by table, of one entry and of n entries, what its owner does at once, and the
count in its reply (R187, R188): route (R170), door set (R167), curve point (R138, R139, R144), channel map (R145),
load table (R119, R120), the general parameters (R119, R128, R150, R173, R181), the defrost parameters past the
threshold range (R26, R40), the ice parameters (R70, R77, R95), the water and dispense parameters (R55, R63, R66,
R116). Of n entries each is stored at its consecutive index; of the parameter tables all values are clamped first, the
orderings of R14, R40 and R181 are made after that, and the count is summed over the whole write. Clock and arrival as
a whole frame are the model's choices (log 1, log 6). -/
def Obligations.TableWriteStores : Prop :=
  (∀ (s : State) (dt i n : Nat) (b0 b1 b2 : Byte), s.hears → s.restartPending = false → n = numberOf [b0, b1, b2] →
    (∀ (data : List Byte) (e : RouteEntry), i < 16 → s.tables.route.length = 16 → data.length = 8 →
      RouteEntry.ofBytes data = some e →
      exec (.tableWrite dt (1 :: byteOf i :: data)) s = .next { s.replied dt 0x82 [0, 0] with
        tables := { s.tables with route := s.tables.route.set i e } }) ∧
    (∀ (data : List Byte) (written : BitVec 64), data.length = 8 → written = BitVec.ofNat 64 (numberOf data) →
      ∃ stored : BitVec 64, exec (.tableWrite dt (2 :: 0 :: data)) s = .next { s.replied dt 0x82 [0, byteOf
          ((if written.getLsbD 0 then 1 else 0) + (if written.getLsbD 63 then 1 else 0) +
           (if written.getLsbD s.ownAddress.toNat then 1 else 0))] with
        tables := { s.tables with doorSet := stored } } ∧
      ∀ a, a < 64 → stored.getLsbD a = (written.getLsbD a && decide (a ≠ 0 ∧ a ≠ 63 ∧ a ≠ s.ownAddress.toNat))) ∧
    (∀ (b3 : Byte) (q : CurvePoint) (raw : Int) (sel : CurveSel), i < 32 → s.mode = .loading →
      s.tables.curveA.length = 16 → s.tables.curveB.length = 16 → sel = (if i < 16 then .curveA else .curveB) →
      raw = (if 32768 ≤ b2.toNat * 256 + b3.toNat then (b2.toNat * 256 + b3.toNat : Int) - 65536
             else b2.toNat * 256 + b3.toNat) →
      q = { count := min 4095 (b0.toNat * 256 + b1.toNat), temp := max (-32767) raw } →
      ∃ t, exec (.tableWrite dt [3, byteOf i, b0, b1, b2, b3]) s = .next t ∧
        t.tables = { s.tables with
          curveA := if i < 16 then s.tables.curveA.set i q else s.tables.curveA
          curveB := if i < 16 then s.tables.curveB else s.tables.curveB.set (i - 16) q } ∧
        (∀ c, (s.tables.chanMap.get c).sel ≠ sel → t.temps.get c = s.temps.get c) ∧
        (∀ c, (s.tables.chanMap.get c).sel = sel →
          t.temps.get c = { s.temps.get c with
            value := if curveValid (t.tables.curve sel) = true ∧ (s.temps.get c).range = .settled
                     then (s.temps.get c).mean.bind (fun mean => convert mean (t.tables.curve sel)) else none }) ∧
        t.link = s.repliedLink dt 0x82 [0, byteOf ((if b0.toNat * 256 + b1.toNat ≤ 4095 then 0 else 1) +
          (if raw = -32768 then 1 else 0))] ∧
        t.now = s.now + dt ∧ t.mode = s.mode ∧ t.obs = s.obs ∧ t.inputs = s.inputs ∧ t.ownAddress = s.ownAddress ∧
        t.restartPending = false ∧ t.pending = s.pending ∧ KeepsJobs s t) ∧
    (∀ (b3 b4 : Byte) (e : ChanMapEntry), i < 4 → s.mode = .loading → b0.toNat = e.sel.code →
      e.below = min 4095 (b1.toNat * 256 + b2.toNat) →
      e.above = max e.below (min 4095 (b3.toNat * 256 + b4.toNat)) →
      exec (.tableWrite dt [4, byteOf i, b0, b1, b2, b3, b4]) s = .next { s.replied dt 0x82 [0, byteOf
          ((if e.below = b1.toNat * 256 + b2.toNat then 0 else 1) +
           (if e.above = b3.toNat * 256 + b4.toNat then 0 else 1))] with
        tables := { s.tables with chanMap := s.tables.chanMap.set (.ofIndex i) e }
        temps := s.temps.set (.ofIndex i) { range := .unsettled, total := 0, lowRun := 0, highRun := 0, inRun := 0,
                                            history := [], value := none } }) ∧
    (i < 5 → s.mode = .loading →
      exec (.tableWrite dt [5, byteOf i, b0, b1, b2]) s = .next { s.replied dt 0x82 [0, byteOf
          ((if b0.toNat ≤ 15 then 0 else 1) + (if b1.toNat ≤ 2 then 0 else 1))] with
        tables := { s.tables with
          load := s.tables.load.set (.ofIndex i) { weight := min 15 b0.toNat, cls := min 2 b1.toNat,
                                                   aging := b2.toNat } } }) ∧
    (∀ table lo hi : Nat,
      (table, i, lo, hi) ∈ [(6, 0, 1, 60), (6, 1, 50, 1000), (6, 2, 1, 60), (6, 3, 2, 50), (6, 6, 0, 2), (6, 7, 0, 2),
        (7, 3, 0, 255), (7, 4, 0, 255), (7, 5, 0, 255), (7, 9, 300, 3600), (7, 10, 0, 900), (7, 12, 0, 900),
        (7, 13, 0, 600), (7, 14, 0, 3600), (7, 15, 24, 168), (9, 1, 10, 1000), (9, 2, 0, 3000), (9, 3, 100, 2000),
        (9, 4, 1, 10), (9, 5, 2, 30), (9, 6, 1, 1000), (9, 7, 10, 300), (9, 8, 5, 120), (9, 9, 1, 10), (9, 10, 5, 120),
        (9, 14, 10, 1000)] →
      (table = 6 → i = 0 → s.mode = .loading) →
      exec (.tableWrite dt [byteOf table, byteOf i, b0, b1, b2]) s = .next {
        s.replied dt 0x82 [0, if lo ≤ n ∧ n ≤ hi then 0 else 1] with
          tables := s.tables.setParam table i ((max lo (min hi n) : Nat) : Int) }) ∧
    (∀ (table : Nat) (lo hi v : Int), (table, i, lo, hi) ∈ [(7, 8, 20, 200), (7, 11, -300, 0), (9, 13, 0, 150)] →
      v = (if 8388608 ≤ n then (n : Int) - 16777216 else n) →
      exec (.tableWrite dt [byteOf table, byteOf i, b0, b1, b2]) s = .next {
        s.replied dt 0x82 [0, if lo ≤ v ∧ v ≤ hi then 0 else 1] with
          tables := s.tables.setParam table i (max lo (min hi v)) }) ∧
    (∀ (g : GeneralParams) (c : Nat), i = 4 ∨ i = 5 →
      g = (if i = 4 then { s.tables.general with
                           relayhigh := max 1 (min 4 n)
                           relaylow := min s.tables.general.relaylow (max 1 (min 4 n) - 1) }
           else { s.tables.general with relaylow := min (min 3 n) (s.tables.general.relayhigh - 1) }) →
      c = (if i = 4 then (if g.relayhigh = n then 0 else 1) + (if g.relaylow = s.tables.general.relaylow then 0 else 1)
           else (if g.relaylow = n then 0 else 1)) →
      exec (.tableWrite dt [6, byteOf i, b0, b1, b2]) s = .next { s.replied dt 0x82 [0, byteOf c] with
        tables := { s.tables with general := g }
        link := { s.repliedLink dt 0x82 [0, byteOf c] with
          flow := if s.link.flow = .flowOpen ∧ g.relayhigh ≤ s.link.relay.length then .flowBusy
                  else if s.link.flow = .flowBusy ∧ s.link.relay.length ≤ g.relaylow then .flowOpen
                  else s.link.flow } }) ∧
    (∀ (k : ObsKind) (e : ObsEntry), i = k.code + 7 → e = s.obs.get k →
      exec (.tableWrite dt [6, byteOf i, b0, b1, b2]) s = .next {
        s.replied dt 0x82 [0, if n ≤ 255 then 0 else 1] with
          tables := { s.tables with general := s.tables.general.set i (min 255 n : Nat) }
          obs := s.obs.set k { e with
            st := if e.st = .fresh ∧ n ≠ 0 ∧ min 255 n ≤ e.age then .stale else e.st } }) ∧
    (∀ p : DefrostParams, i = 6 ∨ i = 7 →
      p = (if i = 6 then { s.tables.defrost with
                           targetheat := max 300 (min 3600 n)
                           heatmax := max s.tables.defrost.heatmax (max 300 (min 3600 n)) }
           else { s.tables.defrost with heatmax := max (max 600 (min 5400 n)) s.tables.defrost.targetheat }) →
      exec (.tableWrite dt [7, byteOf i, b0, b1, b2]) s = .next { s.replied dt 0x82 [0, byteOf (if i = 6
          then (if p.targetheat = n then 0 else 1) + (if p.heatmax = s.tables.defrost.heatmax then 0 else 1)
          else (if p.heatmax = n then 0 else 1))] with
        tables := { s.tables with defrost := p } }) ∧
    (∀ lo hi v : Int,
      (i, lo, hi) ∈ [(2, 0, 600), (3, -250, 0), (4, -200, -50), (5, 60, 1800), (6, 1800, 14400), (7, 1800, 14400),
        (8, 0, 100), (9, 30, 600), (10, 1, 10), (11, 5, 60), (12, 60, 3600), (13, 0, 3), (14, 60, 3600)] →
      v = (if (i = 3 ∨ i = 4 ∨ i = 8) ∧ 8388608 ≤ n then (n : Int) - 16777216 else n) →
      exec (.tableWrite dt [8, byteOf i, b0, b1, b2]) s =
        .next { s.replied dt 0x82 [0, if lo ≤ v ∧ v ≤ hi then 0 else 1] with
          tables := { s.tables with ice := s.tables.ice.set i (max lo (min hi v)) } }) ∧
    (s.ice.st.inFill = false →
      exec (.tableWrite dt [8, 0, b0, b1, b2]) s = .next { s.replied dt 0x82 [0, if 50 ≤ n ∧ n ≤ 250 then 0 else 1] with
        tables := { s.tables with ice := { s.tables.ice with fillvol := max 50 (min 250 n) } } } ∧
      exec (.tableWrite dt [8, 1, b0, b1, b2]) s = .next { s.replied dt 0x82 [0, if 2 ≤ n ∧ n ≤ 30 then 0 else 1] with
        tables := { s.tables with ice := { s.tables.ice with fillmax := max 2 (min 30 n) } } }) ∧
    (s.ice.st = .fill .flowing → s.ice.opened = true → s.line.st = .fill → s.line.flowk ≠ 0 →
      max 50 (min 250 n) ≤ s.line.fillTally * 1000 / s.line.flowk →
      ∃ t, exec (.tableWrite dt [8, 0, b0, b1, b2]) s = .next t ∧ t.tables.ice.fillvol = max 50 (min 250 n) ∧
        t.ice.st = .freeze ∧ t.ice.faultCount = 0 ∧ t.line.st = .idle ∧ t.line.lastClosed = some .iv ∧
        t.line.closeAt = s.now + dt ∧ t.obs = s.obs ∧
        t.link = s.repliedLink dt 0x82 [0, if 50 ≤ n ∧ n ≤ 250 then 0 else 1]) ∧
    (s.ice.st = .fill .flowing → s.line.st = .fill → s.line.flowk ≠ 0 →
      s.tables.ice.fillvol / 4 ≤ s.line.fillTally * 1000 / s.line.flowk →
      max 2 (min 30 n) * 1000 ≤ s.ice.elapsed + (s.now + dt - s.line.openedAt) / Config.tickMs →
      ∃ t, exec (.tableWrite dt [8, 1, b0, b1, b2]) s = .next t ∧ t.tables.ice.fillmax = max 2 (min 30 n) ∧
        t.ice.st = .freeze ∧ t.ice.faultCount = 0 ∧ t.line.st = .idle ∧ t.line.lastClosed = some .iv ∧
        t.line.closeAt = s.now + dt ∧ t.obs = s.obs ∧
        t.link = s.repliedLink dt 0x82 [0, if 2 ≤ n ∧ n ≤ 30 then 0 else 1]) ∧
    (∀ k : Nat, k = (if n = 0 then 0 else max 300 (min 5000 n)) →
      exec (.tableWrite dt [9, 0, b0, b1, b2]) s = .next { s.replied dt 0x82 [0, if k = n then 0 else 1] with
        tables := { s.tables with water := { s.tables.water with flowk := k } }
        line := { s.line with flowk := if s.mode = .loading then k else s.line.flowk } }) ∧
    (∀ w : WaterParams, i = 11 ∨ i = 12 →
      w = (if i = 11 then { s.tables.water with filtercap := max 100 (min 10000 n) }
           else { s.tables.water with filterwarn := min 1000 n }) →
      exec (.tableWrite dt [9, byteOf i, b0, b1, b2]) s = .next { s.replied dt 0x82
          [0, if (if i = 11 then w.filtercap else w.filterwarn) = n then 0 else 1] with
        tables := { s.tables with water := w }
        line := { s.line with
          filterState := if w.filtercap ≤ s.line.filterTotal / 1000 then .expired
                         else if w.filtercap ≤ s.line.filterTotal / 1000 + w.filterwarn then .due else .good } }) ∧
    (∀ (t : Tables) (table : Nat) (v : Int), 6 ≤ table → table ≤ 9 → i < tableEntries table →
      0 ≤ v ∨ (table, i) ∈ [(7, 8), (7, 11), (8, 3), (8, 4), (8, 8), (9, 13)] →
      (t.setParam table i v).entryAt table i = bytes3 (v % 16777216).toNat ∧
      (∀ tb j, j < tableEntries tb → (tb, j) ≠ (table, i) → (t.setParam table i v).entryAt tb j = t.entryAt tb j) ∧
      t.setParam 6 i v = { t with general := t.general.set i v } ∧
      t.setParam 7 i v = { t with defrost := t.defrost.set i v } ∧
      t.setParam 8 i v = { t with ice := t.ice.set i v } ∧
      t.setParam 9 i v = { t with water := t.water.set i v })) ∧
  (∀ (s : State) (dt start n count : Nat) (data : List Byte) (b : Nat → Nat), s.hears → s.restartPending = false →
    1 ≤ n → (∀ m, b m = (data.getD m 0).toNat) →
    (∀ R : List RouteEntry, data.length = 8 * n → n ≤ 2 → start + n ≤ 16 → s.tables.route.length = 16 →
      R.length = 16 →
      (∀ j, j < 16 → R[j]? = if start ≤ j ∧ j < start + n
        then RouteEntry.ofBytes ((data.drop (8 * (j - start))).take 8) else s.tables.route[j]?) →
      exec (.tableWrite dt (1 :: byteOf start :: data)) s = .next { s.replied dt 0x82 [0, 0] with
        tables := { s.tables with route := R } }) ∧
    (∀ (A B : List CurvePoint) (temp : Nat → Int), data.length = 4 * n → n ≤ 5 → start + n ≤ 32 → s.mode = .loading →
      s.tables.curveA.length = 16 → s.tables.curveB.length = 16 → A.length = 16 → B.length = 16 →
      (∀ j, temp j = if 32768 ≤ b (4 * j + 2) * 256 + b (4 * j + 3)
        then (b (4 * j + 2) * 256 + b (4 * j + 3) : Int) - 65536 else b (4 * j + 2) * 256 + b (4 * j + 3)) →
      (∀ j, (A ++ B)[j]? = if start ≤ j ∧ j < start + n
        then some { count := min 4095 (b (4 * (j - start)) * 256 + b (4 * (j - start) + 1)),
                    temp := max (-32767) (temp (j - start)) }
        else (s.tables.curveA ++ s.tables.curveB)[j]?) →
      count = ((List.range n).map fun j => (if b (4 * j) * 256 + b (4 * j + 1) ≤ 4095 then 0 else 1) +
        (if temp j = -32768 then 1 else 0)).sum →
      ∃ t, exec (.tableWrite dt (3 :: byteOf start :: data)) s = .next t ∧
        t.tables = { s.tables with curveA := A, curveB := B } ∧
        (∀ c, t.temps.get c =
          if ((s.tables.chanMap.get c).sel = .curveA ∧ start < 16) ∨
            ((s.tables.chanMap.get c).sel = .curveB ∧ 16 < start + n)
          then { s.temps.get c with
            value := if curveValid (t.tables.curve (s.tables.chanMap.get c).sel) = true ∧
                        (s.temps.get c).range = .settled
                     then (s.temps.get c).mean.bind
                       (fun mean => convert mean (t.tables.curve (s.tables.chanMap.get c).sel)) else none }
          else s.temps.get c) ∧
        t.link = s.repliedLink dt 0x82 [0, byteOf count] ∧ t.now = s.now + dt ∧ t.mode = s.mode ∧ t.obs = s.obs ∧
        t.inputs = s.inputs ∧ t.ownAddress = s.ownAddress ∧ t.restartPending = false ∧ t.pending = s.pending ∧
        KeepsJobs s t) ∧
    (∀ (M : ChanMap) (T : Channels), data.length = 5 * n → start + n ≤ 4 → s.mode = .loading →
      (∀ j, start ≤ j → j < start + n →
        (M.get (.ofIndex j)).sel.code = b (5 * (j - start)) ∧
        (M.get (.ofIndex j)).below = min 4095 (b (5 * (j - start) + 1) * 256 + b (5 * (j - start) + 2)) ∧
        (M.get (.ofIndex j)).above = max (M.get (.ofIndex j)).below
          (min 4095 (b (5 * (j - start) + 3) * 256 + b (5 * (j - start) + 4))) ∧
        T.get (.ofIndex j) = { range := .unsettled, total := 0, lowRun := 0, highRun := 0, inRun := 0,
                               history := [], value := none }) →
      (∀ j, j < 4 → j < start ∨ start + n ≤ j →
        M.get (.ofIndex j) = s.tables.chanMap.get (.ofIndex j) ∧ T.get (.ofIndex j) = s.temps.get (.ofIndex j)) →
      count = ((List.range n).map fun j =>
        (if (M.get (.ofIndex (start + j))).below = b (5 * j + 1) * 256 + b (5 * j + 2) then 0 else 1) +
        (if (M.get (.ofIndex (start + j))).above = b (5 * j + 3) * 256 + b (5 * j + 4) then 0 else 1)).sum →
      exec (.tableWrite dt (4 :: byteOf start :: data)) s = .next { s.replied dt 0x82 [0, byteOf count] with
        tables := { s.tables with chanMap := M }, temps := T }) ∧
    (∀ L : LoadTable, data.length = 3 * n → start + n ≤ 5 → s.mode = .loading →
      (∀ j, j < 5 → L.get (.ofIndex j) = if start ≤ j ∧ j < start + n
        then { weight := min 15 (b (3 * (j - start))), cls := min 2 (b (3 * (j - start) + 1)),
               aging := b (3 * (j - start) + 2) }
        else s.tables.load.get (.ofIndex j)) →
      count = ((List.range n).map fun j =>
        (if b (3 * j) ≤ 15 then 0 else 1) + (if b (3 * j + 1) ≤ 2 then 0 else 1)).sum →
      exec (.tableWrite dt (5 :: byteOf start :: data)) s = .next { s.replied dt 0x82 [0, byteOf count] with
        tables := { s.tables with load := L } })) ∧
  (∀ (s : State) (dt table start n count : Nat) (data : List Byte) (raw base value : Nat → Int), s.hears →
    s.restartPending = false → 6 ≤ table → table ≤ 9 → 1 ≤ n → n ≤ 7 → data.length = 3 * n →
    start + n ≤ tableEntries table → (table = 6 → start = 0 → s.mode = .loading) →
    (table = 8 → start ≤ 1 → s.ice.st.inFill = false) → 1 ≤ s.tables.general.relayhigh →
    (∀ j, j < n → raw (start + j) = paramOfBytes table (start + j) ((data.drop (3 * j)).take 3)) →
    (∀ j, base j = if start ≤ j ∧ j < start + n then paramClamp table j (raw j) else s.tables.param table j) →
    (∀ j, value j =
      if table = 6 ∧ start ≤ 5 ∧ 4 < start + n ∧ j = 5 then min (base 5) (base 4 - 1)
      else if table = 7 ∧ start ≤ 2 ∧ j = 0 then max (base 1) (min (max (base 1) (base 2)) (base 0))
      else if table = 7 ∧ start ≤ 2 ∧ j = 2 then max (base 1) (base 2)
      else if table = 7 ∧ start ≤ 7 ∧ 6 < start + n ∧ j = 7 then max (base 6) (base 7)
      else base j) →
    count = ((List.range (tableEntries table)).map fun j =>
      if value j = (if start ≤ j ∧ j < start + n then raw j else s.tables.param table j) then 0 else 1).sum →
    ∃ t, exec (.tableWrite dt (byteOf table :: byteOf start :: data)) s = .next t ∧
      (∀ j, j < tableEntries table → t.tables.param table j = value j) ∧
      t.tables = { s.tables with
        general := if table = 6 then t.tables.general else s.tables.general
        defrost := if table = 7 then t.tables.defrost else s.tables.defrost
        ice := if table = 8 then t.tables.ice else s.tables.ice
        water := if table = 9 then t.tables.water else s.tables.water } ∧
      t.defrost = (if table = 7 ∧ start ≤ 2
        then { s.defrost with
          thr := max t.tables.defrost.thrmin (min t.tables.defrost.thrmax s.defrost.thr) } else s.defrost) ∧
      t.line = (if table = 9
        then { s.line with
          flowk := if start = 0 ∧ s.mode = .loading then t.tables.water.flowk else s.line.flowk
          filterState :=
            if start ≤ 12 ∧ 11 < start + n then
              (if t.tables.water.filtercap ≤ s.line.filterTotal / 1000 then .expired
               else if t.tables.water.filtercap ≤ s.line.filterTotal / 1000 + t.tables.water.filterwarn then .due
               else .good)
            else s.line.filterState }
        else s.line) ∧
      (∀ k : ObsKind, t.obs.get k =
        if table = 6 ∧ start ≤ k.code + 7 ∧ k.code + 7 < start + n ∧ (s.obs.get k).st = .fresh ∧
          value (k.code + 7) ≠ 0 ∧ value (k.code + 7) ≤ (s.obs.get k).age
        then { s.obs.get k with st := .stale } else s.obs.get k) ∧
      t.link = { s.repliedLink dt 0x82 [0, byteOf count] with
        flow := if table = 6 ∧ start ≤ 5 ∧ 4 < start + n then
                  (if s.link.flow = .flowOpen ∧ t.tables.general.relayhigh ≤ s.link.relay.length then .flowBusy
                   else if s.link.flow = .flowBusy ∧ s.link.relay.length ≤ t.tables.general.relaylow then .flowOpen
                   else s.link.flow)
                else s.link.flow } ∧
      t.now = s.now + dt ∧ t.mode = s.mode ∧ t.restartPending = false ∧ t.ownAddress = s.ownAddress ∧
      t.pending = s.pending ∧ t.temps = s.temps ∧ t.inputs = s.inputs ∧ t.ice = s.ice ∧ t.disp = s.disp ∧
      t.gate = s.gate) ∧
  (∀ (table i : Nat) (lo hi v : Int), (table, i, lo, hi) ∈
      [(6, 0, 1, 60), (6, 1, 50, 1000), (6, 2, 1, 60), (6, 3, 2, 50), (6, 4, 1, 4), (6, 5, 0, 3), (6, 6, 0, 2),
       (6, 7, 0, 2), (6, 8, 0, 255), (6, 9, 0, 255), (6, 10, 0, 255), (6, 11, 0, 255), (6, 12, 0, 255), (6, 13, 0, 255),
       (6, 14, 0, 255)] ++
      [(7, 0, 57600, 8294400), (7, 1, 57600, 8294400), (7, 2, 57600, 8294400), (7, 3, 0, 255), (7, 4, 0, 255),
       (7, 5, 0, 255), (7, 6, 300, 3600), (7, 7, 600, 5400), (7, 8, 20, 200), (7, 9, 300, 3600), (7, 10, 0, 900),
       (7, 11, -300, 0), (7, 12, 0, 900), (7, 13, 0, 600), (7, 14, 0, 3600), (7, 15, 24, 168)] ++
      [(8, 0, 50, 250), (8, 1, 2, 30), (8, 2, 0, 600), (8, 3, -250, 0), (8, 4, -200, -50), (8, 5, 60, 1800),
       (8, 6, 1800, 14400), (8, 7, 1800, 14400), (8, 8, 0, 100), (8, 9, 30, 600), (8, 10, 1, 10), (8, 11, 5, 60),
       (8, 12, 60, 3600), (8, 13, 0, 3), (8, 14, 60, 3600)] ++
      [(9, 0, 300, 5000), (9, 1, 10, 1000), (9, 2, 0, 3000), (9, 3, 100, 2000), (9, 4, 1, 10), (9, 5, 2, 30),
       (9, 6, 1, 1000), (9, 7, 10, 300), (9, 8, 5, 120), (9, 9, 1, 10), (9, 10, 5, 120), (9, 11, 100, 10000),
       (9, 12, 0, 1000), (9, 13, 0, 150), (9, 14, 10, 1000)] →
    (table = 9 → i = 0 → v ≠ 0) → paramClamp table i v = max lo (min hi v)) ∧
  paramClamp 9 0 0 = 0 ∧
  (∀ (table i : Nat) (bs : List Byte), paramOfBytes table i bs =
    if (table, i) ∈ [(7, 8), (7, 11), (8, 3), (8, 4), (8, 8), (9, 13)] ∧ 8388608 ≤ numberOf bs
    then (numberOf bs : Int) - 16777216 else numberOf bs)

/-! ### The link -/

/-- A good frame from TRUNK for another node (R165, R166, R169, R172, R173, R175, R178): one that no route entry
matches, by TRUNKDEFAULT; one that one entry alone matches, by its action; one that several match, by the first that
decides. Whatever its fate, by FORWARD, TRUNKDEFAULT or the door set, discarded or refused BUSY, and however many
entries match, each entry that matches lifts its observation, in index order (R148, R151, R155, R157), and a pour or
delivery ends where FZDOOR comes to read open (R106, R110). When an entry matches (R166). With the door side FREE and
DOOR quiet the frame is sent at once, else the door side stands (R172, R175). A frame's fate comes before its
observations by log 24. The clock is the model's choice (log 1). The row carries the check alone (log 7). -/
def Obligations.TrunkFrameForwarded : Prop :=
  (∀ (s : State) (dt : Nat) (f : Frame), s.link.trunk.tx = .idle →
    s.link.trunk.rx = .atCheck f.lead f.kind f.payload → f.check = frameCheck f.lead f.kind f.payload →
    f.kind ≠ 0x7F#8 → f.lead ≠ s.ownAddress → (∀ e ∈ s.tables.route, e.hits .trunk f = false) →
    s.tables.general.trunkdefault = 0 →
    (f.lead ≠ 63#8 → s.tables.doorSet.getLsbD f.lead.toNat = false →
      exec (.trunkFrameReceived dt f.check) s = .next { s with
        now := s.now + dt
        link := { s.link with trunk := { rx := .waiting, tx := .idle, lastChar := some (s.now + dt) } } }) ∧
    (f.lead = 63#8 ∨ s.tables.doorSet.getLsbD f.lead.toNat = true →
      s.link.flow = .flowOpen → s.link.relay.length ≤ 3 →
      ∃ t, exec (.trunkFrameReceived dt f.check) s = .next t ∧ JoinsRelay s t dt f) ∧
    (f.lead = 63#8 ∨ s.tables.doorSet.getLsbD f.lead.toNat = true →
      s.link.flow = .flowBusy ∨ 4 ≤ s.link.relay.length → s.link.uplink.length ≤ 2 →
      exec (.trunkFrameReceived dt f.check) s = .next { s with
        now := s.now + dt
        link := { s.link with
          trunk := { rx := .waiting, tx := .idle, lastChar := some (s.now + dt) }
          doorCount := { s.link.doorCount with busy := min 65535 (s.link.doorCount.busy + 1) }
          uplink := if f.kind.toNat ≤ 126 ∧ f.lead ≠ 63#8 then
                      s.link.uplink ++ [{ frame := Frame.build f.lead 0xFF [f.lead, f.kind, 2],
                                          isRestartReply := false }]
                    else s.link.uplink } })) ∧
  (∀ (s : State) (dt : Nat) (f : Frame), s.link.trunk.tx = .idle →
    s.link.trunk.rx = .atCheck f.lead f.kind f.payload → f.check = frameCheck f.lead f.kind f.payload →
    f.kind ≠ 0x7F#8 → f.lead ≠ s.ownAddress →
    ((∀ e ∈ s.tables.route, e.hits .trunk f = false) → s.tables.general.trunkdefault = 1 →
      s.link.flow = .flowOpen → s.link.relay.length ≤ 3 →
      ∃ t, exec (.trunkFrameReceived dt f.check) s = .next t ∧ JoinsRelay s t dt f) ∧
    ((∀ e ∈ s.tables.route, e.hits .trunk f = false) → s.tables.general.trunkdefault = 2 →
      exec (.trunkFrameReceived dt f.check) s = .next { s with
        now := s.now + dt
        link := { s.link with trunk := { rx := .waiting, tx := .idle, lastChar := some (s.now + dt) } } }) ∧
    (∀ (before after : List RouteEntry) (e : RouteEntry), s.tables.route = before ++ e :: after →
      (∀ x ∈ before ++ after, x.hits .trunk f = false) → e.valid = true → e.direction = .trunk →
      e.address = none ∨ e.address = some f.lead → e.kindLow.toNat ≤ f.kind.toNat → f.kind.toNat ≤ e.kindHigh.toNat →
      (e.action = .discard ∨ (e.action = .noteOnly ∧ s.tables.general.trunkdefault = 2) →
        e.kind = none ∨ (∃ k, e.kind = some k ∧ decodeValue e f.payload k = none) →
        exec (.trunkFrameReceived dt f.check) s = .next { s with
          now := s.now + dt
          link := { s.link with trunk := { rx := .waiting, tx := .idle, lastChar := some (s.now + dt) } } }) ∧
      (∀ k v, e.action = .discard ∨ (e.action = .noteOnly ∧ s.tables.general.trunkdefault = 2) →
        e.kind = some k → decodeValue e f.payload k = some v → (k = .measure → s.disp.measured = .inactive) →
        s.disp.st ≠ .pour → s.disp.st ≠ .deliver →
        exec (.trunkFrameReceived dt f.check) s = .next { s with
          now := s.now + dt
          link := { s.link with trunk := { rx := .waiting, tx := .idle, lastChar := some (s.now + dt) } }
          obs := s.obs.set k { value := v, st := .fresh, age := 0, source := .route before.length,
                               ageAt := s.now + dt + Config.tickSecond } }) ∧
      (e.action = .forward ∨ (e.action = .noteOnly ∧ s.tables.general.trunkdefault = 1) → e.kind = none →
        s.link.flow = .flowOpen → s.link.relay.length ≤ 3 →
        ∃ t, exec (.trunkFrameReceived dt f.check) s = .next t ∧ JoinsRelay s t dt f))) ∧
  (∀ (e : RouteEntry) (p : Port) (f : Frame), e.hits p f = true ↔
    e.valid = true ∧ e.direction = p ∧ (e.address = none ∨ e.address = some f.lead) ∧
      e.kindLow.toNat ≤ f.kind.toNat ∧ f.kind.toNat ≤ e.kindHigh.toNat) ∧
  (∀ (s : State) (dt : Nat) (f : Frame), s.link.trunk.tx = .idle →
    s.link.trunk.rx = .atCheck f.lead f.kind f.payload → f.check = frameCheck f.lead f.kind f.payload →
    f.kind ≠ 0x7F#8 → f.lead ≠ s.ownAddress →
    ((∀ x ∈ s.tables.route, x.hits .trunk f = true → x.kind = none) →
      (∀ (before after : List RouteEntry) (e : RouteEntry), s.tables.route = before ++ e :: after →
        (∀ x ∈ before, x.hits .trunk f = true → x.action = .noteOnly) → e.hits .trunk f = true →
        (e.action = .discard → exec (.trunkFrameReceived dt f.check) s = .next { s with
          now := s.now + dt
          link := { s.link with trunk := { rx := .waiting, tx := .idle, lastChar := some (s.now + dt) } } }) ∧
        (e.action = .forward → s.link.flow = .flowOpen → s.link.relay.length ≤ 3 →
          ∃ t, exec (.trunkFrameReceived dt f.check) s = .next t ∧ JoinsRelay s t dt f)) ∧
      ((∀ x ∈ s.tables.route, x.hits .trunk f = true → x.action = .noteOnly) →
        (s.tables.general.trunkdefault = 2 → exec (.trunkFrameReceived dt f.check) s = .next { s with
          now := s.now + dt
          link := { s.link with trunk := { rx := .waiting, tx := .idle, lastChar := some (s.now + dt) } } }) ∧
        (s.tables.general.trunkdefault = 1 → s.link.flow = .flowOpen → s.link.relay.length ≤ 3 →
          ∃ t, exec (.trunkFrameReceived dt f.check) s = .next t ∧ JoinsRelay s t dt f))) ∧
    (∀ (before mid after : List RouteEntry) (a b : RouteEntry) (k l : ObsKind) (v : Nat),
      s.tables.route = before ++ a :: (mid ++ b :: after) →
      (∀ x ∈ before ++ mid ++ after, x.hits .trunk f = false) → a.hits .trunk f = true → b.hits .trunk f = true →
      a.action = .discard ∨ (a.action = .noteOnly ∧
        (b.action = .discard ∨ (b.action = .noteOnly ∧ s.tables.general.trunkdefault = 2))) →
      a.kind = some k → b.kind = some l → decodeValue a f.payload k = some v →
      (k = .measure ∨ l = .measure → s.disp.measured = .inactive) → s.disp.st ≠ .pour → s.disp.st ≠ .deliver →
      (∀ w, decodeValue b f.payload l = some w → exec (.trunkFrameReceived dt f.check) s = .next { s with
        now := s.now + dt
        link := { s.link with trunk := { rx := .waiting, tx := .idle, lastChar := some (s.now + dt) } }
        obs := (s.obs.set k { value := v, st := .fresh, age := 0, source := .route before.length,
                              ageAt := s.now + dt + Config.tickSecond }).set l
          { value := w, st := .fresh, age := 0, source := .route (before.length + 1 + mid.length),
            ageAt := s.now + dt + Config.tickSecond } }) ∧
      (decodeValue b f.payload l = none → exec (.trunkFrameReceived dt f.check) s = .next { s with
        now := s.now + dt
        link := { s.link with trunk := { rx := .waiting, tx := .idle, lastChar := some (s.now + dt) } }
        obs := s.obs.set k { value := v, st := .fresh, age := 0, source := .route before.length,
                             ageAt := s.now + dt + Config.tickSecond } }))) ∧
  (∀ (s : State) (dt : Nat) (f : Frame) (o : ObsTable), s.link.trunk.tx = .idle →
    s.link.trunk.rx = .atCheck f.lead f.kind f.payload → f.check = frameCheck f.lead f.kind f.payload →
    f.kind ≠ 0x7F#8 → f.lead ≠ s.ownAddress → o = s.liftedObs .trunk f (s.now + dt) →
    (s.pourStands o →
      (s.keepsBack f → exec (.trunkFrameReceived dt f.check) s = .next { s with
        now := s.now + dt, obs := o
        link := { s.link with trunk := { rx := .waiting, tx := .idle, lastChar := some (s.now + dt) } } }) ∧
      (s.sendsOn f → s.link.flow = .flowOpen → s.link.relay.length ≤ 3 →
        ∃ t, exec (.trunkFrameReceived dt f.check) s = .next t ∧ JoinsRelayLifting s t dt f o) ∧
      (s.sendsOn f → s.link.flow = .flowBusy ∨ 4 ≤ s.link.relay.length → s.link.uplink.length ≤ 3 →
        exec (.trunkFrameReceived dt f.check) s = .next { s with
          now := s.now + dt, obs := o
          link := { s.link with
            trunk := { rx := .waiting, tx := .idle, lastChar := some (s.now + dt) }
            doorCount := { s.link.doorCount with busy := min 65535 (s.link.doorCount.busy + 1) }
            trunkCount := if f.kind.toNat ≤ 126 ∧ f.lead ≠ 63#8 ∧ s.link.uplink.length = 3
              then { s.link.trunkCount with dropped := min 65535 (s.link.trunkCount.dropped + 1) }
              else s.link.trunkCount
            uplink := if f.kind.toNat ≤ 126 ∧ f.lead ≠ 63#8 ∧ s.link.uplink.length ≤ 2 then
                        s.link.uplink ++ [{ frame := Frame.build f.lead 0xFF [f.lead, f.kind, 2],
                                            isRestartReply := false }]
                      else s.link.uplink } })) ∧
    (s.disp.st = .pour ∨ s.disp.st = .deliver → s.liftsDoor .trunk f → o.fzdoor.value ≠ 0 →
      ∃ t, exec (.trunkFrameReceived dt f.check) s = .next t ∧ t.now = s.now + dt ∧ EndsByDoor s t ∧ t.obs = o ∧
        t.temps = s.temps ∧ t.inputs = s.inputs ∧ KeepsSetup s t ∧
        (s.keepsBack f → t.link = { s.link with
          trunk := { rx := .waiting, tx := .idle, lastChar := some (s.now + dt) } }) ∧
        (s.sendsOn f → s.link.flow = .flowOpen → s.link.relay.length ≤ 3 →
          t.link.relay = s.link.relay ++
            [{ frame := f, expectsReply := decide (f.kind.toNat ≤ 126) && decide (f.lead ≠ 63#8) }])))

/-- A frame whose check fails, and a good frame of kind 7Fh, on TRUNK; a bad check on DOOR outside TAKING (R162,
R165). How the check is formed, and a frame the part builds (R162). The clock is the model's choice (log 1). The row
carries the check alone (log 7). -/
def Obligations.FramesDiscarded : Prop :=
  (∀ (s : State) (dt : Nat) (f : Frame),
     (s.link.trunk.tx = .idle → s.link.trunk.rx = .atCheck f.lead f.kind f.payload →
       f.check ≠ frameCheck f.lead f.kind f.payload →
       exec (.trunkFrameReceived dt f.check) s = .next { s with
         now := s.now + dt
         link := { s.link with
           trunk := { rx := .waiting, tx := .idle, lastChar := some (s.now + dt) }
           trunkCount := { s.link.trunkCount with check := min 65535 (s.link.trunkCount.check + 1) } } }) ∧
     (s.link.trunk.tx = .idle → s.link.trunk.rx = .atCheck f.lead f.kind f.payload →
       f.check = frameCheck f.lead f.kind f.payload → f.kind = 0x7F#8 →
       exec (.trunkFrameReceived dt f.check) s = .next { s with
         now := s.now + dt
         link := { s.link with
           trunk := { rx := .waiting, tx := .idle, lastChar := some (s.now + dt) }
           trunkCount := { s.link.trunkCount with unknown := min 65535 (s.link.trunkCount.unknown + 1) } } }) ∧
     (s.link.door.tx = .idle → s.link.door.rx = .atCheck f.lead f.kind f.payload → s.link.doorSide ≠ .taking →
       f.check ≠ frameCheck f.lead f.kind f.payload →
       exec (.doorFrameReceived dt f.check) s = .next { s with
         now := s.now + dt
         link := { s.link with
           door := { rx := .waiting, tx := .idle, lastChar := some (s.now + dt) }
           doorCount := { s.link.doorCount with check := min 65535 (s.link.doorCount.check + 1) } } })) ∧
  (∀ (lead kind : Byte) (payload : List Byte) (shift : Byte → Byte),
    (∀ r, shift r = if r.getLsbD 7 then (r <<< 1) ^^^ 7#8 else r <<< 1) →
    frameCheck lead kind payload =
      ([lead, kind, byteOf payload.length] ++ payload).foldl
        (fun r b => shift (shift (shift (shift (shift (shift (shift (shift (r ^^^ b))))))))) 0xFF#8 ∧
    Frame.build lead kind payload =
      { lead := lead, kind := kind, payload := payload, check := frameCheck lead kind payload })

/-- The candidate's end in TAKING (R168, R177, R178): the reply, forwarded whatever the DOOR-in entries and
DOORDEFAULT say, or a BAD_FRAME notice. Outside TAKING a good frame is a request kind, or a reply not awaited, decided
by the first entry that matches it and decides or by DOORDEFAULT (R168). In TAKING and outside, whatever its fate,
each entry that matches a reply lifts its observation, in index order (R148, R151, R155, R157), and a pour or delivery
ends where FZDOOR comes to read open (R106, R110). When an entry matches (R166). What is offered to an uplink queue of
three frames is dropped and counted (R179). A frame's fate comes before its observations by log 24. The clock is the
model's choice (log 1). The row carries the check alone (log 7). -/
def Obligations.DoorCandidateEnds : Prop :=
  (∀ (s : State) (dt : Nat) (f : Frame) (h : RelayEntry) (rest : List RelayEntry), s.link.door.tx = .idle →
    s.link.door.rx = .atCheck f.lead f.kind f.payload → s.link.doorSide = .taking → s.link.relay = h :: rest →
    h.frame.kind.toNat ≤ 126 → s.link.uplink.length ≤ 2 → (∀ e ∈ s.tables.route, e.hits .door f = false) →
    ∃ t, exec (.doorFrameReceived dt f.check) s = .next t ∧
      t.link.relay = rest ∧ t.link.doorSide = .free ∧
      t.link.flow = (if rest.length ≤ s.tables.general.relaylow then .flowOpen else s.link.flow) ∧
      t.link.door = { rx := .waiting, tx := .idle, lastChar := some (s.now + dt) } ∧
      t.link.trunkCount = s.link.trunkCount ∧ t.now = s.now + dt ∧ KeepsSetup s t ∧ KeepsSenses s t ∧
      KeepsJobs s t ∧
      (f.check = frameCheck f.lead f.kind f.payload → f.kind = h.frame.kind + 0x80#8 →
        t.link.uplink = s.link.uplink ++ [{ frame := f, isRestartReply := false }] ∧
        t.link.doorCount = s.link.doorCount) ∧
      (f.check = frameCheck f.lead f.kind f.payload → f.kind ≠ h.frame.kind + 0x80#8 →
        t.link.uplink = s.link.uplink ++
          [{ frame := Frame.build h.frame.lead 0xFF [h.frame.lead, h.frame.kind, 3], isRestartReply := false }] ∧
        t.link.doorCount = (if f.kind.toNat ≤ 127
          then { s.link.doorCount with request := min 65535 (s.link.doorCount.request + 1) }
          else s.link.doorCount)) ∧
      (f.check ≠ frameCheck f.lead f.kind f.payload →
        t.link.uplink = s.link.uplink ++
          [{ frame := Frame.build h.frame.lead 0xFF [h.frame.lead, h.frame.kind, 3], isRestartReply := false }] ∧
        t.link.doorCount = { s.link.doorCount with check := min 65535 (s.link.doorCount.check + 1) })) ∧
  (∀ (s : State) (dt : Nat) (f : Frame), s.link.door.tx = .idle →
    s.link.door.rx = .atCheck f.lead f.kind f.payload → f.check = frameCheck f.lead f.kind f.payload →
    s.link.doorSide ≠ .taking →
    (f.kind.toNat ≤ 127 → exec (.doorFrameReceived dt f.check) s = .next { s with
      now := s.now + dt
      link := { s.link with
        door := { rx := .waiting, tx := .idle, lastChar := some (s.now + dt) }
        doorCount := { s.link.doorCount with request := min 65535 (s.link.doorCount.request + 1) } } }) ∧
    (128 ≤ f.kind.toNat → (∀ e ∈ s.tables.route, e.hits .door f = false) → s.tables.general.doordefault ≠ 1 →
      exec (.doorFrameReceived dt f.check) s = .next { s with
        now := s.now + dt
        link := { s.link with
          door := { rx := .waiting, tx := .idle, lastChar := some (s.now + dt) }
          doorCount := if s.tables.general.doordefault = 0
                       then { s.link.doorCount with stray := min 65535 (s.link.doorCount.stray + 1) }
                       else s.link.doorCount } }) ∧
    (128 ≤ f.kind.toNat → (∀ e ∈ s.tables.route, e.hits .door f = false) → s.tables.general.doordefault = 1 →
      s.link.uplink.length ≤ 2 →
      ∃ t, exec (.doorFrameReceived dt f.check) s = .next t ∧
        t.link.uplink = s.link.uplink ++ [{ frame := f, isRestartReply := false }] ∧
        t.link.door = { rx := .waiting, tx := .idle, lastChar := some (s.now + dt) } ∧
        t.link.relay = s.link.relay ∧ t.link.doorSide = s.link.doorSide ∧ t.link.flow = s.link.flow ∧
        t.link.trunkCount = s.link.trunkCount ∧ t.link.doorCount = s.link.doorCount ∧ t.now = s.now + dt ∧
        KeepsSetup s t ∧ KeepsSenses s t ∧ KeepsJobs s t) ∧
    (∀ (before after : List RouteEntry) (e : RouteEntry), 128 ≤ f.kind.toNat → s.tables.route = before ++ e :: after →
      (∀ x ∈ before ++ after, x.hits .door f = false) → e.valid = true → e.direction = .door →
      e.address = none ∨ e.address = some f.lead → e.kindLow.toNat ≤ f.kind.toNat → f.kind.toNat ≤ e.kindHigh.toNat →
      (e.action = .discard → e.kind = none → exec (.doorFrameReceived dt f.check) s = .next { s with
        now := s.now + dt
        link := { s.link with door := { rx := .waiting, tx := .idle, lastChar := some (s.now + dt) } } }) ∧
      (e.action = .forward → e.kind = none → s.link.uplink.length ≤ 2 →
        ∃ t, exec (.doorFrameReceived dt f.check) s = .next t ∧
          t.link.uplink = s.link.uplink ++ [{ frame := f, isRestartReply := false }] ∧
          t.link.door = { rx := .waiting, tx := .idle, lastChar := some (s.now + dt) } ∧
          t.link.doorCount = s.link.doorCount ∧ KeepsSetup s t ∧ KeepsSenses s t ∧ KeepsJobs s t) ∧
      (∀ k v, e.action = .discard → e.kind = some k → decodeValue e f.payload k = some v →
        (k = .measure → s.disp.measured = .inactive) → s.disp.st ≠ .pour → s.disp.st ≠ .deliver →
        exec (.doorFrameReceived dt f.check) s = .next { s with
          now := s.now + dt
          link := { s.link with door := { rx := .waiting, tx := .idle, lastChar := some (s.now + dt) } }
          obs := s.obs.set k { value := v, st := .fresh, age := 0, source := .route before.length,
                               ageAt := s.now + dt + Config.tickSecond } }))) ∧
  (∀ (e : RouteEntry) (p : Port) (f : Frame), e.hits p f = true ↔
    e.valid = true ∧ e.direction = p ∧ (e.address = none ∨ e.address = some f.lead) ∧
      e.kindLow.toNat ≤ f.kind.toNat ∧ f.kind.toNat ≤ e.kindHigh.toNat) ∧
  (∀ (s : State) (dt : Nat) (f : Frame), s.link.door.tx = .idle →
    s.link.door.rx = .atCheck f.lead f.kind f.payload → f.check = frameCheck f.lead f.kind f.payload →
    s.link.doorSide ≠ .taking → 128 ≤ f.kind.toNat →
    (∀ x ∈ s.tables.route, x.hits .door f = true → x.kind = none) →
    (∀ (before after : List RouteEntry) (e : RouteEntry), s.tables.route = before ++ e :: after →
      (∀ x ∈ before, x.hits .door f = true → x.action = .noteOnly) → e.hits .door f = true →
      (e.action = .discard → exec (.doorFrameReceived dt f.check) s = .next { s with
        now := s.now + dt
        link := { s.link with door := { rx := .waiting, tx := .idle, lastChar := some (s.now + dt) } } }) ∧
      (e.action = .forward → s.link.uplink.length ≤ 2 → ∃ t, exec (.doorFrameReceived dt f.check) s = .next t ∧
        t.link.uplink = s.link.uplink ++ [{ frame := f, isRestartReply := false }] ∧
        t.link.door = { rx := .waiting, tx := .idle, lastChar := some (s.now + dt) } ∧
        t.link.relay = s.link.relay ∧ t.link.doorSide = s.link.doorSide ∧ t.link.doorCount = s.link.doorCount ∧
        t.link.trunkCount = s.link.trunkCount ∧ KeepsSetup s t ∧ KeepsSenses s t ∧ KeepsJobs s t) ∧
      (e.action = .forward → s.link.uplink.length = 3 → exec (.doorFrameReceived dt f.check) s = .next { s with
        now := s.now + dt
        link := { s.link with
          door := { rx := .waiting, tx := .idle, lastChar := some (s.now + dt) }
          trunkCount := { s.link.trunkCount with dropped := min 65535 (s.link.trunkCount.dropped + 1) } } })) ∧
    ((∀ x ∈ s.tables.route, x.hits .door f = true → x.action = .noteOnly) →
      (s.tables.general.doordefault = 0 → exec (.doorFrameReceived dt f.check) s = .next { s with
        now := s.now + dt
        link := { s.link with
          door := { rx := .waiting, tx := .idle, lastChar := some (s.now + dt) }
          doorCount := { s.link.doorCount with stray := min 65535 (s.link.doorCount.stray + 1) } } }) ∧
      (s.tables.general.doordefault = 2 → exec (.doorFrameReceived dt f.check) s = .next { s with
        now := s.now + dt
        link := { s.link with door := { rx := .waiting, tx := .idle, lastChar := some (s.now + dt) } } }) ∧
      (s.tables.general.doordefault = 1 → s.link.uplink.length = 3 →
        exec (.doorFrameReceived dt f.check) s = .next { s with
          now := s.now + dt
          link := { s.link with
            door := { rx := .waiting, tx := .idle, lastChar := some (s.now + dt) }
            trunkCount := { s.link.trunkCount with dropped := min 65535 (s.link.trunkCount.dropped + 1) } } }))) ∧
  (∀ (s : State) (dt : Nat) (f : Frame) (h : RelayEntry) (rest : List RelayEntry), s.link.door.tx = .idle →
    s.link.door.rx = .atCheck f.lead f.kind f.payload → s.link.doorSide = .taking → s.link.relay = h :: rest →
    h.frame.kind.toNat ≤ 126 → s.link.uplink.length = 3 → (∀ e ∈ s.tables.route, e.hits .door f = false) →
    ∃ t, exec (.doorFrameReceived dt f.check) s = .next t ∧ t.link.relay = rest ∧ t.link.doorSide = .free ∧
      t.link.flow = (if rest.length ≤ s.tables.general.relaylow then .flowOpen else s.link.flow) ∧
      t.link.door = { rx := .waiting, tx := .idle, lastChar := some (s.now + dt) } ∧
      t.link.uplink = s.link.uplink ∧
      t.link.trunkCount = { s.link.trunkCount with dropped := min 65535 (s.link.trunkCount.dropped + 1) } ∧
      t.link.doorCount = (if f.check ≠ frameCheck f.lead f.kind f.payload
        then { s.link.doorCount with check := min 65535 (s.link.doorCount.check + 1) }
        else if f.kind.toNat ≤ 127 then { s.link.doorCount with request := min 65535 (s.link.doorCount.request + 1) }
        else s.link.doorCount) ∧
      t.now = s.now + dt ∧ KeepsSetup s t ∧ KeepsSenses s t ∧ KeepsJobs s t) ∧
  (∀ (s : State) (dt : Nat) (f : Frame) (h : RelayEntry) (rest : List RelayEntry) (o : ObsTable),
    s.link.door.tx = .idle → s.link.door.rx = .atCheck f.lead f.kind f.payload →
    f.check = frameCheck f.lead f.kind f.payload → s.link.doorSide = .taking → s.link.relay = h :: rest →
    h.frame.kind.toNat ≤ 126 → 128 ≤ f.kind.toNat → o = s.liftedObs .door f (s.now + dt) →
    ∃ t, exec (.doorFrameReceived dt f.check) s = .next t ∧ t.now = s.now + dt ∧ FreesDoor s t rest ∧
      t.link.door = { rx := .waiting, tx := .idle, lastChar := some (s.now + dt) } ∧
      t.link.doorCount = s.link.doorCount ∧ t.obs = o ∧ t.temps = s.temps ∧ t.inputs = s.inputs ∧ KeepsSetup s t ∧
      (f.kind = h.frame.kind + 0x80#8 → OffersUplink s t f) ∧
      (f.kind ≠ h.frame.kind + 0x80#8 →
        OffersUplink s t (Frame.build h.frame.lead 0xFF [h.frame.lead, h.frame.kind, 3])) ∧
      (s.pourStands o → KeepsJobs s t) ∧
      (s.disp.st = .pour ∨ s.disp.st = .deliver → s.liftsDoor .door f → o.fzdoor.value ≠ 0 → EndsByDoor s t)) ∧
  (∀ (s : State) (dt : Nat) (f : Frame) (o : ObsTable), s.link.door.tx = .idle →
    s.link.door.rx = .atCheck f.lead f.kind f.payload → f.check = frameCheck f.lead f.kind f.payload →
    s.link.doorSide ≠ .taking → 128 ≤ f.kind.toNat → o = s.liftedObs .door f (s.now + dt) →
    (s.pourStands o →
      (s.decidedBy .door f .discard ∨ (s.onlyNoted .door f ∧ s.tables.general.doordefault = 2) →
        exec (.doorFrameReceived dt f.check) s = .next { s with
          now := s.now + dt, obs := o
          link := { s.link with door := { rx := .waiting, tx := .idle, lastChar := some (s.now + dt) } } }) ∧
      (s.onlyNoted .door f → s.tables.general.doordefault = 0 →
        exec (.doorFrameReceived dt f.check) s = .next { s with
          now := s.now + dt, obs := o
          link := { s.link with
            door := { rx := .waiting, tx := .idle, lastChar := some (s.now + dt) }
            doorCount := { s.link.doorCount with stray := min 65535 (s.link.doorCount.stray + 1) } } }) ∧
      (s.decidedBy .door f .forward ∨ (s.onlyNoted .door f ∧ s.tables.general.doordefault = 1) →
        ∃ t, exec (.doorFrameReceived dt f.check) s = .next t ∧ t.now = s.now + dt ∧ OffersUplink s t f ∧
          t.link.door = { rx := .waiting, tx := .idle, lastChar := some (s.now + dt) } ∧
          t.link.relay = s.link.relay ∧ t.link.doorSide = s.link.doorSide ∧ t.link.flow = s.link.flow ∧
          t.link.doorCount = s.link.doorCount ∧ t.obs = o ∧ t.temps = s.temps ∧ t.inputs = s.inputs ∧
          KeepsSetup s t ∧ KeepsJobs s t)) ∧
    (s.disp.st = .pour ∨ s.disp.st = .deliver → s.liftsDoor .door f → o.fzdoor.value ≠ 0 →
      ∃ t, exec (.doorFrameReceived dt f.check) s = .next t ∧ t.now = s.now + dt ∧ EndsByDoor s t ∧ t.obs = o ∧
        t.temps = s.temps ∧ t.inputs = s.inputs ∧ KeepsSetup s t ∧ t.link.relay = s.link.relay ∧
        t.link.doorSide = s.link.doorSide))

/-- A frame in progress is abandoned: MARK, LONG, GAP, at TRUNK, and at DOOR with the door side FREE (R161). At the
pause the port's line is quiet, so a frame that waits at it begins to be sent in that event (R163, R175). In AWAITING
the window runs on, and a lead with the awaited address takes the candidate (R176). In TAKING each of the three ends
the exchange with a BAD_FRAME notice (R177, R178), dropped and counted where three frames wait (R179). The clock is
the model's choice (log 1). The rows are the characters that abandon the frame (log 7). -/
def Obligations.FramesAbandoned : Prop :=
  ∀ (s : State) (dt last m : Nat) (d : Byte), m = max s.now (last + 3 * Config.tickChar) →
    (s.link.trunk.tx = .idle → s.link.trunk.rx ≠ .waiting → exec (.frameAbandonedMark dt .trunk d) s = .next { s with
      now := s.now + dt
      link := { s.link with
        trunk := { rx := if d.toNat ≤ 63 then .atKind d else .waiting, tx := .idle, lastChar := some (s.now + dt) }
        trunkCount := { s.link.trunkCount with mark := min 65535 (s.link.trunkCount.mark + 1) } } }) ∧
    (∀ lead kind, s.link.trunk.tx = .idle → s.link.trunk.rx = .atLength lead kind → 24 < d.toNat →
      exec (.frameAbandonedLong dt .trunk d) s = .next { s with
        now := s.now + dt
        link := { s.link with
          trunk := { rx := .waiting, tx := .idle, lastChar := some (s.now + dt) }
          trunkCount := { s.link.trunkCount with long := min 65535 (s.link.trunkCount.long + 1) } } }) ∧
    (s.link.trunk.tx = .idle → s.link.trunk.rx ≠ .waiting → s.link.trunk.lastChar = some last →
      exec (.frameAbandonedGap .trunk) s = .next { s with
        now := m
        link := { s.link with
          trunk := { rx := .waiting, tx := if s.link.uplink = [] then .idle else .sending m, lastChar := some last }
          trunkCount := { s.link.trunkCount with gap := min 65535 (s.link.trunkCount.gap + 1) } } }) ∧
    (s.link.door.tx = .idle → s.link.door.rx ≠ .waiting → s.link.doorSide = .free →
      exec (.frameAbandonedMark dt .door d) s = .next { s with
        now := s.now + dt
        link := { s.link with
          door := { rx := if d.toNat ≤ 63 then .atKind d else .waiting, tx := .idle, lastChar := some (s.now + dt) }
          doorCount := { s.link.doorCount with mark := min 65535 (s.link.doorCount.mark + 1) } } }) ∧
    (∀ w h rest, s.link.door.tx = .idle → s.link.door.rx ≠ .waiting → s.link.doorSide = .awaiting w →
      s.link.relay = h :: rest →
      exec (.frameAbandonedMark dt .door d) s = .next { s with
        now := s.now + dt
        link := { s.link with
          doorSide := if d = h.frame.lead ∧ d.toNat ≤ 63 then .taking else .awaiting w
          door := { rx := if d.toNat ≤ 63 then .atKind d else .waiting, tx := .idle, lastChar := some (s.now + dt) }
          doorCount := { s.link.doorCount with mark := min 65535 (s.link.doorCount.mark + 1) } } }) ∧
    (∀ lead kind, s.link.door.tx = .idle → s.link.door.rx = .atLength lead kind →
      (s.link.doorSide = .free ∨ ∃ w, s.link.doorSide = .awaiting w) → 24 < d.toNat →
      exec (.frameAbandonedLong dt .door d) s = .next { s with
        now := s.now + dt
        link := { s.link with
          door := { rx := .waiting, tx := .idle, lastChar := some (s.now + dt) }
          doorCount := { s.link.doorCount with long := min 65535 (s.link.doorCount.long + 1) } } }) ∧
    (s.link.door.tx = .idle → s.link.door.rx ≠ .waiting → s.link.doorSide = .free → s.link.door.lastChar = some last →
      exec (.frameAbandonedGap .door) s = .next { s with
        now := m
        link := { s.link with
          doorSide := if s.link.relay = [] then .free else .sending
          door := { rx := .waiting, tx := if s.link.relay = [] then .idle else .sending m, lastChar := some last }
          doorCount := { s.link.doorCount with gap := min 65535 (s.link.doorCount.gap + 1) } } }) ∧
    (∀ w, s.link.door.tx = .idle → s.link.door.rx ≠ .waiting → s.link.doorSide = .awaiting w →
      s.link.door.lastChar = some last →
      exec (.frameAbandonedGap .door) s = .next { s with
        now := m
        link := { s.link with
          door := { rx := .waiting, tx := .idle, lastChar := some last }
          doorCount := { s.link.doorCount with gap := min 65535 (s.link.doorCount.gap + 1) } } }) ∧
    (∀ lead kind h rest, s.link.door.tx = .idle → s.link.door.rx = .atLength lead kind → s.link.doorSide = .taking →
      24 < d.toNat → s.link.relay = h :: rest →
      ∃ t, exec (.frameAbandonedLong dt .door d) s = .next t ∧ t.now = s.now + dt ∧ FreesDoor s t rest ∧
        OffersUplink s t (Frame.build h.frame.lead 0xFF [h.frame.lead, h.frame.kind, 3]) ∧
        t.link.door = { rx := .waiting, tx := .idle, lastChar := some (s.now + dt) } ∧
        t.link.doorCount = { s.link.doorCount with long := min 65535 (s.link.doorCount.long + 1) } ∧
        KeepsSetup s t ∧ KeepsSenses s t ∧ KeepsJobs s t) ∧
    (∀ h rest, s.link.door.tx = .idle → s.link.door.rx ≠ .waiting → s.link.doorSide = .taking →
      s.link.relay = h :: rest →
      ∃ t, exec (.frameAbandonedMark dt .door d) s = .next t ∧ t.now = s.now + dt ∧ FreesDoor s t rest ∧
        OffersUplink s t (Frame.build h.frame.lead 0xFF [h.frame.lead, h.frame.kind, 3]) ∧
        t.link.door = { rx := if d.toNat ≤ 63 then .atKind d else .waiting, tx := .idle,
                        lastChar := some (s.now + dt) } ∧
        t.link.doorCount = { s.link.doorCount with mark := min 65535 (s.link.doorCount.mark + 1) } ∧
        KeepsSetup s t ∧ KeepsSenses s t ∧ KeepsJobs s t) ∧
    (∀ h rest, s.link.door.tx = .idle → s.link.door.rx ≠ .waiting → s.link.doorSide = .taking →
      s.link.door.lastChar = some last → s.link.relay = h :: rest →
      ∃ t, exec (.frameAbandonedGap .door) s = .next t ∧ t.now = m ∧ t.link.relay = rest ∧
        t.link.doorSide = (if rest = [] then .free else .sending) ∧
        t.link.flow = (if rest.length ≤ s.tables.general.relaylow then .flowOpen else s.link.flow) ∧
        OffersUplink s t (Frame.build h.frame.lead 0xFF [h.frame.lead, h.frame.kind, 3]) ∧
        t.link.door = { rx := .waiting, tx := if rest = [] then .idle else .sending m, lastChar := some last } ∧
        t.link.doorCount = { s.link.doorCount with gap := min 65535 (s.link.doorCount.gap + 1) } ∧
        KeepsSetup s t ∧ KeepsSenses s t ∧ KeepsJobs s t)

/-- The characters of a frame, one after another, bring the TRUNK receiver to the check with the frame's bytes, and
change nothing else (R160, R161); the lead alone brings it to the kind. The clock is the model's choice (log 1). -/
def Obligations.FrameReassembled : Prop :=
  ∀ (s : State) (dt : Nat) (lead kind : Byte) (payload : List Byte), s.link.trunk.tx = .idle →
    s.link.trunk.rx = .waiting → lead.toNat ≤ 63 → payload.length ≤ 24 →
    exec (.characterReceived dt .trunk true lead) s = .next { s with
      now := s.now + dt
      link := { s.link with trunk := { rx := .atKind lead, tx := .idle, lastChar := some (s.now + dt) } } } ∧
    Sys2Proof.core.run (payload.length + 3) (s.setPending
        ([.characterReceived dt .trunk true lead, .characterReceived dt .trunk false kind,
          .characterReceived dt .trunk false (byteOf payload.length)] ++
         payload.map (fun b => .characterReceived dt .trunk false b))) =
      .next { s with
        now := s.now + dt * (payload.length + 3)
        link := { s.link with trunk := { rx := .atCheck lead kind payload, tx := .idle,
                                         lastChar := some (s.now + dt * (payload.length + 3)) } }
        pending := [] }

/-- TRUNK_SEND_BEGIN and DOOR_SEND_BEGIN (R163, R175): 2 character times after the last character. The clock is the
model's choice (log 1), and so is that a character begun by then and not ended does not hold the port back (log 45). -/
def Obligations.SendingBegins : Prop :=
  ∀ (s : State) (last m : Nat),
    (s.link.trunk.rx = .waiting → s.link.trunk.tx = .idle → s.link.uplink ≠ [] → s.link.trunk.lastChar = some last →
      m = max s.now (last + 2 * Config.tickChar) →
      exec .trunkSendBegin s = .next { s with
        now := m, link := { s.link with trunk := { s.link.trunk with tx := .sending m } } }) ∧
    (s.link.door.rx = .waiting → s.link.door.tx = .idle → s.link.doorSide = .free → s.link.relay ≠ [] →
      s.link.door.lastChar = some last → m = max s.now (last + 2 * Config.tickChar) →
      exec .doorSendBegin s = .next { s with
        now := m, link := { s.link with doorSide := .sending, door := { s.link.door with tx := .sending m } } })

/-- TRUNK_FRAME_SENT, DOOR_FRAME_SENT, DRIVER_ENABLE_RELEASE (R163, R173, R175, R179). The clock is the model's choice
(log 1). -/
def Obligations.FramesSent : Prop :=
  ∀ (s : State) (start m : Nat),
    (∀ e rest, s.link.trunk.tx = .sending start → s.link.uplink = e :: rest → e.isRestartReply = false →
      m = max s.now (start + (5 + e.frame.payload.length) * Config.tickChar) →
      exec .trunkFrameSent s = .next { s with
        now := m
        link := { s.link with
          uplink := rest, trunk := { s.link.trunk with tx := .trailing m, lastChar := some m } } }) ∧
    (∀ e rest, s.link.door.tx = .sending start → s.link.relay = e :: rest → e.expectsReply = true →
      m = max s.now (start + (5 + e.frame.payload.length) * Config.tickChar) →
      exec .doorFrameSent s = .next { s with
        now := m
        link := { s.link with
          doorSide := .awaiting (m + s.tables.general.doorwindow * Config.tickMs)
          door := { s.link.door with tx := .trailing m, lastChar := some m } } }) ∧
    (∀ e rest, s.link.door.tx = .sending start → s.link.relay = e :: rest → e.expectsReply = false →
      m = max s.now (start + (5 + e.frame.payload.length) * Config.tickChar) →
      exec .doorFrameSent s = .next { s with
        now := m
        link := { s.link with
          doorSide := .free, relay := rest
          flow := if rest.length ≤ s.tables.general.relaylow then .flowOpen else s.link.flow
          door := { s.link.door with tx := .trailing m, lastChar := some m } } }) ∧
    (s.link.trunk.tx = .trailing start → m = max s.now (start + Config.tickChar) →
      exec (.driverEnableRelease .trunk) s = .next { s with
        now := m, link := { s.link with trunk := { s.link.trunk with tx := .idle, rx := .waiting } } }) ∧
    (s.link.door.tx = .trailing start → m = max s.now (start + Config.tickChar) →
      exec (.driverEnableRelease .door) s = .next { s with
        now := m, link := { s.link with door := { s.link.door with tx := .idle, rx := .waiting } } })

/-- COLLISION (R164): the frame is lost, counted, and not sent again. The clock is the model's choice (log 1); that
the read-back differs, and when, is the run's to give (log 42). -/
def Obligations.CollisionLosesFrame : Prop :=
  ∀ (s : State) (dt start : Nat) (e : UplinkEntry) (rest : List UplinkEntry),
    s.link.trunk.tx = .sending start → s.link.uplink = e :: rest → e.isRestartReply = false →
    exec (.collision dt) s = .next { s with
      now := s.now + dt
      link := { s.link with
        uplink := rest
        trunk := { rx := .waiting, tx := .idle, lastChar := some (s.now + dt) }
        trunkCount := { s.link.trunkCount with collision := min 65535 (s.link.trunkCount.collision + 1) } } }

/-- REPLY_WINDOW_EXPIRY (R173, R175, R176, R178): the notice is offered, and the next frame of the relay queue is sent
at once where DOOR is quiet; the notice that finds three frames in the uplink queue is dropped and counted (R179). The
clock is the model's choice (log 1). -/
def Obligations.ReplyWindowRunsOut : Prop :=
  (∀ (s : State) (w : Nat) (h : RelayEntry) (rest : List RelayEntry), s.link.doorSide = .awaiting w →
    s.link.relay = h :: rest →
    ∃ t, exec .replyWindowExpiry s = .next t ∧ t.now = max s.now w ∧ t.link.relay = rest ∧
      (rest ≠ [] ∧ s.link.door.quietAt t.now →
        t.link.doorSide = .sending ∧ t.link.door = { s.link.door with tx := .sending t.now }) ∧
      (¬(rest ≠ [] ∧ s.link.door.quietAt t.now) → t.link.doorSide = .free ∧ t.link.door = s.link.door) ∧
      t.link.flow = (if rest.length ≤ s.tables.general.relaylow then .flowOpen else s.link.flow) ∧
      OffersUplink s t (Frame.build h.frame.lead 0xFF [h.frame.lead, h.frame.kind, 1]) ∧
      t.link.doorCount = { s.link.doorCount with silent := min 65535 (s.link.doorCount.silent + 1) } ∧
      KeepsSetup s t ∧ KeepsSenses s t ∧ KeepsJobs s t)

/-- AWAITED_LEAD in AWAITING (R161, R176): the door side is TAKING and the window is stopped. The clock is the model's
choice (log 1). The row's address is the request's (log 7); the lead is dated at its end, which may lie behind the
window's (log 38). -/
def Obligations.AwaitedLeadTakes : Prop :=
  ∀ (s : State) (dt w : Nat) (h : RelayEntry) (rest : List RelayEntry), s.link.doorSide = .awaiting w →
    s.link.relay = h :: rest → h.frame.lead.toNat ≤ 63 → s.link.door.tx = .idle →
    exec (.awaitedLead dt) s = .next { s with
      now := s.now + dt
      link := { s.link with
        doorSide := .taking
        door := { rx := .atKind h.frame.lead, tx := .idle, lastChar := some (s.now + dt) }
        doorCount := if s.link.door.rx = .waiting then s.link.doorCount
                     else { s.link.doorCount with mark := min 65535 (s.link.doorCount.mark + 1) } } }

/-! ### Observations and channels -/

/-- OBSERVATION_AGE_SECOND and OBSERVATION_STALE (R149). The clock is the model's choice (log 1). A row named after a
second's outcome is that second (log 3). -/
def Obligations.ObservationAges : Prop :=
  ∀ (s : State) (k : ObsKind) (e : ObsEntry) (limit : Nat), e = s.obs.get k → limit = s.tables.general.staleLimit k →
    (e.st = .never → exec (.observationAgeSecond k) s = .next s) ∧
    (e.st ≠ .never → exec (.observationAgeSecond k) s = .next { s with
      now := max s.now e.ageAt
      obs := s.obs.set k { e with
        age := min 65535 (e.age + 1), ageAt := e.ageAt + Config.tickSecond
        st := if e.st = .fresh ∧ limit ≠ 0 ∧ limit ≤ min 65535 (e.age + 1) then .stale else e.st } }) ∧
    (e.st = .fresh → limit ≠ 0 → limit = e.age + 1 → limit ≤ 255 →
      exec (.observationStale k) s = .next { s with
        now := max s.now e.ageAt
        obs := s.obs.set k { e with age := limit, ageAt := e.ageAt + Config.tickSecond, st := .stale } }) ∧
    [ObsKind.fzdoor, .ffdoor, .compressor, .select, .measure, .lock, .fastice].map s.tables.general.staleLimit =
      [s.tables.general.staleFzdoor, s.tables.general.staleFfdoor, s.tables.general.staleCompressor,
       s.tables.general.staleSelect, s.tables.general.staleMeasure, s.tables.general.staleLock,
       s.tables.general.staleFastice] ∧
    (∀ x : ObsEntry, (s.obs.set k x).get k = x ∧ ∀ j, j ≠ k → (s.obs.set k x).get j = s.obs.get j)

/-- SAMPLE_COMPLETION (R134, R135, R136, R137, R138, R139): the runs, the total, the history, the range state and the
value of a channel; nothing else changes. A channel's status, and when it has a usable value (R138, R142). The clock
is the model's choice (log 1). -/
def Obligations.SampleMovesChannel : Prop :=
  (∀ (s : State) (dt : Nat) (c : Chan) (n : BitVec 12) (m : ChanMapEntry) (x : Channel),
     m = s.tables.chanMap.get c → x = s.temps.get c →
     (m.sel = .noCurve → exec (.sampleCompletion dt c n) s = .next { s with now := s.now + dt }) ∧
     (m.sel ≠ .noCurve → ∃ y : Channel,
       exec (.sampleCompletion dt c n) s = .next { s with now := s.now + dt, temps := s.temps.set c y } ∧
       (n.toNat < m.below → y.lowRun = min 4 (x.lowRun + 1) ∧ y.highRun = 0 ∧ y.inRun = 0 ∧ y.total = x.total ∧
         y.history = x.history) ∧
       (m.below ≤ n.toNat → m.above < n.toNat → y.highRun = min 4 (x.highRun + 1) ∧ y.lowRun = 0 ∧ y.inRun = 0 ∧
         y.total = x.total ∧ y.history = x.history) ∧
       (m.below ≤ n.toNat → n.toNat ≤ m.above → y.inRun = min 4 (x.inRun + 1) ∧ y.total = min 4 (x.total + 1) ∧
         y.lowRun = 0 ∧ y.highRun = 0 ∧
         y.history = (if x.history.length = 4 then x.history.drop 1 else x.history) ++ [n.toNat]) ∧
       y.range = (if x.range ≠ .low ∧ y.lowRun = 4 then .low
                  else if x.range ≠ .high ∧ y.highRun = 4 then .high
                  else if x.range = .unsettled ∧ y.total = 4 then .settled
                  else if (x.range = .low ∨ x.range = .high) ∧ y.inRun = 4 then .settled
                  else x.range) ∧
       (curveValid (s.tables.curve m.sel) = false ∨ y.range = .unsettled → y.value = none) ∧
       (curveValid (s.tables.curve m.sel) = true → y.range = .low ∨ y.range = .high → y.value = x.value) ∧
       (curveValid (s.tables.curve m.sel) = true → y.range = .settled →
         y.value = (if y.history.length = 4 then convert (y.history.sum / 4) (s.tables.curve m.sel) else none)))) ∧
  (∀ (s : State) (c : Chan) (m : ChanMapEntry) (x : Channel), m = s.tables.chanMap.get c → x = s.temps.get c →
    s.status c = (if m.sel = .noCurve then .notFitted
      else if curveValid (s.tables.curve m.sel) = false then .noCurve
      else if x.range = .unsettled then .settling else if x.range = .settled then .ok
      else if x.range = .low then .below else .above) ∧
    s.usable c = (if s.status c = .ok then x.value else none) ∧
    x.mean = (if x.history.length = 4 then some (x.history.sum / 4) else none) ∧
    (∀ y : Channel, (s.temps.set c y).get c = y ∧ ∀ d, d ≠ c → (s.temps.set c y).get d = s.temps.get d))

/-! ### Defrost -/

/-- DEFROST_SECOND in ACCRUE without a trigger, and in DUE that defers (R2, R3, R4, R27, R28). The clock is the
model's choice (log 1). -/
def Obligations.DefrostSecondAccrues : Prop :=
  ∀ (s : State) (a : Nat), s.mode = .running →
    a = (if s.obs.compressor.st = .fresh ∧ s.obs.compressor.value = 0 then 0 else s.tables.defrost.runw) +
        (if s.obs.fzdoor.st = .fresh ∧ s.obs.fzdoor.value ≠ 0 then s.tables.defrost.doorfw else 0) +
        (if s.obs.ffdoor.st = .fresh ∧ s.obs.ffdoor.value ≠ 0 then s.tables.defrost.doorrw else 0) →
    (s.defrost.st = .accrue → min 16777215 (s.defrost.estimate + a) < s.defrost.thr →
      min 3932100 (s.defrost.capElapsed + 1) < s.tables.defrost.cap * 3600 →
      exec .defrostSecond s = .next { s with
        now := max s.now s.defrost.secondAt
        defrost := { s.defrost with
          secondAt := s.defrost.secondAt + Config.tickSecond
          estimate := min 16777215 (s.defrost.estimate + a)
          capElapsed := min 3932100 (s.defrost.capElapsed + 1)
          stateTime := min 65535 (s.defrost.stateTime + 1) } }) ∧
    (s.defrost.st = .due → min 65535 (s.defrost.timeInDue + 1) < s.tables.defrost.defermax →
      (s.obs.fzdoor.st = .fresh ∧ s.obs.fzdoor.value ≠ 0) ∨ s.disp.st = .pour ∨ s.disp.st = .deliver ∨
        s.ice.st = .harvestHeat ∨ s.ice.st = .harvestRake →
      exec .defrostSecond s = .next { s with
        now := max s.now s.defrost.secondAt
        defrost := { s.defrost with
          secondAt := s.defrost.secondAt + Config.tickSecond
          estimate := min 16777215 (s.defrost.estimate + a)
          capElapsed := min 3932100 (s.defrost.capElapsed + 1)
          cycleTime := min 65535 (s.defrost.cycleTime + 1)
          stateTime := min 65535 (s.defrost.stateTime + 1)
          timeInDue := min 65535 (s.defrost.timeInDue + 1) } }) ∧
    s.accrual = a

/-- The triggers at a completed second: ESTIMATE (DEFROST_SECOND) and CAP (CAP_REACHED), and ESTIMATE where both hold
(R6, R8). The clock is the model's choice (log 1). A row named after a second's outcome is that second (log 3). -/
def Obligations.TriggersEnterDue : Prop :=
  ∀ (s : State) (e : Nat), s.mode = .running → s.defrost.st = .accrue →
    e = min 16777215 (s.defrost.estimate + s.accrual) →
    (s.defrost.thr ≤ e → exec .defrostSecond s = .next { s with
      now := max s.now s.defrost.secondAt
      defrost := { s.defrost with
        secondAt := s.defrost.secondAt + Config.tickSecond, estimate := e
        capElapsed := min 3932100 (s.defrost.capElapsed + 1)
        st := .due, stateTime := 0, trigger := .estimate, startEstimate := e, cycleTime := 0, heatBegun := false,
        heaterOn := 0, cause := .noCause, thrBefore := s.defrost.thr, thrAfter := s.defrost.thr, timeInDue := 0,
        compHeld := false, startedAt := max s.now s.defrost.secondAt } }) ∧
    (s.defrost.thr ≤ e → s.tables.defrost.cap * 3600 ≤ min 3932100 (s.defrost.capElapsed + 1) →
      exec .capReached s = exec .defrostSecond s) ∧
    (e < s.defrost.thr → s.tables.defrost.cap * 3600 ≤ min 3932100 (s.defrost.capElapsed + 1) →
      exec .capReached s = .next { s with
        now := max s.now s.defrost.secondAt
        defrost := { s.defrost with
          secondAt := s.defrost.secondAt + Config.tickSecond, estimate := e
          capElapsed := min 3932100 (s.defrost.capElapsed + 1)
          st := .due, stateTime := 0, trigger := .cap, startEstimate := e, cycleTime := 0, heatBegun := false,
          heaterOn := 0, cause := .noCause, thrBefore := s.defrost.thr, thrAfter := s.defrost.thr, timeInDue := 0,
          compHeld := false, startedAt := max s.now s.defrost.secondAt } })

/-- The end of DUE (DEFERMAX_EXPIRY, and DEFROST_SECOND with nothing deferring) and of HOLD (COMPWAIT_EXPIRY,
DEFROST_SECOND) (R28, R29, R30); a request for DH that finds an empty wait list and room is GRANTED in its event, with
HM moved by its state (R31, R122, R125, R127, R130). A second that falls together with a DEFROST NOW taken first tests
nothing (R7). What it counts, that the two moments are then one, and that one which would not have triggered tests
nothing either are the model's choices (log 40). The clock is the model's choice (log 1). A row named after a second's
outcome is that second (log 3). -/
def Obligations.DueAndHoldEnd : Prop :=
  ∀ s : State, s.mode = .running →
    (s.defrost.st = .due → s.tables.defrost.defermax ≤ min 65535 (s.defrost.timeInDue + 1) →
      ∃ t, exec .defermaxExpiry s = .next t ∧ exec .defrostSecond s = .next t ∧ t.defrost.st = .hold ∧
        t.defrost.stateTime = 0 ∧ t.compressorHold = true ∧ t.drives.ef = false ∧
        t.defrost.estimate = min 16777215 (s.defrost.estimate + s.accrual) ∧
        t.defrost.timeInDue = min 65535 (s.defrost.timeInDue + 1) ∧ t.defrost.trigger = s.defrost.trigger ∧
        t.ice = s.ice ∧ t.disp = s.disp ∧ t.line = s.line ∧ t.gate = s.gate ∧ t.link = s.link ∧
        KeepsSetup s t ∧ KeepsSenses s t) ∧
    (s.defrost.st = .due → ¬(s.obs.fzdoor.st = .fresh ∧ s.obs.fzdoor.value ≠ 0) → s.disp.st ≠ .pour →
      s.disp.st ≠ .deliver → s.ice.st ≠ .harvestHeat → s.ice.st ≠ .harvestRake →
      exec .defrostSecond s = .next { s with
        now := max s.now s.defrost.secondAt
        defrost := { s.defrost with
          secondAt := s.defrost.secondAt + Config.tickSecond
          estimate := min 16777215 (s.defrost.estimate + s.accrual)
          capElapsed := min 3932100 (s.defrost.capElapsed + 1)
          cycleTime := min 65535 (s.defrost.cycleTime + 1)
          timeInDue := min 65535 (s.defrost.timeInDue + 1)
          st := .hold, stateTime := 0 } }) ∧
    (s.defrost.st = .hold → s.forcedTogether = false →
      ¬(s.obs.compressor.st = .fresh ∧ s.obs.compressor.value = 0) →
      s.tables.defrost.compwait ≤ min 65535 (s.defrost.stateTime + 1) →
      ∃ t, exec .compwaitExpiry s = .next t ∧ t.defrost.st = .heat ∧ t.defrost.stateTime = 0 ∧
        t.defrost.compHeld = false ∧ t.defrost.heaterOn = 0 ∧ t.defrost.estimate = s.defrost.estimate ∧
        t.gate.reqState .dh ≠ .noRequest ∧
        (s.gate.reqState .dh = .noRequest → t.defrost.heatBegun = t.drives.dh) ∧
        t.line = s.line ∧ t.link = s.link ∧ KeepsSetup s t ∧ KeepsSenses s t) ∧
    (s.defrost.st = .hold → s.forcedTogether = false → s.obs.compressor.st = .fresh → s.obs.compressor.value = 0 →
      ∃ t, exec .defrostSecond s = .next t ∧ t.defrost.st = .heat ∧ t.defrost.stateTime = 0 ∧
        t.defrost.compHeld = true ∧ t.defrost.heaterOn = 0 ∧ t.defrost.estimate = s.defrost.estimate ∧
        t.gate.reqState .dh ≠ .noRequest ∧
        (s.gate.reqState .dh = .noRequest → t.defrost.heatBegun = t.drives.dh) ∧
        t.line = s.line ∧ t.link = s.link ∧ KeepsSetup s t ∧ KeepsSenses s t) ∧
    (s.forcedTogether = decide (s.defrost.st = .hold ∧ s.defrost.trigger = .forced ∧ s.defrost.stateTime = 0 ∧
      s.defrost.startedAt = max s.now s.defrost.secondAt)) ∧
    (s.forcedTogether = true → exec .compwaitExpiry s = .next s ∧
      exec .defrostSecond s = .next { s with
        now := s.defrost.startedAt
        defrost := { s.defrost with
          secondAt := s.defrost.secondAt + Config.tickSecond
          capElapsed := min 3932100 (s.defrost.capElapsed + 1)
          cycleTime := min 65535 (s.defrost.cycleTime + 1)
          stateTime := 1 } }) ∧
    (∀ (held : Bool) (m : Nat), s.defrost.st = .hold → s.forcedTogether = false → m = max s.now s.defrost.secondAt →
      (held = true ∧ s.obs.compressor.st = .fresh ∧ s.obs.compressor.value = 0) ∨
        (held = false ∧ ¬(s.obs.compressor.st = .fresh ∧ s.obs.compressor.value = 0) ∧
          s.tables.defrost.compwait ≤ min 65535 (s.defrost.stateTime + 1)) →
      s.gate.reqState .dh = .noRequest → s.gate.wait = [] → s.gate.weightInUse .dh ≤ s.gate.budgetFree →
      exec .defrostSecond s = .next { s with
        now := m
        gate := { s.gate with granted := { s.gate.granted with dh := true }, hm := s.hmOnGrant m }
        defrost := { s.defrost with
          secondAt := s.defrost.secondAt + Config.tickSecond
          capElapsed := min 3932100 (s.defrost.capElapsed + 1)
          cycleTime := min 65535 (s.defrost.cycleTime + 1)
          st := .heat, stateTime := 0, compHeld := held, heaterOn := 0
          heatBegun := decide (s.hmOnGrant m = .hmClosed) } })

/-- HEATMAX_EXPIRY shortens THR by a quarter, not below THRMIN; FIXEDHEAT_EXPIRY leaves THR alone (R9, R11, R12, R32,
R33). DH is released: HM goes to HOLDING after the last heater, and a heater that waits at the head and now fits is
GRANTED (R125, R126, R131). The clock is the model's choice (log 1). A row named after a second's outcome is that
second (log 3). -/
def Obligations.HeatTimeEnds : Prop :=
  ∀ s : State, s.mode = .running → s.defrost.st = .heat → s.gate.heaterOn .dh = true →
    (∀ temp, s.usable .evap = some temp → temp < s.tables.defrost.termtemp →
      s.tables.defrost.heatmax ≤ s.defrost.heaterOn + 1 →
      ∃ t, exec .heatmaxExpiry s = .next t ∧ t.defrost.st = .drip ∧ t.defrost.stateTime = 0 ∧
        t.defrost.cause = .time ∧ t.defrost.heaterOn = s.defrost.heaterOn + 1 ∧
        t.defrost.thr = max s.tables.defrost.thrmin (s.defrost.thr * 3 / 4) ∧
        t.defrost.thrBefore = s.defrost.thr ∧ t.defrost.thrAfter = t.defrost.thr ∧
        t.defrost.origin = (if t.defrost.thr = s.defrost.thr then s.defrost.origin else .adapted) ∧
        (s.apart .dh → t.gate.reqState .dh = .noRequest) ∧ (s.noneWaitsBut .dh → t.ice = s.ice ∧ t.disp = s.disp) ∧
        ReleasesDh s t ∧ t.line = s.line ∧ t.link = s.link ∧ KeepsSetup s t ∧ KeepsSenses s t) ∧
    (s.usable .evap = none → s.tables.defrost.fixedheat ≤ s.defrost.heaterOn + 1 →
      ∃ t, exec .fixedheatExpiry s = .next t ∧ t.defrost.st = .drip ∧ t.defrost.stateTime = 0 ∧
        t.defrost.cause = .fixed ∧ t.defrost.heaterOn = s.defrost.heaterOn + 1 ∧
        t.defrost.thr = s.defrost.thr ∧ t.defrost.thrBefore = s.defrost.thr ∧ t.defrost.thrAfter = s.defrost.thr ∧
        t.defrost.origin = s.defrost.origin ∧
        (s.apart .dh → t.gate.reqState .dh = .noRequest) ∧ (s.noneWaitsBut .dh → t.ice = s.ice ∧ t.disp = s.disp) ∧
        ReleasesDh s t ∧ t.line = s.line ∧ t.link = s.link ∧ KeepsSetup s t ∧ KeepsSenses s t)

/-- A TEMP end scales THR by TARGETHEAT / H, within a quarter and within the range; an early forced or capped cycle
leaves it (R9, R10, R12, R32). The clock is the model's choice (log 1). -/
def Obligations.TempEndAdapts : Prop :=
  ∀ (s : State) (temp : Int) (h : Nat), s.mode = .running → s.defrost.st = .heat → s.gate.heaterOn .dh = true →
    s.usable .evap = some temp → s.tables.defrost.termtemp ≤ temp → h = s.defrost.heaterOn + 1 →
    ∃ t, exec .defrostSecond s = .next t ∧ t.defrost.st = .drip ∧ t.defrost.cause = .temp ∧
      t.defrost.heaterOn = h ∧ t.defrost.thrBefore = s.defrost.thr ∧ t.defrost.thrAfter = t.defrost.thr ∧
      t.defrost.thr =
        (if s.defrost.trigger = .estimate ∨ s.defrost.thr / 2 ≤ s.defrost.startEstimate then
          max s.tables.defrost.thrmin (min s.tables.defrost.thrmax
            (max (s.defrost.thr * 3 / 4)
              (min (s.defrost.thr * 5 / 4) (s.defrost.thr * s.tables.defrost.targetheat / h))))
         else s.defrost.thr) ∧
      t.defrost.origin = (if t.defrost.thr = s.defrost.thr then s.defrost.origin else .adapted) ∧
      t.line = s.line ∧ t.link = s.link ∧ KeepsSetup s t ∧ KeepsSenses s t

/-- DRIPTIME_EXPIRY, FANMAX_EXPIRY, and the second at which the coil is cold (R13, R18, R19, R20, R34, R35). The clock
is the model's choice (log 1). A row named after a second's outcome is that second (log 3); what a cycle's end
discards is log 10. -/
def Obligations.DripAndFanDelayEnd : Prop :=
  ∀ s : State, s.mode = .running →
    (s.defrost.st = .drip → s.tables.defrost.driptime ≤ min 65535 (s.defrost.stateTime + 1) →
      exec .driptimeExpiry s = .next { s with
        now := max s.now s.defrost.secondAt
        defrost := { s.defrost with
          secondAt := s.defrost.secondAt + Config.tickSecond
          capElapsed := min 3932100 (s.defrost.capElapsed + 1)
          cycleTime := min 65535 (s.defrost.cycleTime + 1)
          st := .recover, stateTime := 0 } }) ∧
    (s.defrost.st = .recover → s.tables.defrost.fanmax ≤ min 65535 (s.defrost.stateTime + 1) →
      (∀ temp, s.usable .evap = some temp → s.tables.defrost.fantemp < temp) →
      exec .fanmaxExpiry s = .next { s with
        now := max s.now s.defrost.secondAt
        defrost := { s.defrost with
          secondAt := s.defrost.secondAt + Config.tickSecond
          estimate := 0, capElapsed := 0
          cycleTime := min 65535 (s.defrost.cycleTime + 1)
          st := .accrue, stateTime := 0, trigger := .noTrigger, startEstimate := 0, cause := .noCause,
          heatBegun := false
          ring := ({ seq := s.defrost.nextSeq, trigger := s.defrost.trigger, cause := s.defrost.cause,
                     compHeld := s.defrost.compHeld, startEstimate := s.defrost.startEstimate,
                     thrBefore := s.defrost.thrBefore, thrAfter := s.defrost.thrAfter,
                     heaterOn := s.defrost.heaterOn, cycleSeconds := min 65535 (s.defrost.cycleTime + 1),
                     unread := true } :: s.defrost.ring).take 4
          nextSeq := (s.defrost.nextSeq + 1) % 256 } }) ∧
    (∀ temp, s.defrost.st = .recover → s.usable .evap = some temp → temp ≤ s.tables.defrost.fantemp →
      exec .defrostSecond s = .next { s with
        now := max s.now s.defrost.secondAt
        defrost := { s.defrost with
          secondAt := s.defrost.secondAt + Config.tickSecond
          estimate := 0, capElapsed := 0
          cycleTime := min 65535 (s.defrost.cycleTime + 1)
          st := .accrue, stateTime := 0, trigger := .noTrigger, startEstimate := 0, cause := .noCause,
          heatBegun := false
          ring := ({ seq := s.defrost.nextSeq, trigger := s.defrost.trigger, cause := s.defrost.cause,
                     compHeld := s.defrost.compHeld, startEstimate := s.defrost.startEstimate,
                     thrBefore := s.defrost.thrBefore, thrAfter := s.defrost.thrAfter,
                     heaterOn := s.defrost.heaterOn, cycleSeconds := min 65535 (s.defrost.cycleTime + 1),
                     unread := true } :: s.defrost.ring).take 4
          nextSeq := (s.defrost.nextSeq + 1) % 256 } })

/-! ### Ice maker -/

/-- ICE_SECOND in every state, with the PARK evaluation, and RETRY_TIMER_EXPIRY (R47, R71, R74, R75, R76, R82, R83,
R84). What the ends of a freeze and of a harvest heat leave is in FreezeEnds and HarvestHeatEnds. The clock is the
model's choice (log 1). A row named after a second's outcome is that second (log 3). -/
def Obligations.IceSecondCompletes : Prop :=
  ∀ (s : State) (m : Nat) (i : Ice), s.mode = .running → m = max s.now s.ice.secondAt →
    i = { s.ice with secondAt := s.ice.secondAt + Config.tickSecond, retry := s.ice.retry - 1 } →
    (s.ice.st = .off ∨ s.ice.st.inFill = true ∨ s.ice.st = .harvestRake ∨ s.ice.st = .binfull ∨ s.ice.st = .fault →
      exec .iceSecond s = .next { s with now := m, ice := i }) ∧
    (s.ice.retry = 1 → exec .retryTimerExpiry s = exec .iceSecond s) ∧
    (∀ frozen below : Nat, s.ice.st = .freeze →
      frozen = (if s.defrost.st = .heat ∨ s.defrost.st = .drip then s.ice.freezetime
                else min 65535 (s.ice.freezetime + 1)) →
      (s.usable .tray = none → below = s.ice.belowtime ∧ frozen < s.tables.ice.freezefixed) →
      (∀ temp, s.usable .tray = some temp → frozen < s.tables.ice.freezemax ∧
        below = (if temp ≤ s.tables.ice.harvtemp then min 65535 (s.ice.belowtime + 1) else 0) ∧
        below < (if s.obs.fastice.st = .fresh ∧ s.obs.fastice.value ≠ 0 then s.tables.ice.freezehold / 2
                 else s.tables.ice.freezehold)) →
      exec .iceSecond s = .next { s with now := m, ice := { i with freezetime := frozen, belowtime := below } }) ∧
    (∀ frozen : Nat, s.ice.st = .freeze →
      frozen = (if s.defrost.st = .heat ∨ s.defrost.st = .drip then s.ice.freezetime
                else min 65535 (s.ice.freezetime + 1)) →
      (∀ temp, s.usable .tray = some temp → temp ≤ s.tables.ice.harvtemp →
        (if s.obs.fastice.st = .fresh ∧ s.obs.fastice.value ≠ 0 then s.tables.ice.freezehold / 2
         else s.tables.ice.freezehold) ≤ min 65535 (s.ice.belowtime + 1) →
        exec .iceSecond s = exec .freezeholdReached s) ∧
      (∀ temp, s.usable .tray = some temp → s.tables.ice.freezemax ≤ frozen →
        exec .iceSecond s = exec .freezemaxExpiry s) ∧
      (s.usable .tray = none → s.tables.ice.freezefixed ≤ frozen →
        exec .iceSecond s = exec .freezefixedExpiry s)) ∧
    (s.ice.st = .harvestHeat → s.gate.heaterOn .th = false →
      exec .iceSecond s = .next { s with now := m, ice := i }) ∧
    (s.ice.st = .harvestHeat → s.gate.heaterOn .th = true → s.ice.heatTime + 1 < s.tables.ice.harvheatmax →
      (∀ temp, s.usable .tray = some temp → temp < s.tables.ice.releasetemp) →
      exec .iceSecond s = .next { s with now := m, ice := { i with heatTime := s.ice.heatTime + 1 } }) ∧
    (s.ice.st = .harvestHeat → s.gate.heaterOn .th = true → s.tables.ice.harvheatmax ≤ s.ice.heatTime + 1 →
      exec .iceSecond s = exec .harvheatmaxExpiry s) ∧
    (s.ice.st = .park →
      (s.ice.disablePending = true → ∃ t, exec .iceSecond s = .next t ∧ t.ice.st = .off ∧
        t.ice.disablePending = false ∧ t.line = s.line ∧ t.link = s.link ∧ KeepsSetup s t ∧ KeepsSenses s t) ∧
      (s.ice.disablePending = false → s.inputs.binfull = true → exec .iceSecond s = .next { s with
        now := m
        ice := { i with st := .binfull, binwaitAt := some (m + s.tables.ice.binwait * Config.tickSecond) } }) ∧
      (s.ice.disablePending = false → s.inputs.binfull = false →
        1 < s.ice.retry ∨ (∃ temp, s.usable .fzair = some temp ∧ s.tables.ice.icemaxair < temp) →
        exec .iceSecond s = .next { s with now := m, ice := i }) ∧
      (s.ice.disablePending = false → s.inputs.binfull = false → s.ice.retry ≤ 1 →
        (∀ temp, s.usable .fzair = some temp → temp ≤ s.tables.ice.icemaxair) →
        (s.line.st = .idle → (∀ e, s.line.lastClosed = some .wv → s.line.changeoverEnd = some e → e ≤ m) →
          ∃ t, exec .iceSecond s = .next t ∧ (s.ice.retry = 1 → exec .retryTimerExpiry s = .next t) ∧
            t.now = m ∧ t.ice = { i with st := .fill .flowing, opened := true, trayLoaded := true, elapsed := 0,
                                         trailAt := none } ∧
            t.line = { s.line with
              st := .fill, fillWaiting := false, resumes := false, openedAt := m, flowk := s.tables.water.flowk,
              fillTally := 0, fillOpen := 0, unclaimed := 0, noflowSeen := false
              noflowAt := if s.tables.water.flowk = 0 then none
                          else some (m + s.tables.water.noflowtime * Config.tickSecond) } ∧
            t.gate.reqState .ft ≠ .noRequest ∧ t.link = s.link ∧ KeepsSetup s t ∧ KeepsSenses s t) ∧
        (∀ e, s.line.st = .idle → s.line.lastClosed = some .wv → s.line.changeoverEnd = some e → m < e →
          exec .iceSecond s = .next { s with
            now := m, ice := { i with st := .fill .lineWait, opened := false, elapsed := 0 }
            line := { s.line with st := .changeover .iceMaker, resumes := false } }) ∧
        (s.line.st = .pour ∨ s.line.st = .changeover .dispenser → s.line.fillWaiting = false →
          exec .iceSecond s = .next { s with
            now := m, ice := { i with st := .fill .lineWait, opened := false, elapsed := 0 }
            line := { s.line with fillWaiting := true, resumes := false } })))

/-- FREEZEHOLD_REACHED, FREEZEMAX_EXPIRY, FREEZEFIXED_EXPIRY (R82, R83, R84). The clock is the model's choice (log 1).
A row named after a second's outcome is that second (log 3). -/
def Obligations.FreezeEnds : Prop :=
  ∀ (s : State) (frozen : Nat), s.mode = .running → s.ice.st = .freeze →
    frozen = (if s.defrost.st = .heat ∨ s.defrost.st = .drip then s.ice.freezetime
              else min 65535 (s.ice.freezetime + 1)) →
    (∀ temp, s.usable .tray = some temp → temp ≤ s.tables.ice.harvtemp →
      (if s.obs.fastice.st = .fresh ∧ s.obs.fastice.value ≠ 0 then s.tables.ice.freezehold / 2
       else s.tables.ice.freezehold) ≤ min 65535 (s.ice.belowtime + 1) →
      ∃ t, exec .freezeholdReached s = .next t ∧ t.ice.st = .harvestHeat ∧ t.ice.heatTime = 0 ∧
        t.ice.freezetime = frozen ∧ t.ice.belowtime = min 65535 (s.ice.belowtime + 1) ∧
        t.gate.reqState .th ≠ .noRequest ∧ t.line = s.line ∧ t.link = s.link ∧ KeepsSetup s t ∧ KeepsSenses s t) ∧
    (∀ temp, s.usable .tray = some temp → s.tables.ice.freezemax ≤ frozen →
      ∃ t, exec .freezemaxExpiry s = .next t ∧ t.ice.st = .harvestHeat ∧ t.ice.heatTime = 0 ∧
        t.ice.freezetime = frozen ∧ t.gate.reqState .th ≠ .noRequest ∧ t.line = s.line ∧ t.link = s.link ∧
        KeepsSetup s t ∧ KeepsSenses s t) ∧
    (s.usable .tray = none → s.tables.ice.freezefixed ≤ frozen →
      ∃ t, exec .freezefixedExpiry s = .next t ∧ t.ice.st = .harvestHeat ∧ t.ice.heatTime = 0 ∧
        t.ice.freezetime = frozen ∧ t.ice.belowtime = s.ice.belowtime ∧ t.gate.reqState .th ≠ .noRequest ∧
        t.line = s.line ∧ t.link = s.link ∧ KeepsSetup s t ∧ KeepsSenses s t)

/-- HARVHEATMAX_EXPIRY, and the ICE_SECOND at which the tray has reached RELEASETEMP (R84, R85); a request for EM that
finds an empty wait list and room is GRANTED in its event: TH is released, with HM as R131 has it, and the rake begins
(R86, R122, R125). The clock is the model's choice (log 1). A row named after a second's outcome is that second (log
3). -/
def Obligations.HarvestHeatEnds : Prop :=
  ∀ s : State, s.mode = .running → s.ice.st = .harvestHeat → s.gate.heaterOn .th = true →
    (s.tables.ice.harvheatmax ≤ s.ice.heatTime + 1 →
    ∃ t, exec .harvheatmaxExpiry s = .next t ∧ t.ice.st = .harvestRake ∧ t.ice.heatTime = s.ice.heatTime + 1 ∧
      t.gate.reqState .em ≠ .noRequest ∧
      (t.gate.granted.em = false → t.gate.granted.th = true ∧ t.ice.rakeBegun = false) ∧
      t.line = s.line ∧ t.link = s.link ∧ KeepsSetup s t ∧ KeepsSenses s t) ∧
    (∀ temp, s.usable .tray = some temp → s.tables.ice.releasetemp ≤ temp →
      ∃ t, exec .iceSecond s = .next t ∧ t.ice.st = .harvestRake ∧ t.ice.heatTime = s.ice.heatTime + 1 ∧
        t.gate.reqState .em ≠ .noRequest ∧
        (t.gate.granted.em = false → t.gate.granted.th = true ∧ t.ice.rakeBegun = false) ∧
        t.line = s.line ∧ t.link = s.link ∧ KeepsSetup s t ∧ KeepsSenses s t) ∧
    (∀ m, m = max s.now s.ice.secondAt →
      s.tables.ice.harvheatmax ≤ s.ice.heatTime + 1 ∨
        (∃ temp, s.usable .tray = some temp ∧ s.tables.ice.releasetemp ≤ temp) →
      s.heaterInv → s.gate.reqState .em = .noRequest → s.gate.wait = [] →
      s.gate.weightInUse .em ≤ s.gate.budgetFree →
      exec .iceSecond s = .next { s with
        now := m
        gate := { s.gate with
          granted := { s.gate.granted with em := true, th := false }
          hm := if s.gate.granted.dh = true ∨ s.gate.granted.ft = true then .hmClosed
                else .hmHolding (m + s.tables.general.hmhold * Config.tickSecond) }
        ice := { s.ice with
          secondAt := s.ice.secondAt + Config.tickSecond, retry := s.ice.retry - 1
          heatTime := s.ice.heatTime + 1, st := .harvestRake, rakeBegun := true, leftMark := !s.inputs.home
          rakeleaveAt := some (m + s.tables.ice.rakeleave * Config.tickSecond)
          rakemaxAt := some (m + s.tables.ice.rakemax * Config.tickSecond) } })

/-- HOME_READING_CHANGE, RAKELEAVE_EXPIRY, RAKEMAX_EXPIRY (R87, R88, R89). The clock is the model's choice (log 1).
The rows are the changes of the debounced reading (log 14). -/
def Obligations.RakeSupervised : Prop :=
  ∀ (s : State) (dt : Nat),
    (¬(s.ice.st = .harvestRake ∧ s.ice.rakeBegun = true) → exec (.homeReadingChange dt) s = .next { s with
      now := s.now + dt, inputs := { s.inputs with home := !s.inputs.home } }) ∧
    (s.ice.st = .harvestRake → s.ice.rakeBegun = true → s.inputs.home = true →
      exec (.homeReadingChange dt) s = .next { s with
        now := s.now + dt, inputs := { s.inputs with home := false }, ice := { s.ice with leftMark := true } }) ∧
    (s.ice.st = .harvestRake → s.ice.rakeBegun = true → s.inputs.home = false → s.ice.leftMark = true →
      ∃ t, exec (.homeReadingChange dt) s = .next t ∧ t.inputs = { s.inputs with home := true } ∧
        t.ice.st = (if s.ice.disablePending then .off else .park) ∧ t.ice.disablePending = false ∧
        t.ice.trayLoaded = false ∧ t.ice.cycles = (s.ice.cycles + 1) % 65536 ∧
        (s.apart .em → t.gate.reqState .em = .noRequest) ∧
        t.line = s.line ∧ t.link = s.link ∧ t.obs = s.obs ∧ t.temps = s.temps ∧ KeepsSetup s t) ∧
    (∀ m, s.ice.st = .harvestRake → s.ice.rakeBegun = true → s.ice.leftMark = false → s.ice.rakeleaveAt = some m →
      ∃ t, exec .rakeleaveExpiry s = .next t ∧ t.now = max s.now m ∧ t.ice.st = .fault ∧ t.ice.cause = .stall ∧
        t.ice.disablePending = false ∧ t.ice.retry = 0 ∧ t.ice.trayLoaded = s.ice.trayLoaded ∧
        (s.apart .em → t.gate.reqState .em = .noRequest) ∧ t.line = s.line ∧ t.link = s.link ∧
        KeepsSetup s t ∧ KeepsSenses s t) ∧
    (∀ m, s.ice.st = .harvestRake → s.ice.rakeBegun = true → s.ice.rakemaxAt = some m →
      ∃ t, exec .rakemaxExpiry s = .next t ∧ t.now = max s.now m ∧ t.ice.st = .fault ∧ t.ice.cause = .stall ∧
        t.ice.disablePending = false ∧ t.ice.retry = 0 ∧ t.ice.trayLoaded = s.ice.trayLoaded ∧
        (s.apart .em → t.gate.reqState .em = .noRequest) ∧ t.line = s.line ∧ t.link = s.link ∧
        KeepsSetup s t ∧ KeepsSenses s t)

/-- BINFULL_READING_CHANGE and BINWAIT_EXPIRY (R75). The clock is the model's choice (log 1). The row is the change of
the debounced reading (log 14). -/
def Obligations.BinLookedAt : Prop :=
  ∀ (s : State) (dt : Nat),
    exec (.binfullReadingChange dt) s = .next { s with
      now := s.now + dt, inputs := { s.inputs with binfull := !s.inputs.binfull } } ∧
    (∀ m, s.ice.st = .binfull → s.ice.binwaitAt = some m → s.inputs.binfull = false →
      exec .binwaitExpiry s = .next { s with
        now := max s.now m, ice := { s.ice with st := .park, binwaitAt := none } }) ∧
    (∀ m, s.ice.st = .binfull → s.ice.binwaitAt = some m → s.inputs.binfull = true →
      exec .binwaitExpiry s = .next { s with
        now := max s.now m
        ice := { s.ice with binwaitAt := some (max s.now m + s.tables.ice.binwait * Config.tickSecond) } })

/-! ### Water line -/

/-- CHANGEOVER_END and RESUME_TIMER_EXPIRY (R47, R49, R50, R76, R78). The clock is the model's choice (log 1). The
opening ends the fill's waiting (log 17). What is counted in poured by the coast of a completed fill ends as WV opens
(log 34). -/
def Obligations.LineOpens : Prop :=
  ∀ (s : State) (m e : Nat),
    (s.line.st = .changeover .dispenser → s.line.changeoverEnd = some e → m = max s.now e →
      exec .changeoverEnd s = .next { s with
        now := m
        line := { s.line with
          st := .pour, openedAt := m, flowk := s.tables.water.flowk, pourTally := 0, pourOpen := 0, unclaimed := 0,
          noflowSeen := false
          noflowAt := if s.tables.water.flowk = 0 then none
                      else some (m + s.tables.water.noflowtime * Config.tickSecond) }
        disp := { s.disp with
          pouredBase := if s.disp.measured = .active then s.disp.poured else s.disp.pouredBase
          completed := false } }) ∧
    (s.line.st = .changeover .iceMaker → s.line.changeoverEnd = some e → m = max s.now e →
      ∃ t, exec .changeoverEnd s = .next t ∧ t.now = m ∧
        t.line = { s.line with
          st := .fill, fillWaiting := false, openedAt := m, flowk := s.tables.water.flowk
          fillTally := if s.line.resumes then s.line.fillTally else 0
          fillOpen := if s.line.resumes then s.line.fillOpen else 0
          unclaimed := 0, noflowSeen := false
          noflowAt := if s.tables.water.flowk = 0 then none
                      else some (m + s.tables.water.noflowtime * Config.tickSecond) } ∧
        t.ice = { s.ice with st := .fill .flowing, opened := true, trayLoaded := true, trailAt := none } ∧
        t.gate.reqState .ft ≠ .noRequest ∧ t.link = s.link ∧ KeepsSetup s t ∧ KeepsSenses s t) ∧
    (s.ice.resumeAt = some e → s.line.st = .idle → m = max s.now e →
      (∀ c, s.line.lastClosed = some .wv → s.line.changeoverEnd = some c → c ≤ m) →
      ∃ t, exec .resumeTimerExpiry s = .next t ∧ t.now = m ∧ t.line.st = .fill ∧
        t.line.fillTally = s.line.fillTally ∧ t.line.fillOpen = s.line.fillOpen ∧
        t.ice.st = .fill .flowing ∧ t.ice.resumeAt = none ∧ t.ice.elapsed = s.ice.elapsed ∧
        t.gate.reqState .ft ≠ .noRequest ∧ t.link = s.link ∧ KeepsSetup s t ∧ KeepsSenses s t) ∧
    (s.ice.resumeAt = some e → s.line.st = .pour → s.line.fillWaiting = false → m = max s.now e →
      exec .resumeTimerExpiry s = .next { s with
        now := m, line := { s.line with fillWaiting := true, resumes := true }
        ice := { s.ice with st := .fill .lineWait, resumeAt := none } }) ∧
    (∀ c, s.ice.resumeAt = some e → s.line.st = .idle → s.line.lastClosed = some .wv →
      s.line.changeoverEnd = some c → m = max s.now e → m < c →
      exec .resumeTimerExpiry s = .next { s with
        now := m, line := { s.line with st := .changeover .iceMaker, resumes := true }
        ice := { s.ice with st := .fill .lineWait, resumeAt := none } })

/-- FILLMAX_EXPIRY with a meter and without one, UNMETERED_VOLUME_REACHED in a fill and in a measured fill,
FT_TRAIL_EXPIRY (R46, R56, R77, R79, R80, R81, R105, R113). The clock is the model's choice (log 1). Open times are
whole milliseconds (log 15). -/
def Obligations.FillEnds : Prop :=
  ∀ s : State,
    (s.ice.st = .fill .flowing → s.line.st = .fill → s.line.flowk ≠ 0 →
      s.tables.ice.fillvol / 4 ≤ s.line.fillTally * 1000 / s.line.flowk → s.line.filterTotal ≤ Config.max32 →
      ∃ t, exec .fillmaxExpiry s = .next t ∧ t.ice.st = .freeze ∧ t.ice.belowtime = 0 ∧ t.ice.freezetime = 0 ∧
        t.ice.faultCount = 0 ∧ t.line.st = .idle ∧ t.line.lastClosed = some .iv ∧ t.line.closeAt = t.now ∧
        t.line.fillTally = s.line.fillTally ∧ t.line.filterTotal = s.line.filterTotal ∧ t.link = s.link ∧
        KeepsSetup s t ∧ KeepsSenses s t) ∧
    (s.ice.st = .fill .flowing → s.line.st = .fill → s.line.flowk ≠ 0 →
      s.line.fillTally * 1000 / s.line.flowk < s.tables.ice.fillvol / 4 →
      min 255 (s.ice.faultCount + 1) ≤ s.tables.ice.retries →
      ∃ t, exec .fillmaxExpiry s = .next t ∧ t.ice.st = .park ∧ t.ice.retry = s.tables.ice.fillretry ∧
        t.ice.faultCount = min 255 (s.ice.faultCount + 1) ∧ t.line.st = .idle ∧ t.line.lastClosed = some .iv ∧
        t.line.nosupply = s.line.nosupply ∧ t.link = s.link ∧ KeepsSetup s t ∧ KeepsSenses s t) ∧
    (s.ice.st = .fill .flowing → s.line.st = .fill → s.line.flowk ≠ 0 →
      s.line.fillTally * 1000 / s.line.flowk < s.tables.ice.fillvol / 4 →
      s.tables.ice.retries < min 255 (s.ice.faultCount + 1) →
      ∃ t, exec .fillmaxExpiry s = .next t ∧ t.ice.st = .fault ∧ t.ice.cause = .noflow ∧ t.ice.retry = 0 ∧
        t.ice.disablePending = false ∧ t.line.st = .idle ∧ t.line.lastClosed = some .iv ∧
        (s.apart .ft → t.gate.reqState .ft = .noRequest) ∧ t.link = s.link ∧ KeepsSetup s t ∧ KeepsSenses s t) ∧
    (s.ice.st = .fill .flowing → s.line.st = .fill → s.line.flowk = 0 → s.ice.opened = true →
      s.tables.inRange → s.line.fillOpen ≤ Config.max32 →
      ∃ t, exec .unmeteredVolumeReached s = .next t ∧ t.ice.st = .freeze ∧ t.line.st = .idle ∧
        t.line.lastClosed = some .iv ∧ t.ice.faultCount = 0 ∧
        s.tables.ice.fillvol ≤ t.line.fillOpen * s.tables.water.fillrate / 10000 ∧ t.link = s.link ∧
        KeepsSetup s t ∧ KeepsSenses s t) ∧
    (s.ice.st = .fill .flowing → s.line.st = .fill → s.line.flowk = 0 →
      ∃ t, exec .fillmaxExpiry s = .next t ∧ t.ice.st = .freeze ∧ t.ice.belowtime = 0 ∧ t.ice.freezetime = 0 ∧
        t.ice.faultCount = 0 ∧ t.line.st = .idle ∧ t.line.lastClosed = some .iv ∧ t.line.closeAt = t.now ∧
        s.tables.ice.fillmax * 1000 ≤ t.ice.elapsed ∧ t.link = s.link ∧ KeepsSetup s t ∧ KeepsSenses s t) ∧
    (s.line.st = .pour → s.line.flowk = 0 → s.disp.measured = .active → s.tables.inRange →
      s.disp.target ≤ 2000 → s.line.pourOpen ≤ Config.max32 → s.line.fillWaiting = false →
      s.line.fillSuspended = false →
      ∃ t, exec .unmeteredVolumeReached s = .next t ∧ t.disp.measured = .inactive ∧ t.disp.st = .lockout ∧
        t.disp.press = .spent ∧ t.disp.pourAt = none ∧ t.disp.target = s.disp.target ∧
        s.disp.target ≤ t.disp.poured ∧
        t.disp.poured = s.disp.pouredBase + t.line.pourOpen * s.tables.water.pourrate / 10000 ∧
        t.line.st = .idle ∧ t.line.lastClosed = some .wv ∧ t.line.closeAt = t.now ∧ t.ice = s.ice ∧
        t.gate = s.gate ∧ t.link = s.link ∧ KeepsSetup s t ∧ KeepsSenses s t) ∧
    (∀ m, s.ice.trailAt = some m → ∃ t, exec .ftTrailExpiry s = .next t ∧ t.now = max s.now m ∧
      t.ice.trailAt = none ∧ (s.apart .ft → t.gate.reqState .ft = .noRequest) ∧
      (s.noneWaitsBut .ft → t.ice = { s.ice with trailAt := none } ∧ t.disp = s.disp) ∧
      t.line = s.line ∧ t.link = s.link ∧ KeepsSetup s t ∧ KeepsSenses s t)

/-- FLOW_PULSE (R52, R54, R57, R59, R61, R63, R77, R79, R105, R113): one tally and the filter; the volume that ends a
fill, in FLOWING and on coast pulses; the volume that completes a measured fill, ACTIVE and PAUSED. The clock is the
model's choice (log 1); the pour open time is whole milliseconds (log 15). What coasts after the close of a measured
fill that has completed is counted in poured, by R113 against a remark of chapter 5's worked sequence (log 34). -/
def Obligations.PulseCounted : Prop :=
  ∀ (s : State) (dt total fill pour : Nat) (l : Line),
    total = min 4294967295 (s.line.filterTotal + (s.line.filterRemainder + 1000) / s.line.flowk) →
    fill = min 65535 (s.line.fillTally + 1) * 1000 / s.line.flowk →
    pour = min 65535 (s.line.pourTally + 1) * 1000 / s.line.flowk →
    l = { s.line with
      filterTotal := total, filterRemainder := (s.line.filterRemainder + 1000) % s.line.flowk
      filterState := if total = s.line.filterTotal then s.line.filterState
                     else if s.tables.water.filtercap ≤ total / 1000 then .expired
                     else if s.tables.water.filtercap ≤ total / 1000 + s.tables.water.filterwarn then .due
                     else .good } →
    (s.line.flowk = 0 → exec (.flowPulse dt) s = .next { s with now := s.now + dt }) ∧
    (s.line.flowk ≠ 0 →
      (s.line.st ≠ .fill → s.line.st ≠ .pour →
        s.line.closeAt + s.tables.water.coast * Config.tickMs ≤ s.now + dt ∨ s.line.lastClosed = none →
        exec (.flowPulse dt) s = .next { s with
          now := s.now + dt
          line := { l with
            unclaimed := min 65535 (s.line.unclaimed + 1)
            leak := s.line.leak || (decide (s.mode = .running) &&
              decide (s.tables.water.leakpulses ≤ min 65535 (s.line.unclaimed + 1))) } }) ∧
      (¬(s.ice.st.inFill = true ∧ s.ice.opened = true ∧ s.tables.ice.fillvol ≤ fill) →
        (s.line.st = .fill → exec (.flowPulse dt) s = .next { s with
          now := s.now + dt
          line := { l with fillTally := min 65535 (s.line.fillTally + 1), noflowAt := none } }) ∧
        (s.line.st ≠ .fill → s.line.st ≠ .pour → s.line.lastClosed = some .iv →
          s.now + dt < s.line.closeAt + s.tables.water.coast * Config.tickMs →
          exec (.flowPulse dt) s = .next { s with
            now := s.now + dt, line := { l with fillTally := min 65535 (s.line.fillTally + 1) } })) ∧
      (s.ice.st.inFill = true → s.ice.opened = true → s.tables.ice.fillvol ≤ fill →
        (s.line.st = .fill → ∃ t, exec (.flowPulse dt) s = .next t ∧ t.now = s.now + dt ∧ t.ice.st = .freeze ∧
          t.ice.belowtime = 0 ∧ t.ice.freezetime = 0 ∧ t.ice.faultCount = 0 ∧ t.line.st = .idle ∧
          t.line.lastClosed = some .iv ∧ t.line.closeAt = s.now + dt ∧
          t.line.changeoverEnd = some (s.now + dt + s.tables.water.changeover * Config.tickMs) ∧
          t.line.fillTally = min 65535 (s.line.fillTally + 1) ∧ t.line.noflowAt = none ∧
          t.line.filterTotal = total ∧ t.line.filterRemainder = l.filterRemainder ∧
          t.line.filterState = l.filterState ∧ t.link = s.link ∧ KeepsSetup s t ∧ KeepsSenses s t) ∧
        (s.line.st = .changeover .dispenser ∨ s.line.st = .idle →
          s.line.lastClosed = some .iv → s.now + dt < s.line.closeAt + s.tables.water.coast * Config.tickMs →
          ∃ t, exec (.flowPulse dt) s = .next t ∧ t.now = s.now + dt ∧ t.ice.st = .freeze ∧ t.ice.belowtime = 0 ∧
            t.ice.freezetime = 0 ∧ t.ice.faultCount = 0 ∧ t.ice.resumeAt = none ∧
            t.line = { l with
              fillTally := min 65535 (s.line.fillTally + 1), fillSuspended := false
              fillWaiting := if s.line.st = .idle then s.line.fillWaiting else false } ∧
            t.link = s.link ∧ KeepsSetup s t ∧ KeepsSenses s t)) ∧
      (s.line.st = .pour ∨ (s.line.st ≠ .fill ∧ s.line.lastClosed = some .wv ∧
          s.now + dt < s.line.closeAt + s.tables.water.coast * Config.tickMs) →
        (s.disp.measured = .inactive → exec (.flowPulse dt) s = .next { s with
          now := s.now + dt
          line := { l with
            pourTally := min 65535 (s.line.pourTally + 1)
            noflowAt := if s.line.st = .pour then none else s.line.noflowAt }
          disp := { s.disp with
            poured := if s.disp.completed then s.disp.pouredBase + pour else s.disp.poured } }) ∧
        (s.disp.measured ≠ .inactive → s.disp.pouredBase + pour < s.disp.target →
          exec (.flowPulse dt) s = .next { s with
            now := s.now + dt
            line := { l with
              pourTally := min 65535 (s.line.pourTally + 1)
              noflowAt := if s.line.st = .pour then none else s.line.noflowAt }
            disp := { s.disp with poured := s.disp.pouredBase + pour } }) ∧
        (s.disp.measured = .paused → s.disp.target ≤ s.disp.pouredBase + pour →
          exec (.flowPulse dt) s = .next { s with
            now := s.now + dt
            line := { l with
              pourTally := min 65535 (s.line.pourTally + 1)
              noflowAt := if s.line.st = .pour then none else s.line.noflowAt }
            disp := { s.disp with
              poured := s.disp.pouredBase + pour, measured := .inactive, pauseAt := none, completed := true } }) ∧
        (s.disp.measured = .active → s.disp.target ≤ s.disp.pouredBase + pour → s.line.st = .pour →
          s.line.fillWaiting = false → s.line.fillSuspended = false →
          exec (.flowPulse dt) s = .next { s with
            now := s.now + dt
            line := { l with
              pourTally := min 65535 (s.line.pourTally + 1), noflowAt := none
              st := .idle, lastClosed := some .wv, closeAt := s.now + dt
              changeoverEnd := some (s.now + dt + s.tables.water.changeover * Config.tickMs)
              pourOpen := min 4294967295 (s.line.pourOpen + (s.now + dt - s.line.openedAt) / Config.tickMs) }
            disp := { s.disp with
              poured := s.disp.pouredBase + pour, measured := .inactive, pourAt := none, st := .lockout
              press := .spent, completed := true } })))

/-- NOFLOWTIME_EXPIRY (R57, R58, R81, R114). The clock is the model's choice (log 1). -/
def Obligations.NoFlowFound : Prop :=
  ∀ (s : State) (m : Nat), s.line.noflowAt = some m → s.line.noflowSeen = false →
    (s.line.st = .pour → exec .noflowtimeExpiry s = .next { s with
      now := max s.now m
      line := { s.line with noflowAt := none, noflowSeen := true, nosupply := true }
      disp := if s.disp.measured = .active then { s.disp with measured := .inactive, pauseAt := none }
              else s.disp }) ∧
    (s.line.st = .fill → min 255 (s.ice.faultCount + 1) ≤ s.tables.ice.retries →
      ∃ t, exec .noflowtimeExpiry s = .next t ∧ t.now = max s.now m ∧ t.ice.st = .park ∧
        t.ice.retry = s.tables.ice.fillretry ∧ t.ice.faultCount = min 255 (s.ice.faultCount + 1) ∧
        t.ice.trayLoaded = s.ice.trayLoaded ∧ t.line.st = .idle ∧ t.line.lastClosed = some .iv ∧
        t.line.noflowSeen = true ∧ t.line.nosupply = s.line.nosupply ∧ t.link = s.link ∧
        KeepsSetup s t ∧ KeepsSenses s t) ∧
    (s.line.st = .fill → s.tables.ice.retries < min 255 (s.ice.faultCount + 1) →
      ∃ t, exec .noflowtimeExpiry s = .next t ∧ t.ice.st = .fault ∧ t.ice.cause = .noflow ∧
        t.ice.faultCount = min 255 (s.ice.faultCount + 1) ∧ t.iceFaultPending = true ∧ t.line.st = .idle ∧
        t.line.nosupply = s.line.nosupply ∧ t.link = s.link ∧ KeepsSetup s t ∧ KeepsSenses s t)

/-! ### Dispenser -/

/-- PRESS and RELEASE (R48, R51, R78, R102, R103, R104, R106, R107, R108, R109, R110): presses in IDLE and in
FLAPHOLD, plain, with a volume keyed in, with a measured fill paused, one that suspends a fill, and one that waits out
a changeover; the grant of AM at the press; releases with the line left idle, handed to a fill that waits, and told to
a suspended one. The clock is the model's choice (log 1). The rows are the changes of the debounced reading (log 14).
Open times are whole milliseconds (log 15). What is counted in poured by the coast of a completed fill ends as WV opens
(log 34). -/
def Obligations.PressAndRelease : Prop :=
  ∀ (s : State) (dt : Nat),
    (s.inputs.paddle = false →
      s.mode = .loading ∨ (s.obs.lock.st ≠ .never ∧ s.obs.lock.value ≠ 0) ∨
        (s.obs.fzdoor.st = .fresh ∧ s.obs.fzdoor.value ≠ 0) →
      exec (.press dt) s = .next { s with
        now := s.now + dt, inputs := { s.inputs with paddle := true }, disp := { s.disp with press := .spent } }) ∧
    (s.inputs.paddle = false → s.mode = .running → s.disp.st = .idle ∨ s.disp.st = .flaphold →
      s.obs.lock.st = .never ∨ s.obs.lock.value = 0 → s.obs.fzdoor.st ≠ .fresh ∨ s.obs.fzdoor.value = 0 →
      s.obs.select.st = .never ∨ s.obs.select.value = 0 →
      ∀ (d : Disp) (l : Line), d = { s.disp with
          press := .taken, latched := .water, st := .pour, flapAt := none, flap := false
          pourAt := some (s.now + dt + s.tables.water.pourmax * Config.tickSecond) } →
        l = { s.line with
          st := .pour, openedAt := s.now + dt, flowk := s.tables.water.flowk, pourTally := 0, pourOpen := 0,
          unclaimed := 0, noflowSeen := false
          noflowAt := if s.tables.water.flowk = 0 then none
                      else some (s.now + dt + s.tables.water.noflowtime * Config.tickSecond) } →
      (s.obs.measure.st = .never ∨ s.obs.measure.value = 0 → s.disp.measured = .inactive →
        s.line.st = .idle →
        (∀ e, s.line.lastClosed = some .iv → s.line.changeoverEnd = some e → e ≤ s.now + dt) →
        exec (.press dt) s = .next { s with
          now := s.now + dt, inputs := { s.inputs with paddle := true }, disp := { d with completed := false }
          line := l }) ∧
      (s.obs.measure.st ≠ .never → s.obs.measure.value ≠ 0 → s.disp.measured = .inactive →
        s.line.st = .idle →
        (∀ e, s.line.lastClosed = some .iv → s.line.changeoverEnd = some e → e ≤ s.now + dt) →
        exec (.press dt) s = .next { s with
          now := s.now + dt, inputs := { s.inputs with paddle := true }, line := l
          disp := { d with
            measured := .active, target := s.obs.measure.value, poured := 0, pouredBase := 0, completed := false }
          obs := s.obs.set .measure { s.obs.measure with value := 0 } }) ∧
      (s.disp.measured = .paused → s.line.st = .idle →
        (∀ e, s.line.lastClosed = some .iv → s.line.changeoverEnd = some e → e ≤ s.now + dt) →
        exec (.press dt) s = .next { s with
          now := s.now + dt, inputs := { s.inputs with paddle := true }, line := l
          disp := { d with
            measured := .active, pauseAt := none, pouredBase := s.disp.poured, completed := false } }) ∧
      (s.obs.measure.st = .never ∨ s.obs.measure.value = 0 → s.disp.measured = .inactive →
        s.line.st = .fill → s.ice.st = .fill .flowing → s.line.flowk ≠ 0 → s.line.filterTotal ≤ Config.max32 →
        exec (.press dt) s = .next { s with
          now := s.now + dt, inputs := { s.inputs with paddle := true }, disp := d
          line := { s.line with
            st := .changeover .dispenser, fillSuspended := true, lastClosed := some .iv, closeAt := s.now + dt
            changeoverEnd := some (s.now + dt + s.tables.water.changeover * Config.tickMs), noflowAt := none
            fillOpen := min 4294967295 (s.line.fillOpen + (s.now + dt - s.line.openedAt) / Config.tickMs) }
          ice := { s.ice with
            st := .fill .suspended
            elapsed := s.ice.elapsed + (s.now + dt - s.line.openedAt) / Config.tickMs } }) ∧
      (s.obs.measure.st = .never ∨ s.obs.measure.value = 0 → s.disp.measured = .inactive →
        s.line.st = .changeover .iceMaker →
        exec (.press dt) s = .next { s with
          now := s.now + dt, inputs := { s.inputs with paddle := true }, disp := { d with completed := false }
          line := { l with fillWaiting := true } }) ∧
      (∀ e, s.obs.measure.st = .never ∨ s.obs.measure.value = 0 → s.disp.measured = .inactive →
        s.line.st = .idle → s.line.lastClosed = some .iv → s.line.changeoverEnd = some e → s.now + dt < e →
        exec (.press dt) s = .next { s with
          now := s.now + dt, inputs := { s.inputs with paddle := true }, disp := d
          line := { s.line with st := .changeover .dispenser } })) ∧
    (s.inputs.paddle = false → s.mode = .running → s.disp.st = .idle ∨ s.disp.st = .flaphold →
      s.obs.lock.st = .never ∨ s.obs.lock.value = 0 → s.obs.fzdoor.st ≠ .fresh ∨ s.obs.fzdoor.value = 0 →
      s.obs.select.st ≠ .never → s.obs.select.value = 1 ∨ s.obs.select.value = 2 →
      ∃ t, exec (.press dt) s = .next t ∧ t.disp.st = .deliver ∧ t.disp.press = .taken ∧
        t.disp.latched = (if s.obs.select.value = 1 then .cubes else .crushed) ∧
        t.disp.adReverse = decide (s.obs.select.value = 2) ∧ t.disp.flapAt = none ∧
        (s.disp.flap = true → t.disp.flap = true) ∧ t.gate.reqState .am ≠ .noRequest ∧
        t.line = s.line ∧ t.link = s.link ∧ t.obs = s.obs ∧ t.temps = s.temps ∧ KeepsSetup s t ∧
        (s.heaterInv → s.gate.reqState .am = .noRequest → s.gate.wait = [] →
          s.gate.weightInUse .am ≤ s.gate.budgetFree →
          t = { s with
            now := s.now + dt
            inputs := { s.inputs with paddle := true }
            gate := { s.gate with granted := { s.gate.granted with am := true } }
            disp := { s.disp with
              st := .deliver, press := .taken, latched := if s.obs.select.value = 1 then .cubes else .crushed
              adReverse := decide (s.obs.select.value = 2), delivered := true, flap := true, flapAt := none
              augerAt := some (s.now + dt + s.tables.water.augermax * Config.tickSecond) } })) ∧
    (s.inputs.paddle = true → s.disp.st = .idle ∨ s.disp.st = .flaphold ∨ s.disp.st = .lockout →
      exec (.release dt) s = .next { s with
        now := s.now + dt
        inputs := { s.inputs with paddle := false }
        disp := { s.disp with press := .noPress, st := if s.disp.st = .lockout then .idle else s.disp.st } }) ∧
    (s.inputs.paddle = true → s.disp.st = .pour → s.line.st = .pour → s.line.fillWaiting = false →
      s.line.fillSuspended = false → s.line.flowk ≠ 0 → s.line.filterTotal ≤ Config.max32 →
      exec (.release dt) s = .next { s with
        now := s.now + dt
        inputs := { s.inputs with paddle := false }
        disp := { s.disp with
          st := .idle, press := .noPress, pourAt := none
          measured := if s.disp.measured = .active then .paused else s.disp.measured
          pauseAt := if s.disp.measured = .active
                     then some (s.now + dt + s.tables.water.measurehold * Config.tickSecond) else s.disp.pauseAt }
        line := { s.line with
          st := .idle, lastClosed := some .wv, closeAt := s.now + dt
          changeoverEnd := some (s.now + dt + s.tables.water.changeover * Config.tickMs), noflowAt := none
          pourOpen := min 4294967295 (s.line.pourOpen + (s.now + dt - s.line.openedAt) / Config.tickMs) } }) ∧
    (s.inputs.paddle = true → s.disp.st = .pour → ∀ (d : Disp) (l : Line) (resumeAt : Nat),
      d = { s.disp with
        st := .idle, press := .noPress, pourAt := none
        measured := if s.disp.measured = .active then .paused else s.disp.measured
        pauseAt := if s.disp.measured = .active
                   then some (s.now + dt + s.tables.water.measurehold * Config.tickSecond) else s.disp.pauseAt } →
      l = { s.line with
        lastClosed := some .wv, closeAt := s.now + dt
        changeoverEnd := some (s.now + dt + s.tables.water.changeover * Config.tickMs), noflowAt := none
        pourOpen := min 4294967295 (s.line.pourOpen + (s.now + dt - s.line.openedAt) / Config.tickMs) } →
      resumeAt = s.now + dt + s.tables.water.resumedelay * Config.tickSecond →
      (s.line.st = .pour → s.line.flowk ≠ 0 → s.line.filterTotal ≤ Config.max32 → s.line.fillWaiting = true →
        s.tables.water.changeover ≠ 0 →
        exec (.release dt) s = .next { s with
          now := s.now + dt, inputs := { s.inputs with paddle := false }, disp := d
          line := { l with st := .changeover .iceMaker } }) ∧
      (s.line.st = .pour → s.line.flowk ≠ 0 → s.line.filterTotal ≤ Config.max32 → s.line.fillWaiting = false →
        s.line.fillSuspended = true →
        exec (.release dt) s = .next { s with
          now := s.now + dt, inputs := { s.inputs with paddle := false }, disp := d
          line := { l with st := .idle, fillSuspended := false }, ice := { s.ice with resumeAt := some resumeAt } }) ∧
      (s.line.st = .changeover .dispenser → s.line.fillWaiting = false →
        exec (.release dt) s = .next { s with
          now := s.now + dt, inputs := { s.inputs with paddle := false }, disp := d
          line := { s.line with st := .idle, fillSuspended := false }
          ice := if s.line.fillSuspended then { s.ice with resumeAt := some resumeAt } else s.ice }) ∧
      (s.line.st = .changeover .dispenser → s.line.fillWaiting = true → s.line.lastClosed = some .iv →
        ∃ t, exec (.release dt) s = .next t ∧ t.now = s.now + dt ∧
          t.inputs = { s.inputs with paddle := false } ∧ t.disp = d ∧
          t.line = { s.line with
            st := .fill, fillWaiting := false, openedAt := s.now + dt, flowk := s.tables.water.flowk
            fillTally := if s.line.resumes then s.line.fillTally else 0
            fillOpen := if s.line.resumes then s.line.fillOpen else 0
            unclaimed := 0, noflowSeen := false
            noflowAt := if s.tables.water.flowk = 0 then none
                        else some (s.now + dt + s.tables.water.noflowtime * Config.tickSecond) } ∧
          t.ice = { s.ice with st := .fill .flowing, opened := true, trayLoaded := true, trailAt := none } ∧
          t.gate.reqState .ft ≠ .noRequest ∧ t.link = s.link ∧ t.obs = s.obs ∧ t.temps = s.temps ∧
          KeepsSetup s t)) ∧
    (s.inputs.paddle = true → s.disp.st = .deliver → ∃ t, exec (.release dt) s = .next t ∧
      t.disp.st = (if s.disp.flap then .flaphold else .idle) ∧ t.disp.press = .noPress ∧ t.disp.augerAt = none ∧
      t.disp.flapAt = (if s.disp.flap then some (s.now + dt + s.tables.water.flaphold * Config.tickSecond) else none) ∧
      (s.apart .am → t.gate.reqState .am = .noRequest) ∧
      (s.disp.delivered = true → s.ice.st = .binfull → s.inputs.binfull = false → t.ice.st = .park) ∧
      t.inputs = { s.inputs with paddle := false } ∧ t.line = s.line ∧ t.link = s.link ∧ t.obs = s.obs ∧
      t.temps = s.temps ∧ KeepsSetup s t)

/-- POURMAX_EXPIRY with the line handed on as at a release, AUGERMAX_EXPIRY with the delivery's report,
FLAPHOLD_EXPIRY, MEASUREHOLD_EXPIRY (R51, R75, R78, R106, R107, R111, R112, R114). The clock is the model's choice
(log 1). Open times are whole milliseconds (log 15). -/
def Obligations.DispenserTimers : Prop :=
  ∀ (s : State) (m : Nat),
    (s.disp.pourAt = some m → ∃ t, exec .pourmaxExpiry s = .next t ∧ t.now = max s.now m ∧
      t.disp.st = .lockout ∧ t.disp.press = .spent ∧ t.disp.pourAt = none ∧
      t.disp.measured = (if s.disp.measured = .active then .paused else s.disp.measured) ∧
      (s.line.st = .pour → t.line.lastClosed = some .wv ∧ t.line.closeAt = max s.now m ∧ t.line.st ≠ .pour) ∧
      t.link = s.link ∧ KeepsSetup s t ∧ KeepsSenses s t) ∧
    (s.disp.pourAt = some m → ∀ (M : Nat) (d : Disp) (l : Line) (resumeAt : Nat), M = max s.now m →
      d = { s.disp with
        st := .lockout, press := .spent, pourAt := none
        measured := if s.disp.measured = .active then .paused else s.disp.measured
        pauseAt := if s.disp.measured = .active
                   then some (M + s.tables.water.measurehold * Config.tickSecond) else s.disp.pauseAt } →
      l = { s.line with
        lastClosed := some .wv, closeAt := M
        changeoverEnd := some (M + s.tables.water.changeover * Config.tickMs), noflowAt := none
        pourOpen := min 4294967295 (s.line.pourOpen + (M - s.line.openedAt) / Config.tickMs) } →
      resumeAt = M + s.tables.water.resumedelay * Config.tickSecond →
      (s.line.st = .pour → s.line.flowk ≠ 0 → s.line.filterTotal ≤ Config.max32 → s.line.fillWaiting = false →
        exec .pourmaxExpiry s = .next { s with
          now := M, disp := d, line := { l with st := .idle, fillSuspended := false }
          ice := if s.line.fillSuspended then { s.ice with resumeAt := some resumeAt } else s.ice }) ∧
      (s.line.st = .pour → s.line.flowk ≠ 0 → s.line.filterTotal ≤ Config.max32 → s.line.fillWaiting = true →
        s.tables.water.changeover ≠ 0 →
        exec .pourmaxExpiry s = .next { s with
          now := M, disp := d, line := { l with st := .changeover .iceMaker } }) ∧
      (s.line.st = .changeover .dispenser → s.line.fillWaiting = false →
        exec .pourmaxExpiry s = .next { s with
          now := M, disp := d, line := { s.line with st := .idle, fillSuspended := false }
          ice := if s.line.fillSuspended then { s.ice with resumeAt := some resumeAt } else s.ice }) ∧
      (s.disp.st = .pour → s.line.st = .changeover .dispenser → s.line.fillWaiting = true →
        s.line.lastClosed = some .iv → ∃ t, exec .pourmaxExpiry s = .next t ∧ t.now = M ∧ t.disp = d ∧
          t.line = { s.line with
            st := .fill, fillWaiting := false, openedAt := M, flowk := s.tables.water.flowk
            fillTally := if s.line.resumes then s.line.fillTally else 0
            fillOpen := if s.line.resumes then s.line.fillOpen else 0
            unclaimed := 0, noflowSeen := false
            noflowAt := if s.tables.water.flowk = 0 then none
                        else some (M + s.tables.water.noflowtime * Config.tickSecond) } ∧
          t.ice = { s.ice with st := .fill .flowing, opened := true, trayLoaded := true, trailAt := none } ∧
          t.gate.reqState .ft ≠ .noRequest ∧ t.link = s.link ∧ KeepsSetup s t ∧ KeepsSenses s t)) ∧
    (s.disp.augerAt = some m → ∃ t, exec .augermaxExpiry s = .next t ∧ t.now = max s.now m ∧
      t.disp.st = (if s.disp.flap then .flaphold else .idle) ∧ t.disp.press = .spent ∧ t.disp.augerAt = none ∧
      t.disp.flapAt = (if s.disp.flap then some (max s.now m + s.tables.water.flaphold * Config.tickSecond) else none) ∧
      (s.apart .am → t.gate.reqState .am = .noRequest) ∧
      (s.disp.delivered = true → s.ice.st = .binfull → s.inputs.binfull = false → t.ice.st = .park) ∧
      t.line = s.line ∧ t.link = s.link ∧
      KeepsSetup s t ∧ KeepsSenses s t) ∧
    (s.disp.flapAt = some m → exec .flapholdExpiry s = .next { s with
      now := max s.now m, disp := { s.disp with st := .idle, flap := false, flapAt := none } }) ∧
    (s.disp.pauseAt = some m → exec .measureholdExpiry s = .next { s with
      now := max s.now m, disp := { s.disp with measured := .inactive, pauseAt := none } })

/-! ### Load gate -/

/-- AGING_TIMER_EXPIRY where the list stays blocked, and where the promoted entry comes to the head and fits: it is
GRANTED, its owner is told, HM moves by its state (R86, R109, R120, R121, R124, R125, R130, R131); HMSETTLE_EXPIRY,
HMHOLD_EXPIRY (R131). The clock is the model's choice (log 1). -/
def Obligations.GateTimers : Prop :=
  ∀ (s : State) (m : Nat),
    (∀ (o : Gated) (w : WaitEntry) (before after : List WaitEntry), s.gate.wait = before ++ w :: after →
      s.loadInv → w.out = o → w.cls ≠ 0 → w.ageAt = some m →
      (∀ x ∈ s.gate.wait, s.gate.budgetFree < s.gate.weightInUse x.out) →
      exec (.agingTimerExpiry o) s = .next { s with
        now := max s.now m
        gate := { s.gate with
          wait := (before ++ after).filter (fun x => x.cls = 0) ++
            [{ out := o, cls := 0, since := max s.now m, ageAt := none }] ++
            (before ++ after).filter (fun x => x.cls ≠ 0) } }) ∧
    (∀ (o : Gated) (w : WaitEntry) (before after : List WaitEntry) (M : Nat) (g : Gate),
      s.gate.wait = before ++ w :: after → s.loadInv → w.out = o → w.cls ≠ 0 → w.ageAt = some m → M = max s.now m →
      (∀ x ∈ before ++ after, x.cls ≠ 0) → s.gate.weightInUse o ≤ s.gate.budgetFree →
      g = { s.gate with granted := s.gate.granted.set o true, wait := before ++ after } →
      (∀ x xs, before ++ after = x :: xs → g.budgetFree < g.weightInUse x.out) →
      (o = .th ∨ o = .ft → exec (.agingTimerExpiry o) s = .next { s with
        now := M, gate := { g with hm := s.hmOnGrant M } }) ∧
      (o = .dh → exec (.agingTimerExpiry o) s = .next { s with
        now := M, gate := { g with hm := s.hmOnGrant M }
        defrost := { s.defrost with
          heatBegun := s.defrost.heatBegun || decide (s.hmOnGrant M = .hmClosed) } }) ∧
      (o = .am → s.disp.st = .deliver → exec (.agingTimerExpiry o) s = .next { s with
        now := M, gate := g
        disp := { s.disp with
          flap := true, delivered := true
          augerAt := some (M + s.tables.water.augermax * Config.tickSecond) } }) ∧
      (o = .em → s.ice.st = .harvestRake → before ++ after = [] →
        exec (.agingTimerExpiry o) s = .next { s with
          now := M
          gate := { g with
            granted := { g.granted with th := false }
            hm := if s.gate.hm = .hmClosed ∧ s.gate.granted.dh = false ∧ s.gate.granted.ft = false
                  then .hmHolding (M + s.tables.general.hmhold * Config.tickSecond) else s.gate.hm }
          ice := { s.ice with
            rakeBegun := true, leftMark := !s.inputs.home
            rakeleaveAt := some (M + s.tables.ice.rakeleave * Config.tickSecond)
            rakemaxAt := some (M + s.tables.ice.rakemax * Config.tickSecond) } })) ∧
    (∀ (g : Gate) (o : Gated),
      g.reqState o = (if g.granted.get o = true then .granted else if (∃ w ∈ g.wait, w.out = o) then .waiting
        else .noRequest) ∧
      (g.heaterOn o = true ↔ g.granted.get o = true ∧ g.hm = .hmClosed) ∧
      (g.heaterGranted = true ↔ g.granted.dh = true ∨ g.granted.th = true ∨ g.granted.ft = true) ∧
      [Gated.dh, .th, .ft, .am, .em].map g.granted.get =
        [g.granted.dh, g.granted.th, g.granted.ft, g.granted.am, g.granted.em] ∧
      (∀ b, (g.granted.set o b).get o = b ∧ ∀ p, p ≠ o → (g.granted.set o b).get p = g.granted.get p) ∧
      g.weightInUse o = min (g.load.get o).weight g.budget ∧
      g.budgetFree = g.budget -
        ((if g.granted.dh then min g.load.dh.weight g.budget else 0) +
         (if g.granted.th then min g.load.th.weight g.budget else 0) +
         (if g.granted.ft then min g.load.ft.weight g.budget else 0) +
         (if g.granted.am then min g.load.am.weight g.budget else 0) +
         (if g.granted.em then min g.load.em.weight g.budget else 0))) ∧
    (s.gate.hm = .hmClosing m → s.defrost.st ≠ .heat → exec .hmsettleExpiry s = .next { s with
      now := max s.now m
      gate := { s.gate with hm := if s.gate.heaterGranted then .hmClosed
                                  else .hmHolding (max s.now m + s.tables.general.hmhold * Config.tickSecond) } }) ∧
    (s.gate.hm = .hmClosing m → s.defrost.st = .heat → s.gate.granted.dh = true →
      exec .hmsettleExpiry s = .next { s with
        now := max s.now m, gate := { s.gate with hm := .hmClosed }
        defrost := { s.defrost with heatBegun := true } }) ∧
    (s.gate.hm = .hmHolding m → exec .hmholdExpiry s = .next { s with
      now := max s.now m, gate := { s.gate with hm := .hmOpen } })
end

