-- ==== Sys2Proof/Laws/State.lean ====
section
/-! SUPPORT. What each update of one block of the state reads back as: one lemma a field and update, true by `rfl`. -/

namespace Sys2Proof.Machine

@[simp] theorem State.setNow_now (s : State) (x : Nat) : (s.setNow x).now = x := rfl
@[simp] theorem State.setNow_mode (s : State) (x : Nat) : (s.setNow x).mode = s.mode := rfl
@[simp] theorem State.setNow_restartPending (s : State) (x : Nat) : (s.setNow x).restartPending = s.restartPending := rfl
@[simp] theorem State.setNow_ownAddress (s : State) (x : Nat) : (s.setNow x).ownAddress = s.ownAddress := rfl
@[simp] theorem State.setNow_tables (s : State) (x : Nat) : (s.setNow x).tables = s.tables := rfl
@[simp] theorem State.setNow_link (s : State) (x : Nat) : (s.setNow x).link = s.link := rfl
@[simp] theorem State.setNow_obs (s : State) (x : Nat) : (s.setNow x).obs = s.obs := rfl
@[simp] theorem State.setNow_temps (s : State) (x : Nat) : (s.setNow x).temps = s.temps := rfl
@[simp] theorem State.setNow_defrost (s : State) (x : Nat) : (s.setNow x).defrost = s.defrost := rfl
@[simp] theorem State.setNow_ice (s : State) (x : Nat) : (s.setNow x).ice = s.ice := rfl
@[simp] theorem State.setNow_disp (s : State) (x : Nat) : (s.setNow x).disp = s.disp := rfl
@[simp] theorem State.setNow_line (s : State) (x : Nat) : (s.setNow x).line = s.line := rfl
@[simp] theorem State.setNow_gate (s : State) (x : Nat) : (s.setNow x).gate = s.gate := rfl
@[simp] theorem State.setNow_inputs (s : State) (x : Nat) : (s.setNow x).inputs = s.inputs := rfl
@[simp] theorem State.setNow_pending (s : State) (x : Nat) : (s.setNow x).pending = s.pending := rfl
@[simp] theorem State.setMode_now (s : State) (x : Mode) : (s.setMode x).now = s.now := rfl
@[simp] theorem State.setMode_mode (s : State) (x : Mode) : (s.setMode x).mode = x := rfl
@[simp] theorem State.setMode_restartPending (s : State) (x : Mode) : (s.setMode x).restartPending = s.restartPending := rfl
@[simp] theorem State.setMode_ownAddress (s : State) (x : Mode) : (s.setMode x).ownAddress = s.ownAddress := rfl
@[simp] theorem State.setMode_tables (s : State) (x : Mode) : (s.setMode x).tables = s.tables := rfl
@[simp] theorem State.setMode_link (s : State) (x : Mode) : (s.setMode x).link = s.link := rfl
@[simp] theorem State.setMode_obs (s : State) (x : Mode) : (s.setMode x).obs = s.obs := rfl
@[simp] theorem State.setMode_temps (s : State) (x : Mode) : (s.setMode x).temps = s.temps := rfl
@[simp] theorem State.setMode_defrost (s : State) (x : Mode) : (s.setMode x).defrost = s.defrost := rfl
@[simp] theorem State.setMode_ice (s : State) (x : Mode) : (s.setMode x).ice = s.ice := rfl
@[simp] theorem State.setMode_disp (s : State) (x : Mode) : (s.setMode x).disp = s.disp := rfl
@[simp] theorem State.setMode_line (s : State) (x : Mode) : (s.setMode x).line = s.line := rfl
@[simp] theorem State.setMode_gate (s : State) (x : Mode) : (s.setMode x).gate = s.gate := rfl
@[simp] theorem State.setMode_inputs (s : State) (x : Mode) : (s.setMode x).inputs = s.inputs := rfl
@[simp] theorem State.setMode_pending (s : State) (x : Mode) : (s.setMode x).pending = s.pending := rfl
@[simp] theorem State.setRestartPending_now (s : State) (x : Bool) : (s.setRestartPending x).now = s.now := rfl
@[simp] theorem State.setRestartPending_mode (s : State) (x : Bool) : (s.setRestartPending x).mode = s.mode := rfl
@[simp] theorem State.setRestartPending_restartPending (s : State) (x : Bool) : (s.setRestartPending x).restartPending = x := rfl
@[simp] theorem State.setRestartPending_ownAddress (s : State) (x : Bool) : (s.setRestartPending x).ownAddress = s.ownAddress := rfl
@[simp] theorem State.setRestartPending_tables (s : State) (x : Bool) : (s.setRestartPending x).tables = s.tables := rfl
@[simp] theorem State.setRestartPending_link (s : State) (x : Bool) : (s.setRestartPending x).link = s.link := rfl
@[simp] theorem State.setRestartPending_obs (s : State) (x : Bool) : (s.setRestartPending x).obs = s.obs := rfl
@[simp] theorem State.setRestartPending_temps (s : State) (x : Bool) : (s.setRestartPending x).temps = s.temps := rfl
@[simp] theorem State.setRestartPending_defrost (s : State) (x : Bool) : (s.setRestartPending x).defrost = s.defrost := rfl
@[simp] theorem State.setRestartPending_ice (s : State) (x : Bool) : (s.setRestartPending x).ice = s.ice := rfl
@[simp] theorem State.setRestartPending_disp (s : State) (x : Bool) : (s.setRestartPending x).disp = s.disp := rfl
@[simp] theorem State.setRestartPending_line (s : State) (x : Bool) : (s.setRestartPending x).line = s.line := rfl
@[simp] theorem State.setRestartPending_gate (s : State) (x : Bool) : (s.setRestartPending x).gate = s.gate := rfl
@[simp] theorem State.setRestartPending_inputs (s : State) (x : Bool) : (s.setRestartPending x).inputs = s.inputs := rfl
@[simp] theorem State.setRestartPending_pending (s : State) (x : Bool) : (s.setRestartPending x).pending = s.pending := rfl
@[simp] theorem State.setTables_now (s : State) (x : Tables) : (s.setTables x).now = s.now := rfl
@[simp] theorem State.setTables_mode (s : State) (x : Tables) : (s.setTables x).mode = s.mode := rfl
@[simp] theorem State.setTables_restartPending (s : State) (x : Tables) : (s.setTables x).restartPending = s.restartPending := rfl
@[simp] theorem State.setTables_ownAddress (s : State) (x : Tables) : (s.setTables x).ownAddress = s.ownAddress := rfl
@[simp] theorem State.setTables_tables (s : State) (x : Tables) : (s.setTables x).tables = x := rfl
@[simp] theorem State.setTables_link (s : State) (x : Tables) : (s.setTables x).link = s.link := rfl
@[simp] theorem State.setTables_obs (s : State) (x : Tables) : (s.setTables x).obs = s.obs := rfl
@[simp] theorem State.setTables_temps (s : State) (x : Tables) : (s.setTables x).temps = s.temps := rfl
@[simp] theorem State.setTables_defrost (s : State) (x : Tables) : (s.setTables x).defrost = s.defrost := rfl
@[simp] theorem State.setTables_ice (s : State) (x : Tables) : (s.setTables x).ice = s.ice := rfl
@[simp] theorem State.setTables_disp (s : State) (x : Tables) : (s.setTables x).disp = s.disp := rfl
@[simp] theorem State.setTables_line (s : State) (x : Tables) : (s.setTables x).line = s.line := rfl
@[simp] theorem State.setTables_gate (s : State) (x : Tables) : (s.setTables x).gate = s.gate := rfl
@[simp] theorem State.setTables_inputs (s : State) (x : Tables) : (s.setTables x).inputs = s.inputs := rfl
@[simp] theorem State.setTables_pending (s : State) (x : Tables) : (s.setTables x).pending = s.pending := rfl
@[simp] theorem State.setLink_now (s : State) (x : Link) : (s.setLink x).now = s.now := rfl
@[simp] theorem State.setLink_mode (s : State) (x : Link) : (s.setLink x).mode = s.mode := rfl
@[simp] theorem State.setLink_restartPending (s : State) (x : Link) : (s.setLink x).restartPending = s.restartPending := rfl
@[simp] theorem State.setLink_ownAddress (s : State) (x : Link) : (s.setLink x).ownAddress = s.ownAddress := rfl
@[simp] theorem State.setLink_tables (s : State) (x : Link) : (s.setLink x).tables = s.tables := rfl
@[simp] theorem State.setLink_link (s : State) (x : Link) : (s.setLink x).link = x := rfl
@[simp] theorem State.setLink_obs (s : State) (x : Link) : (s.setLink x).obs = s.obs := rfl
@[simp] theorem State.setLink_temps (s : State) (x : Link) : (s.setLink x).temps = s.temps := rfl
@[simp] theorem State.setLink_defrost (s : State) (x : Link) : (s.setLink x).defrost = s.defrost := rfl
@[simp] theorem State.setLink_ice (s : State) (x : Link) : (s.setLink x).ice = s.ice := rfl
@[simp] theorem State.setLink_disp (s : State) (x : Link) : (s.setLink x).disp = s.disp := rfl
@[simp] theorem State.setLink_line (s : State) (x : Link) : (s.setLink x).line = s.line := rfl
@[simp] theorem State.setLink_gate (s : State) (x : Link) : (s.setLink x).gate = s.gate := rfl
@[simp] theorem State.setLink_inputs (s : State) (x : Link) : (s.setLink x).inputs = s.inputs := rfl
@[simp] theorem State.setLink_pending (s : State) (x : Link) : (s.setLink x).pending = s.pending := rfl
@[simp] theorem State.setObs_now (s : State) (x : ObsTable) : (s.setObs x).now = s.now := rfl
@[simp] theorem State.setObs_mode (s : State) (x : ObsTable) : (s.setObs x).mode = s.mode := rfl
@[simp] theorem State.setObs_restartPending (s : State) (x : ObsTable) : (s.setObs x).restartPending = s.restartPending := rfl
@[simp] theorem State.setObs_ownAddress (s : State) (x : ObsTable) : (s.setObs x).ownAddress = s.ownAddress := rfl
@[simp] theorem State.setObs_tables (s : State) (x : ObsTable) : (s.setObs x).tables = s.tables := rfl
@[simp] theorem State.setObs_link (s : State) (x : ObsTable) : (s.setObs x).link = s.link := rfl
@[simp] theorem State.setObs_obs (s : State) (x : ObsTable) : (s.setObs x).obs = x := rfl
@[simp] theorem State.setObs_temps (s : State) (x : ObsTable) : (s.setObs x).temps = s.temps := rfl
@[simp] theorem State.setObs_defrost (s : State) (x : ObsTable) : (s.setObs x).defrost = s.defrost := rfl
@[simp] theorem State.setObs_ice (s : State) (x : ObsTable) : (s.setObs x).ice = s.ice := rfl
@[simp] theorem State.setObs_disp (s : State) (x : ObsTable) : (s.setObs x).disp = s.disp := rfl
@[simp] theorem State.setObs_line (s : State) (x : ObsTable) : (s.setObs x).line = s.line := rfl
@[simp] theorem State.setObs_gate (s : State) (x : ObsTable) : (s.setObs x).gate = s.gate := rfl
@[simp] theorem State.setObs_inputs (s : State) (x : ObsTable) : (s.setObs x).inputs = s.inputs := rfl
@[simp] theorem State.setObs_pending (s : State) (x : ObsTable) : (s.setObs x).pending = s.pending := rfl
@[simp] theorem State.setTemps_now (s : State) (x : Channels) : (s.setTemps x).now = s.now := rfl
@[simp] theorem State.setTemps_mode (s : State) (x : Channels) : (s.setTemps x).mode = s.mode := rfl
@[simp] theorem State.setTemps_restartPending (s : State) (x : Channels) : (s.setTemps x).restartPending = s.restartPending := rfl
@[simp] theorem State.setTemps_ownAddress (s : State) (x : Channels) : (s.setTemps x).ownAddress = s.ownAddress := rfl
@[simp] theorem State.setTemps_tables (s : State) (x : Channels) : (s.setTemps x).tables = s.tables := rfl
@[simp] theorem State.setTemps_link (s : State) (x : Channels) : (s.setTemps x).link = s.link := rfl
@[simp] theorem State.setTemps_obs (s : State) (x : Channels) : (s.setTemps x).obs = s.obs := rfl
@[simp] theorem State.setTemps_temps (s : State) (x : Channels) : (s.setTemps x).temps = x := rfl
@[simp] theorem State.setTemps_defrost (s : State) (x : Channels) : (s.setTemps x).defrost = s.defrost := rfl
@[simp] theorem State.setTemps_ice (s : State) (x : Channels) : (s.setTemps x).ice = s.ice := rfl
@[simp] theorem State.setTemps_disp (s : State) (x : Channels) : (s.setTemps x).disp = s.disp := rfl
@[simp] theorem State.setTemps_line (s : State) (x : Channels) : (s.setTemps x).line = s.line := rfl
@[simp] theorem State.setTemps_gate (s : State) (x : Channels) : (s.setTemps x).gate = s.gate := rfl
@[simp] theorem State.setTemps_inputs (s : State) (x : Channels) : (s.setTemps x).inputs = s.inputs := rfl
@[simp] theorem State.setTemps_pending (s : State) (x : Channels) : (s.setTemps x).pending = s.pending := rfl
@[simp] theorem State.setDefrost_now (s : State) (x : Defrost) : (s.setDefrost x).now = s.now := rfl
@[simp] theorem State.setDefrost_mode (s : State) (x : Defrost) : (s.setDefrost x).mode = s.mode := rfl
@[simp] theorem State.setDefrost_restartPending (s : State) (x : Defrost) : (s.setDefrost x).restartPending = s.restartPending := rfl
@[simp] theorem State.setDefrost_ownAddress (s : State) (x : Defrost) : (s.setDefrost x).ownAddress = s.ownAddress := rfl
@[simp] theorem State.setDefrost_tables (s : State) (x : Defrost) : (s.setDefrost x).tables = s.tables := rfl
@[simp] theorem State.setDefrost_link (s : State) (x : Defrost) : (s.setDefrost x).link = s.link := rfl
@[simp] theorem State.setDefrost_obs (s : State) (x : Defrost) : (s.setDefrost x).obs = s.obs := rfl
@[simp] theorem State.setDefrost_temps (s : State) (x : Defrost) : (s.setDefrost x).temps = s.temps := rfl
@[simp] theorem State.setDefrost_defrost (s : State) (x : Defrost) : (s.setDefrost x).defrost = x := rfl
@[simp] theorem State.setDefrost_ice (s : State) (x : Defrost) : (s.setDefrost x).ice = s.ice := rfl
@[simp] theorem State.setDefrost_disp (s : State) (x : Defrost) : (s.setDefrost x).disp = s.disp := rfl
@[simp] theorem State.setDefrost_line (s : State) (x : Defrost) : (s.setDefrost x).line = s.line := rfl
@[simp] theorem State.setDefrost_gate (s : State) (x : Defrost) : (s.setDefrost x).gate = s.gate := rfl
@[simp] theorem State.setDefrost_inputs (s : State) (x : Defrost) : (s.setDefrost x).inputs = s.inputs := rfl
@[simp] theorem State.setDefrost_pending (s : State) (x : Defrost) : (s.setDefrost x).pending = s.pending := rfl
@[simp] theorem State.setIce_now (s : State) (x : Ice) : (s.setIce x).now = s.now := rfl
@[simp] theorem State.setIce_mode (s : State) (x : Ice) : (s.setIce x).mode = s.mode := rfl
@[simp] theorem State.setIce_restartPending (s : State) (x : Ice) : (s.setIce x).restartPending = s.restartPending := rfl
@[simp] theorem State.setIce_ownAddress (s : State) (x : Ice) : (s.setIce x).ownAddress = s.ownAddress := rfl
@[simp] theorem State.setIce_tables (s : State) (x : Ice) : (s.setIce x).tables = s.tables := rfl
@[simp] theorem State.setIce_link (s : State) (x : Ice) : (s.setIce x).link = s.link := rfl
@[simp] theorem State.setIce_obs (s : State) (x : Ice) : (s.setIce x).obs = s.obs := rfl
@[simp] theorem State.setIce_temps (s : State) (x : Ice) : (s.setIce x).temps = s.temps := rfl
@[simp] theorem State.setIce_defrost (s : State) (x : Ice) : (s.setIce x).defrost = s.defrost := rfl
@[simp] theorem State.setIce_ice (s : State) (x : Ice) : (s.setIce x).ice = x := rfl
@[simp] theorem State.setIce_disp (s : State) (x : Ice) : (s.setIce x).disp = s.disp := rfl
@[simp] theorem State.setIce_line (s : State) (x : Ice) : (s.setIce x).line = s.line := rfl
@[simp] theorem State.setIce_gate (s : State) (x : Ice) : (s.setIce x).gate = s.gate := rfl
@[simp] theorem State.setIce_inputs (s : State) (x : Ice) : (s.setIce x).inputs = s.inputs := rfl
@[simp] theorem State.setIce_pending (s : State) (x : Ice) : (s.setIce x).pending = s.pending := rfl
@[simp] theorem State.setDisp_now (s : State) (x : Disp) : (s.setDisp x).now = s.now := rfl
@[simp] theorem State.setDisp_mode (s : State) (x : Disp) : (s.setDisp x).mode = s.mode := rfl
@[simp] theorem State.setDisp_restartPending (s : State) (x : Disp) : (s.setDisp x).restartPending = s.restartPending := rfl
@[simp] theorem State.setDisp_ownAddress (s : State) (x : Disp) : (s.setDisp x).ownAddress = s.ownAddress := rfl
@[simp] theorem State.setDisp_tables (s : State) (x : Disp) : (s.setDisp x).tables = s.tables := rfl
@[simp] theorem State.setDisp_link (s : State) (x : Disp) : (s.setDisp x).link = s.link := rfl
@[simp] theorem State.setDisp_obs (s : State) (x : Disp) : (s.setDisp x).obs = s.obs := rfl
@[simp] theorem State.setDisp_temps (s : State) (x : Disp) : (s.setDisp x).temps = s.temps := rfl
@[simp] theorem State.setDisp_defrost (s : State) (x : Disp) : (s.setDisp x).defrost = s.defrost := rfl
@[simp] theorem State.setDisp_ice (s : State) (x : Disp) : (s.setDisp x).ice = s.ice := rfl
@[simp] theorem State.setDisp_disp (s : State) (x : Disp) : (s.setDisp x).disp = x := rfl
@[simp] theorem State.setDisp_line (s : State) (x : Disp) : (s.setDisp x).line = s.line := rfl
@[simp] theorem State.setDisp_gate (s : State) (x : Disp) : (s.setDisp x).gate = s.gate := rfl
@[simp] theorem State.setDisp_inputs (s : State) (x : Disp) : (s.setDisp x).inputs = s.inputs := rfl
@[simp] theorem State.setDisp_pending (s : State) (x : Disp) : (s.setDisp x).pending = s.pending := rfl
@[simp] theorem State.setLine_now (s : State) (x : Line) : (s.setLine x).now = s.now := rfl
@[simp] theorem State.setLine_mode (s : State) (x : Line) : (s.setLine x).mode = s.mode := rfl
@[simp] theorem State.setLine_restartPending (s : State) (x : Line) : (s.setLine x).restartPending = s.restartPending := rfl
@[simp] theorem State.setLine_ownAddress (s : State) (x : Line) : (s.setLine x).ownAddress = s.ownAddress := rfl
@[simp] theorem State.setLine_tables (s : State) (x : Line) : (s.setLine x).tables = s.tables := rfl
@[simp] theorem State.setLine_link (s : State) (x : Line) : (s.setLine x).link = s.link := rfl
@[simp] theorem State.setLine_obs (s : State) (x : Line) : (s.setLine x).obs = s.obs := rfl
@[simp] theorem State.setLine_temps (s : State) (x : Line) : (s.setLine x).temps = s.temps := rfl
@[simp] theorem State.setLine_defrost (s : State) (x : Line) : (s.setLine x).defrost = s.defrost := rfl
@[simp] theorem State.setLine_ice (s : State) (x : Line) : (s.setLine x).ice = s.ice := rfl
@[simp] theorem State.setLine_disp (s : State) (x : Line) : (s.setLine x).disp = s.disp := rfl
@[simp] theorem State.setLine_line (s : State) (x : Line) : (s.setLine x).line = x := rfl
@[simp] theorem State.setLine_gate (s : State) (x : Line) : (s.setLine x).gate = s.gate := rfl
@[simp] theorem State.setLine_inputs (s : State) (x : Line) : (s.setLine x).inputs = s.inputs := rfl
@[simp] theorem State.setLine_pending (s : State) (x : Line) : (s.setLine x).pending = s.pending := rfl
@[simp] theorem State.setGate_now (s : State) (x : Gate) : (s.setGate x).now = s.now := rfl
@[simp] theorem State.setGate_mode (s : State) (x : Gate) : (s.setGate x).mode = s.mode := rfl
@[simp] theorem State.setGate_restartPending (s : State) (x : Gate) : (s.setGate x).restartPending = s.restartPending := rfl
@[simp] theorem State.setGate_ownAddress (s : State) (x : Gate) : (s.setGate x).ownAddress = s.ownAddress := rfl
@[simp] theorem State.setGate_tables (s : State) (x : Gate) : (s.setGate x).tables = s.tables := rfl
@[simp] theorem State.setGate_link (s : State) (x : Gate) : (s.setGate x).link = s.link := rfl
@[simp] theorem State.setGate_obs (s : State) (x : Gate) : (s.setGate x).obs = s.obs := rfl
@[simp] theorem State.setGate_temps (s : State) (x : Gate) : (s.setGate x).temps = s.temps := rfl
@[simp] theorem State.setGate_defrost (s : State) (x : Gate) : (s.setGate x).defrost = s.defrost := rfl
@[simp] theorem State.setGate_ice (s : State) (x : Gate) : (s.setGate x).ice = s.ice := rfl
@[simp] theorem State.setGate_disp (s : State) (x : Gate) : (s.setGate x).disp = s.disp := rfl
@[simp] theorem State.setGate_line (s : State) (x : Gate) : (s.setGate x).line = s.line := rfl
@[simp] theorem State.setGate_gate (s : State) (x : Gate) : (s.setGate x).gate = x := rfl
@[simp] theorem State.setGate_inputs (s : State) (x : Gate) : (s.setGate x).inputs = s.inputs := rfl
@[simp] theorem State.setGate_pending (s : State) (x : Gate) : (s.setGate x).pending = s.pending := rfl
@[simp] theorem State.setInputs_now (s : State) (x : Inputs) : (s.setInputs x).now = s.now := rfl
@[simp] theorem State.setInputs_mode (s : State) (x : Inputs) : (s.setInputs x).mode = s.mode := rfl
@[simp] theorem State.setInputs_restartPending (s : State) (x : Inputs) : (s.setInputs x).restartPending = s.restartPending := rfl
@[simp] theorem State.setInputs_ownAddress (s : State) (x : Inputs) : (s.setInputs x).ownAddress = s.ownAddress := rfl
@[simp] theorem State.setInputs_tables (s : State) (x : Inputs) : (s.setInputs x).tables = s.tables := rfl
@[simp] theorem State.setInputs_link (s : State) (x : Inputs) : (s.setInputs x).link = s.link := rfl
@[simp] theorem State.setInputs_obs (s : State) (x : Inputs) : (s.setInputs x).obs = s.obs := rfl
@[simp] theorem State.setInputs_temps (s : State) (x : Inputs) : (s.setInputs x).temps = s.temps := rfl
@[simp] theorem State.setInputs_defrost (s : State) (x : Inputs) : (s.setInputs x).defrost = s.defrost := rfl
@[simp] theorem State.setInputs_ice (s : State) (x : Inputs) : (s.setInputs x).ice = s.ice := rfl
@[simp] theorem State.setInputs_disp (s : State) (x : Inputs) : (s.setInputs x).disp = s.disp := rfl
@[simp] theorem State.setInputs_line (s : State) (x : Inputs) : (s.setInputs x).line = s.line := rfl
@[simp] theorem State.setInputs_gate (s : State) (x : Inputs) : (s.setInputs x).gate = s.gate := rfl
@[simp] theorem State.setInputs_inputs (s : State) (x : Inputs) : (s.setInputs x).inputs = x := rfl
@[simp] theorem State.setInputs_pending (s : State) (x : Inputs) : (s.setInputs x).pending = s.pending := rfl
@[simp] theorem State.setPending_now (s : State) (x : List Instr) : (s.setPending x).now = s.now := rfl
@[simp] theorem State.setPending_mode (s : State) (x : List Instr) : (s.setPending x).mode = s.mode := rfl
@[simp] theorem State.setPending_restartPending (s : State) (x : List Instr) : (s.setPending x).restartPending = s.restartPending := rfl
@[simp] theorem State.setPending_ownAddress (s : State) (x : List Instr) : (s.setPending x).ownAddress = s.ownAddress := rfl
@[simp] theorem State.setPending_tables (s : State) (x : List Instr) : (s.setPending x).tables = s.tables := rfl
@[simp] theorem State.setPending_link (s : State) (x : List Instr) : (s.setPending x).link = s.link := rfl
@[simp] theorem State.setPending_obs (s : State) (x : List Instr) : (s.setPending x).obs = s.obs := rfl
@[simp] theorem State.setPending_temps (s : State) (x : List Instr) : (s.setPending x).temps = s.temps := rfl
@[simp] theorem State.setPending_defrost (s : State) (x : List Instr) : (s.setPending x).defrost = s.defrost := rfl
@[simp] theorem State.setPending_ice (s : State) (x : List Instr) : (s.setPending x).ice = s.ice := rfl
@[simp] theorem State.setPending_disp (s : State) (x : List Instr) : (s.setPending x).disp = s.disp := rfl
@[simp] theorem State.setPending_line (s : State) (x : List Instr) : (s.setPending x).line = s.line := rfl
@[simp] theorem State.setPending_gate (s : State) (x : List Instr) : (s.setPending x).gate = s.gate := rfl
@[simp] theorem State.setPending_inputs (s : State) (x : List Instr) : (s.setPending x).inputs = s.inputs := rfl
@[simp] theorem State.setPending_pending (s : State) (x : List Instr) : (s.setPending x).pending = x := rfl

/-! ### The clock -/

@[simp] theorem State.advance_now (s : State) (dt : Nat) : (s.advance dt).now = s.now + dt := rfl
@[simp] theorem State.reach_now (s : State) (t : Nat) : (s.reach t).now = max s.now t := rfl
@[simp] theorem State.advance_mode (s : State) (dt : Nat) : (s.advance dt).mode = s.mode := rfl
@[simp] theorem State.reach_mode (s : State) (t : Nat) : (s.reach t).mode = s.mode := rfl
@[simp] theorem State.advance_restartPending (s : State) (dt : Nat) : (s.advance dt).restartPending = s.restartPending := rfl
@[simp] theorem State.reach_restartPending (s : State) (t : Nat) : (s.reach t).restartPending = s.restartPending := rfl
@[simp] theorem State.advance_ownAddress (s : State) (dt : Nat) : (s.advance dt).ownAddress = s.ownAddress := rfl
@[simp] theorem State.reach_ownAddress (s : State) (t : Nat) : (s.reach t).ownAddress = s.ownAddress := rfl
@[simp] theorem State.advance_tables (s : State) (dt : Nat) : (s.advance dt).tables = s.tables := rfl
@[simp] theorem State.reach_tables (s : State) (t : Nat) : (s.reach t).tables = s.tables := rfl
@[simp] theorem State.advance_link (s : State) (dt : Nat) : (s.advance dt).link = s.link := rfl
@[simp] theorem State.reach_link (s : State) (t : Nat) : (s.reach t).link = s.link := rfl
@[simp] theorem State.advance_obs (s : State) (dt : Nat) : (s.advance dt).obs = s.obs := rfl
@[simp] theorem State.reach_obs (s : State) (t : Nat) : (s.reach t).obs = s.obs := rfl
@[simp] theorem State.advance_temps (s : State) (dt : Nat) : (s.advance dt).temps = s.temps := rfl
@[simp] theorem State.reach_temps (s : State) (t : Nat) : (s.reach t).temps = s.temps := rfl
@[simp] theorem State.advance_defrost (s : State) (dt : Nat) : (s.advance dt).defrost = s.defrost := rfl
@[simp] theorem State.reach_defrost (s : State) (t : Nat) : (s.reach t).defrost = s.defrost := rfl
@[simp] theorem State.advance_ice (s : State) (dt : Nat) : (s.advance dt).ice = s.ice := rfl
@[simp] theorem State.reach_ice (s : State) (t : Nat) : (s.reach t).ice = s.ice := rfl
@[simp] theorem State.advance_disp (s : State) (dt : Nat) : (s.advance dt).disp = s.disp := rfl
@[simp] theorem State.reach_disp (s : State) (t : Nat) : (s.reach t).disp = s.disp := rfl
@[simp] theorem State.advance_line (s : State) (dt : Nat) : (s.advance dt).line = s.line := rfl
@[simp] theorem State.reach_line (s : State) (t : Nat) : (s.reach t).line = s.line := rfl
@[simp] theorem State.advance_gate (s : State) (dt : Nat) : (s.advance dt).gate = s.gate := rfl
@[simp] theorem State.reach_gate (s : State) (t : Nat) : (s.reach t).gate = s.gate := rfl
@[simp] theorem State.advance_inputs (s : State) (dt : Nat) : (s.advance dt).inputs = s.inputs := rfl
@[simp] theorem State.reach_inputs (s : State) (t : Nat) : (s.reach t).inputs = s.inputs := rfl
@[simp] theorem State.advance_pending (s : State) (dt : Nat) : (s.advance dt).pending = s.pending := rfl
@[simp] theorem State.reach_pending (s : State) (t : Nat) : (s.reach t).pending = s.pending := rfl

/-! ### The ports -/

@[simp] theorem Link.port_trunk (l : Link) : l.port .trunk = l.trunk := rfl
@[simp] theorem Link.port_door (l : Link) : l.port .door = l.door := rfl
@[simp] theorem Link.setPort_trunk (l : Link) (x : PortState) : l.setPort .trunk x = { l with trunk := x } := rfl
@[simp] theorem Link.setPort_door (l : Link) (x : PortState) : l.setPort .door x = { l with door := x } := rfl

end Sys2Proof.Machine
end

