-- ==== Sys2Proof/Laws/Gate.lean ====
section
/-! SUPPORT. What the load gate's operations can do: the parts of the state they leave, where a request and a giving up
end, and the sum of the GRANTED weights. -/

namespace Sys2Proof.Machine

/-- What a change of the gate leaves: everything but HM, the grants, the wait list, and what an owner told of a grant
sets (the heat-begun mark; the rake's supervision; the flap, the delivery mark and the auger timer). -/
structure GateFrame (s t : State) : Prop where
  now : t.now = s.now
  mode : t.mode = s.mode
  restartPending : t.restartPending = s.restartPending
  ownAddress : t.ownAddress = s.ownAddress
  tables : t.tables = s.tables
  link : t.link = s.link
  obs : t.obs = s.obs
  temps : t.temps = s.temps
  line : t.line = s.line
  inputs : t.inputs = s.inputs
  pending : t.pending = s.pending
  load : t.gate.load = s.gate.load
  budget : t.gate.budget = s.gate.budget
  defrost : t.defrost = { s.defrost with heatBegun := t.defrost.heatBegun }
  ice : t.ice = { s.ice with
    rakeBegun := t.ice.rakeBegun, leftMark := t.ice.leftMark, rakeleaveAt := t.ice.rakeleaveAt
    rakemaxAt := t.ice.rakemaxAt }
  disp : t.disp = { s.disp with
    flap := t.disp.flap, delivered := t.disp.delivered, augerAt := t.disp.augerAt }

theorem GateFrame.refl (s : State) : GateFrame s s := by constructor <;> rfl

theorem GateFrame.trans {s t u : State} (h : GateFrame s t) (k : GateFrame t u) : GateFrame s u where
  now := k.now.trans h.now
  mode := k.mode.trans h.mode
  restartPending := k.restartPending.trans h.restartPending
  ownAddress := k.ownAddress.trans h.ownAddress
  tables := k.tables.trans h.tables
  link := k.link.trans h.link
  obs := k.obs.trans h.obs
  temps := k.temps.trans h.temps
  line := k.line.trans h.line
  inputs := k.inputs.trans h.inputs
  pending := k.pending.trans h.pending
  load := k.load.trans h.load
  budget := k.budget.trans h.budget
  defrost := by
    have e := k.defrost
    rw [h.defrost] at e
    exact e
  ice := by
    have e := k.ice
    rw [h.ice] at e
    exact e
  disp := by
    have e := k.disp
    rw [h.disp] at e
    exact e

/-- A state that differs in the grants, the wait list and HM alone. -/
theorem GateFrame.ofGate (s : State) (g : Gate) (h1 : g.load = s.gate.load) (h2 : g.budget = s.gate.budget) :
    GateFrame s (s.setGate g) := by
  constructor <;> first | rfl | assumption

/-! ### Each operation's frame -/

theorem amGranted_frame (s : State) : GateFrame s (amGranted s) := by
  unfold amGranted; split <;> constructor <;> rfl

theorem emGranted_frame (s : State) : GateFrame s (emGranted s) := by
  unfold emGranted; split <;> constructor <;> rfl

theorem ownerTold_frame (o : Gated) (s : State) : GateFrame s (ownerTold o s) := by
  cases o
  · exact .refl s
  · exact .refl s
  · exact .refl s
  · exact amGranted_frame s
  · exact emGranted_frame s

theorem grantingPass_frame (n : Nat) (s : State) : GateFrame s (grantingPass n s) := by
  induction n generalizing s with
  | zero => exact .refl s
  | succ n ih =>
    unfold grantingPass
    split
    · exact .refl s
    · split
      · refine .trans (.trans ?_ (ownerTold_frame _ _)) (ih _)
        exact .ofGate s _ rfl rfl
      · exact .refl s

theorem markHeatBegun_frame (s : State) : GateFrame s (markHeatBegun s) := by
  unfold markHeatBegun; split <;> constructor <;> rfl

theorem settleHm_frame (s : State) : GateFrame s (settleHm s) :=
  (GateFrame.ofGate s { s.gate with hm := settledHm s } rfl rfl).trans (markHeatBegun_frame _)

theorem passAndSettle_frame (s : State) : GateFrame s (passAndSettle s) :=
  (grantingPass_frame _ s).trans (settleHm_frame _)

theorem requestOutput_frame (o : Gated) (s : State) : GateFrame s (requestOutput o s) := by
  unfold requestOutput
  split
  · refine .trans ?_ (passAndSettle_frame _)
    exact .ofGate s _ rfl rfl
  · exact .refl s
  · exact .refl s

theorem giveUpOutput_frame (o : Gated) (s : State) : GateFrame s (giveUpOutput o s) := by
  unfold giveUpOutput
  split
  · exact .refl s
  · refine .trans ?_ (passAndSettle_frame _)
    exact .ofGate s _ rfl rfl
  · refine .trans ?_ (passAndSettle_frame _)
    exact .ofGate s _ rfl rfl

theorem promoteOutput_frame (w : WaitEntry) (s : State) : GateFrame s (promoteOutput w s) := by
  unfold promoteOutput
  split
  · exact GateFrame.ofGate s _ rfl rfl
  · refine .trans ?_ (passAndSettle_frame _)
    exact .ofGate s _ rfl rfl

theorem hmSettled_frame (s : State) : GateFrame s (hmSettled s) :=
  (GateFrame.ofGate s { s.gate with hm := .hmClosed } rfl rfl).trans (settleHm_frame _)

/-! ### The frames of a request and of a giving up, field by field -/

@[simp] theorem requestOutput_now (o : Gated) (s : State) : (requestOutput o s).now = s.now := (requestOutput_frame o s).now
@[simp] theorem requestOutput_mode (o : Gated) (s : State) : (requestOutput o s).mode = s.mode := (requestOutput_frame o s).mode
@[simp] theorem requestOutput_restartPending (o : Gated) (s : State) : (requestOutput o s).restartPending = s.restartPending := (requestOutput_frame o s).restartPending
@[simp] theorem requestOutput_ownAddress (o : Gated) (s : State) : (requestOutput o s).ownAddress = s.ownAddress := (requestOutput_frame o s).ownAddress
@[simp] theorem requestOutput_tables (o : Gated) (s : State) : (requestOutput o s).tables = s.tables := (requestOutput_frame o s).tables
@[simp] theorem requestOutput_link (o : Gated) (s : State) : (requestOutput o s).link = s.link := (requestOutput_frame o s).link
@[simp] theorem requestOutput_obs (o : Gated) (s : State) : (requestOutput o s).obs = s.obs := (requestOutput_frame o s).obs
@[simp] theorem requestOutput_temps (o : Gated) (s : State) : (requestOutput o s).temps = s.temps := (requestOutput_frame o s).temps
@[simp] theorem requestOutput_line (o : Gated) (s : State) : (requestOutput o s).line = s.line := (requestOutput_frame o s).line
@[simp] theorem requestOutput_inputs (o : Gated) (s : State) : (requestOutput o s).inputs = s.inputs := (requestOutput_frame o s).inputs
@[simp] theorem requestOutput_pending (o : Gated) (s : State) : (requestOutput o s).pending = s.pending := (requestOutput_frame o s).pending
@[simp] theorem requestOutput_load (o : Gated) (s : State) : (requestOutput o s).gate.load = s.gate.load := (requestOutput_frame o s).load
@[simp] theorem requestOutput_budget (o : Gated) (s : State) : (requestOutput o s).gate.budget = s.gate.budget := (requestOutput_frame o s).budget
@[simp] theorem requestOutput_defrost_estimate (o : Gated) (s : State) : (requestOutput o s).defrost.estimate = s.defrost.estimate := by
  have h := congrArg Defrost.estimate (requestOutput_frame o s).defrost; exact h
@[simp] theorem requestOutput_defrost_thr (o : Gated) (s : State) : (requestOutput o s).defrost.thr = s.defrost.thr := by
  have h := congrArg Defrost.thr (requestOutput_frame o s).defrost; exact h
@[simp] theorem requestOutput_defrost_origin (o : Gated) (s : State) : (requestOutput o s).defrost.origin = s.defrost.origin := by
  have h := congrArg Defrost.origin (requestOutput_frame o s).defrost; exact h
@[simp] theorem requestOutput_defrost_capElapsed (o : Gated) (s : State) : (requestOutput o s).defrost.capElapsed = s.defrost.capElapsed := by
  have h := congrArg Defrost.capElapsed (requestOutput_frame o s).defrost; exact h
@[simp] theorem requestOutput_defrost_st (o : Gated) (s : State) : (requestOutput o s).defrost.st = s.defrost.st := by
  have h := congrArg Defrost.st (requestOutput_frame o s).defrost; exact h
@[simp] theorem requestOutput_defrost_trigger (o : Gated) (s : State) : (requestOutput o s).defrost.trigger = s.defrost.trigger := by
  have h := congrArg Defrost.trigger (requestOutput_frame o s).defrost; exact h
@[simp] theorem requestOutput_defrost_startEstimate (o : Gated) (s : State) : (requestOutput o s).defrost.startEstimate = s.defrost.startEstimate := by
  have h := congrArg Defrost.startEstimate (requestOutput_frame o s).defrost; exact h
@[simp] theorem requestOutput_defrost_heaterOn (o : Gated) (s : State) : (requestOutput o s).defrost.heaterOn = s.defrost.heaterOn := by
  have h := congrArg Defrost.heaterOn (requestOutput_frame o s).defrost; exact h
@[simp] theorem requestOutput_defrost_cause (o : Gated) (s : State) : (requestOutput o s).defrost.cause = s.defrost.cause := by
  have h := congrArg Defrost.cause (requestOutput_frame o s).defrost; exact h
@[simp] theorem requestOutput_defrost_thrBefore (o : Gated) (s : State) : (requestOutput o s).defrost.thrBefore = s.defrost.thrBefore := by
  have h := congrArg Defrost.thrBefore (requestOutput_frame o s).defrost; exact h
@[simp] theorem requestOutput_defrost_thrAfter (o : Gated) (s : State) : (requestOutput o s).defrost.thrAfter = s.defrost.thrAfter := by
  have h := congrArg Defrost.thrAfter (requestOutput_frame o s).defrost; exact h
@[simp] theorem requestOutput_defrost_cycleTime (o : Gated) (s : State) : (requestOutput o s).defrost.cycleTime = s.defrost.cycleTime := by
  have h := congrArg Defrost.cycleTime (requestOutput_frame o s).defrost; exact h
@[simp] theorem requestOutput_defrost_ring (o : Gated) (s : State) : (requestOutput o s).defrost.ring = s.defrost.ring := by
  have h := congrArg Defrost.ring (requestOutput_frame o s).defrost; exact h
@[simp] theorem requestOutput_defrost_nextSeq (o : Gated) (s : State) : (requestOutput o s).defrost.nextSeq = s.defrost.nextSeq := by
  have h := congrArg Defrost.nextSeq (requestOutput_frame o s).defrost; exact h
@[simp] theorem requestOutput_defrost_stateTime (o : Gated) (s : State) : (requestOutput o s).defrost.stateTime = s.defrost.stateTime := by
  have h := congrArg Defrost.stateTime (requestOutput_frame o s).defrost; exact h
@[simp] theorem requestOutput_defrost_timeInDue (o : Gated) (s : State) : (requestOutput o s).defrost.timeInDue = s.defrost.timeInDue := by
  have h := congrArg Defrost.timeInDue (requestOutput_frame o s).defrost; exact h
@[simp] theorem requestOutput_defrost_compHeld (o : Gated) (s : State) : (requestOutput o s).defrost.compHeld = s.defrost.compHeld := by
  have h := congrArg Defrost.compHeld (requestOutput_frame o s).defrost; exact h
@[simp] theorem requestOutput_defrost_secondAt (o : Gated) (s : State) : (requestOutput o s).defrost.secondAt = s.defrost.secondAt := by
  have h := congrArg Defrost.secondAt (requestOutput_frame o s).defrost; exact h
@[simp] theorem requestOutput_defrost_startedAt (o : Gated) (s : State) : (requestOutput o s).defrost.startedAt = s.defrost.startedAt := by
  have h := congrArg Defrost.startedAt (requestOutput_frame o s).defrost; exact h
@[simp] theorem requestOutput_ice_st (o : Gated) (s : State) : (requestOutput o s).ice.st = s.ice.st := by
  have h := congrArg Ice.st (requestOutput_frame o s).ice; exact h
@[simp] theorem requestOutput_ice_enabled (o : Gated) (s : State) : (requestOutput o s).ice.enabled = s.ice.enabled := by
  have h := congrArg Ice.enabled (requestOutput_frame o s).ice; exact h
@[simp] theorem requestOutput_ice_disablePending (o : Gated) (s : State) : (requestOutput o s).ice.disablePending = s.ice.disablePending := by
  have h := congrArg Ice.disablePending (requestOutput_frame o s).ice; exact h
@[simp] theorem requestOutput_ice_trayLoaded (o : Gated) (s : State) : (requestOutput o s).ice.trayLoaded = s.ice.trayLoaded := by
  have h := congrArg Ice.trayLoaded (requestOutput_frame o s).ice; exact h
@[simp] theorem requestOutput_ice_opened (o : Gated) (s : State) : (requestOutput o s).ice.opened = s.ice.opened := by
  have h := congrArg Ice.opened (requestOutput_frame o s).ice; exact h
@[simp] theorem requestOutput_ice_elapsed (o : Gated) (s : State) : (requestOutput o s).ice.elapsed = s.ice.elapsed := by
  have h := congrArg Ice.elapsed (requestOutput_frame o s).ice; exact h
@[simp] theorem requestOutput_ice_resumeAt (o : Gated) (s : State) : (requestOutput o s).ice.resumeAt = s.ice.resumeAt := by
  have h := congrArg Ice.resumeAt (requestOutput_frame o s).ice; exact h
@[simp] theorem requestOutput_ice_trailAt (o : Gated) (s : State) : (requestOutput o s).ice.trailAt = s.ice.trailAt := by
  have h := congrArg Ice.trailAt (requestOutput_frame o s).ice; exact h
@[simp] theorem requestOutput_ice_binwaitAt (o : Gated) (s : State) : (requestOutput o s).ice.binwaitAt = s.ice.binwaitAt := by
  have h := congrArg Ice.binwaitAt (requestOutput_frame o s).ice; exact h
@[simp] theorem requestOutput_ice_faultCount (o : Gated) (s : State) : (requestOutput o s).ice.faultCount = s.ice.faultCount := by
  have h := congrArg Ice.faultCount (requestOutput_frame o s).ice; exact h
@[simp] theorem requestOutput_ice_retry (o : Gated) (s : State) : (requestOutput o s).ice.retry = s.ice.retry := by
  have h := congrArg Ice.retry (requestOutput_frame o s).ice; exact h
@[simp] theorem requestOutput_ice_belowtime (o : Gated) (s : State) : (requestOutput o s).ice.belowtime = s.ice.belowtime := by
  have h := congrArg Ice.belowtime (requestOutput_frame o s).ice; exact h
@[simp] theorem requestOutput_ice_freezetime (o : Gated) (s : State) : (requestOutput o s).ice.freezetime = s.ice.freezetime := by
  have h := congrArg Ice.freezetime (requestOutput_frame o s).ice; exact h
@[simp] theorem requestOutput_ice_heatTime (o : Gated) (s : State) : (requestOutput o s).ice.heatTime = s.ice.heatTime := by
  have h := congrArg Ice.heatTime (requestOutput_frame o s).ice; exact h
@[simp] theorem requestOutput_ice_cycles (o : Gated) (s : State) : (requestOutput o s).ice.cycles = s.ice.cycles := by
  have h := congrArg Ice.cycles (requestOutput_frame o s).ice; exact h
@[simp] theorem requestOutput_ice_cause (o : Gated) (s : State) : (requestOutput o s).ice.cause = s.ice.cause := by
  have h := congrArg Ice.cause (requestOutput_frame o s).ice; exact h
@[simp] theorem requestOutput_ice_secondAt (o : Gated) (s : State) : (requestOutput o s).ice.secondAt = s.ice.secondAt := by
  have h := congrArg Ice.secondAt (requestOutput_frame o s).ice; exact h
@[simp] theorem requestOutput_disp_st (o : Gated) (s : State) : (requestOutput o s).disp.st = s.disp.st := by
  have h := congrArg Disp.st (requestOutput_frame o s).disp; exact h
@[simp] theorem requestOutput_disp_press (o : Gated) (s : State) : (requestOutput o s).disp.press = s.disp.press := by
  have h := congrArg Disp.press (requestOutput_frame o s).disp; exact h
@[simp] theorem requestOutput_disp_latched (o : Gated) (s : State) : (requestOutput o s).disp.latched = s.disp.latched := by
  have h := congrArg Disp.latched (requestOutput_frame o s).disp; exact h
@[simp] theorem requestOutput_disp_pourAt (o : Gated) (s : State) : (requestOutput o s).disp.pourAt = s.disp.pourAt := by
  have h := congrArg Disp.pourAt (requestOutput_frame o s).disp; exact h
@[simp] theorem requestOutput_disp_flapAt (o : Gated) (s : State) : (requestOutput o s).disp.flapAt = s.disp.flapAt := by
  have h := congrArg Disp.flapAt (requestOutput_frame o s).disp; exact h
@[simp] theorem requestOutput_disp_measured (o : Gated) (s : State) : (requestOutput o s).disp.measured = s.disp.measured := by
  have h := congrArg Disp.measured (requestOutput_frame o s).disp; exact h
@[simp] theorem requestOutput_disp_target (o : Gated) (s : State) : (requestOutput o s).disp.target = s.disp.target := by
  have h := congrArg Disp.target (requestOutput_frame o s).disp; exact h
@[simp] theorem requestOutput_disp_poured (o : Gated) (s : State) : (requestOutput o s).disp.poured = s.disp.poured := by
  have h := congrArg Disp.poured (requestOutput_frame o s).disp; exact h
@[simp] theorem requestOutput_disp_pouredBase (o : Gated) (s : State) : (requestOutput o s).disp.pouredBase = s.disp.pouredBase := by
  have h := congrArg Disp.pouredBase (requestOutput_frame o s).disp; exact h
@[simp] theorem requestOutput_disp_completed (o : Gated) (s : State) : (requestOutput o s).disp.completed = s.disp.completed := by
  have h := congrArg Disp.completed (requestOutput_frame o s).disp; exact h
@[simp] theorem requestOutput_disp_pauseAt (o : Gated) (s : State) : (requestOutput o s).disp.pauseAt = s.disp.pauseAt := by
  have h := congrArg Disp.pauseAt (requestOutput_frame o s).disp; exact h
@[simp] theorem requestOutput_disp_adReverse (o : Gated) (s : State) : (requestOutput o s).disp.adReverse = s.disp.adReverse := by
  have h := congrArg Disp.adReverse (requestOutput_frame o s).disp; exact h

@[simp] theorem giveUpOutput_now (o : Gated) (s : State) : (giveUpOutput o s).now = s.now := (giveUpOutput_frame o s).now
@[simp] theorem giveUpOutput_mode (o : Gated) (s : State) : (giveUpOutput o s).mode = s.mode := (giveUpOutput_frame o s).mode
@[simp] theorem giveUpOutput_restartPending (o : Gated) (s : State) : (giveUpOutput o s).restartPending = s.restartPending := (giveUpOutput_frame o s).restartPending
@[simp] theorem giveUpOutput_ownAddress (o : Gated) (s : State) : (giveUpOutput o s).ownAddress = s.ownAddress := (giveUpOutput_frame o s).ownAddress
@[simp] theorem giveUpOutput_tables (o : Gated) (s : State) : (giveUpOutput o s).tables = s.tables := (giveUpOutput_frame o s).tables
@[simp] theorem giveUpOutput_link (o : Gated) (s : State) : (giveUpOutput o s).link = s.link := (giveUpOutput_frame o s).link
@[simp] theorem giveUpOutput_obs (o : Gated) (s : State) : (giveUpOutput o s).obs = s.obs := (giveUpOutput_frame o s).obs
@[simp] theorem giveUpOutput_temps (o : Gated) (s : State) : (giveUpOutput o s).temps = s.temps := (giveUpOutput_frame o s).temps
@[simp] theorem giveUpOutput_line (o : Gated) (s : State) : (giveUpOutput o s).line = s.line := (giveUpOutput_frame o s).line
@[simp] theorem giveUpOutput_inputs (o : Gated) (s : State) : (giveUpOutput o s).inputs = s.inputs := (giveUpOutput_frame o s).inputs
@[simp] theorem giveUpOutput_pending (o : Gated) (s : State) : (giveUpOutput o s).pending = s.pending := (giveUpOutput_frame o s).pending
@[simp] theorem giveUpOutput_load (o : Gated) (s : State) : (giveUpOutput o s).gate.load = s.gate.load := (giveUpOutput_frame o s).load
@[simp] theorem giveUpOutput_budget (o : Gated) (s : State) : (giveUpOutput o s).gate.budget = s.gate.budget := (giveUpOutput_frame o s).budget
@[simp] theorem giveUpOutput_defrost_estimate (o : Gated) (s : State) : (giveUpOutput o s).defrost.estimate = s.defrost.estimate := by
  have h := congrArg Defrost.estimate (giveUpOutput_frame o s).defrost; exact h
@[simp] theorem giveUpOutput_defrost_thr (o : Gated) (s : State) : (giveUpOutput o s).defrost.thr = s.defrost.thr := by
  have h := congrArg Defrost.thr (giveUpOutput_frame o s).defrost; exact h
@[simp] theorem giveUpOutput_defrost_origin (o : Gated) (s : State) : (giveUpOutput o s).defrost.origin = s.defrost.origin := by
  have h := congrArg Defrost.origin (giveUpOutput_frame o s).defrost; exact h
@[simp] theorem giveUpOutput_defrost_capElapsed (o : Gated) (s : State) : (giveUpOutput o s).defrost.capElapsed = s.defrost.capElapsed := by
  have h := congrArg Defrost.capElapsed (giveUpOutput_frame o s).defrost; exact h
@[simp] theorem giveUpOutput_defrost_st (o : Gated) (s : State) : (giveUpOutput o s).defrost.st = s.defrost.st := by
  have h := congrArg Defrost.st (giveUpOutput_frame o s).defrost; exact h
@[simp] theorem giveUpOutput_defrost_trigger (o : Gated) (s : State) : (giveUpOutput o s).defrost.trigger = s.defrost.trigger := by
  have h := congrArg Defrost.trigger (giveUpOutput_frame o s).defrost; exact h
@[simp] theorem giveUpOutput_defrost_startEstimate (o : Gated) (s : State) : (giveUpOutput o s).defrost.startEstimate = s.defrost.startEstimate := by
  have h := congrArg Defrost.startEstimate (giveUpOutput_frame o s).defrost; exact h
@[simp] theorem giveUpOutput_defrost_heaterOn (o : Gated) (s : State) : (giveUpOutput o s).defrost.heaterOn = s.defrost.heaterOn := by
  have h := congrArg Defrost.heaterOn (giveUpOutput_frame o s).defrost; exact h
@[simp] theorem giveUpOutput_defrost_cause (o : Gated) (s : State) : (giveUpOutput o s).defrost.cause = s.defrost.cause := by
  have h := congrArg Defrost.cause (giveUpOutput_frame o s).defrost; exact h
@[simp] theorem giveUpOutput_defrost_thrBefore (o : Gated) (s : State) : (giveUpOutput o s).defrost.thrBefore = s.defrost.thrBefore := by
  have h := congrArg Defrost.thrBefore (giveUpOutput_frame o s).defrost; exact h
@[simp] theorem giveUpOutput_defrost_thrAfter (o : Gated) (s : State) : (giveUpOutput o s).defrost.thrAfter = s.defrost.thrAfter := by
  have h := congrArg Defrost.thrAfter (giveUpOutput_frame o s).defrost; exact h
@[simp] theorem giveUpOutput_defrost_cycleTime (o : Gated) (s : State) : (giveUpOutput o s).defrost.cycleTime = s.defrost.cycleTime := by
  have h := congrArg Defrost.cycleTime (giveUpOutput_frame o s).defrost; exact h
@[simp] theorem giveUpOutput_defrost_ring (o : Gated) (s : State) : (giveUpOutput o s).defrost.ring = s.defrost.ring := by
  have h := congrArg Defrost.ring (giveUpOutput_frame o s).defrost; exact h
@[simp] theorem giveUpOutput_defrost_nextSeq (o : Gated) (s : State) : (giveUpOutput o s).defrost.nextSeq = s.defrost.nextSeq := by
  have h := congrArg Defrost.nextSeq (giveUpOutput_frame o s).defrost; exact h
@[simp] theorem giveUpOutput_defrost_stateTime (o : Gated) (s : State) : (giveUpOutput o s).defrost.stateTime = s.defrost.stateTime := by
  have h := congrArg Defrost.stateTime (giveUpOutput_frame o s).defrost; exact h
@[simp] theorem giveUpOutput_defrost_timeInDue (o : Gated) (s : State) : (giveUpOutput o s).defrost.timeInDue = s.defrost.timeInDue := by
  have h := congrArg Defrost.timeInDue (giveUpOutput_frame o s).defrost; exact h
@[simp] theorem giveUpOutput_defrost_compHeld (o : Gated) (s : State) : (giveUpOutput o s).defrost.compHeld = s.defrost.compHeld := by
  have h := congrArg Defrost.compHeld (giveUpOutput_frame o s).defrost; exact h
@[simp] theorem giveUpOutput_defrost_secondAt (o : Gated) (s : State) : (giveUpOutput o s).defrost.secondAt = s.defrost.secondAt := by
  have h := congrArg Defrost.secondAt (giveUpOutput_frame o s).defrost; exact h
@[simp] theorem giveUpOutput_defrost_startedAt (o : Gated) (s : State) : (giveUpOutput o s).defrost.startedAt = s.defrost.startedAt := by
  have h := congrArg Defrost.startedAt (giveUpOutput_frame o s).defrost; exact h
@[simp] theorem giveUpOutput_ice_st (o : Gated) (s : State) : (giveUpOutput o s).ice.st = s.ice.st := by
  have h := congrArg Ice.st (giveUpOutput_frame o s).ice; exact h
@[simp] theorem giveUpOutput_ice_enabled (o : Gated) (s : State) : (giveUpOutput o s).ice.enabled = s.ice.enabled := by
  have h := congrArg Ice.enabled (giveUpOutput_frame o s).ice; exact h
@[simp] theorem giveUpOutput_ice_disablePending (o : Gated) (s : State) : (giveUpOutput o s).ice.disablePending = s.ice.disablePending := by
  have h := congrArg Ice.disablePending (giveUpOutput_frame o s).ice; exact h
@[simp] theorem giveUpOutput_ice_trayLoaded (o : Gated) (s : State) : (giveUpOutput o s).ice.trayLoaded = s.ice.trayLoaded := by
  have h := congrArg Ice.trayLoaded (giveUpOutput_frame o s).ice; exact h
@[simp] theorem giveUpOutput_ice_opened (o : Gated) (s : State) : (giveUpOutput o s).ice.opened = s.ice.opened := by
  have h := congrArg Ice.opened (giveUpOutput_frame o s).ice; exact h
@[simp] theorem giveUpOutput_ice_elapsed (o : Gated) (s : State) : (giveUpOutput o s).ice.elapsed = s.ice.elapsed := by
  have h := congrArg Ice.elapsed (giveUpOutput_frame o s).ice; exact h
@[simp] theorem giveUpOutput_ice_resumeAt (o : Gated) (s : State) : (giveUpOutput o s).ice.resumeAt = s.ice.resumeAt := by
  have h := congrArg Ice.resumeAt (giveUpOutput_frame o s).ice; exact h
@[simp] theorem giveUpOutput_ice_trailAt (o : Gated) (s : State) : (giveUpOutput o s).ice.trailAt = s.ice.trailAt := by
  have h := congrArg Ice.trailAt (giveUpOutput_frame o s).ice; exact h
@[simp] theorem giveUpOutput_ice_binwaitAt (o : Gated) (s : State) : (giveUpOutput o s).ice.binwaitAt = s.ice.binwaitAt := by
  have h := congrArg Ice.binwaitAt (giveUpOutput_frame o s).ice; exact h
@[simp] theorem giveUpOutput_ice_faultCount (o : Gated) (s : State) : (giveUpOutput o s).ice.faultCount = s.ice.faultCount := by
  have h := congrArg Ice.faultCount (giveUpOutput_frame o s).ice; exact h
@[simp] theorem giveUpOutput_ice_retry (o : Gated) (s : State) : (giveUpOutput o s).ice.retry = s.ice.retry := by
  have h := congrArg Ice.retry (giveUpOutput_frame o s).ice; exact h
@[simp] theorem giveUpOutput_ice_belowtime (o : Gated) (s : State) : (giveUpOutput o s).ice.belowtime = s.ice.belowtime := by
  have h := congrArg Ice.belowtime (giveUpOutput_frame o s).ice; exact h
@[simp] theorem giveUpOutput_ice_freezetime (o : Gated) (s : State) : (giveUpOutput o s).ice.freezetime = s.ice.freezetime := by
  have h := congrArg Ice.freezetime (giveUpOutput_frame o s).ice; exact h
@[simp] theorem giveUpOutput_ice_heatTime (o : Gated) (s : State) : (giveUpOutput o s).ice.heatTime = s.ice.heatTime := by
  have h := congrArg Ice.heatTime (giveUpOutput_frame o s).ice; exact h
@[simp] theorem giveUpOutput_ice_cycles (o : Gated) (s : State) : (giveUpOutput o s).ice.cycles = s.ice.cycles := by
  have h := congrArg Ice.cycles (giveUpOutput_frame o s).ice; exact h
@[simp] theorem giveUpOutput_ice_cause (o : Gated) (s : State) : (giveUpOutput o s).ice.cause = s.ice.cause := by
  have h := congrArg Ice.cause (giveUpOutput_frame o s).ice; exact h
@[simp] theorem giveUpOutput_ice_secondAt (o : Gated) (s : State) : (giveUpOutput o s).ice.secondAt = s.ice.secondAt := by
  have h := congrArg Ice.secondAt (giveUpOutput_frame o s).ice; exact h
@[simp] theorem giveUpOutput_disp_st (o : Gated) (s : State) : (giveUpOutput o s).disp.st = s.disp.st := by
  have h := congrArg Disp.st (giveUpOutput_frame o s).disp; exact h
@[simp] theorem giveUpOutput_disp_press (o : Gated) (s : State) : (giveUpOutput o s).disp.press = s.disp.press := by
  have h := congrArg Disp.press (giveUpOutput_frame o s).disp; exact h
@[simp] theorem giveUpOutput_disp_latched (o : Gated) (s : State) : (giveUpOutput o s).disp.latched = s.disp.latched := by
  have h := congrArg Disp.latched (giveUpOutput_frame o s).disp; exact h
@[simp] theorem giveUpOutput_disp_pourAt (o : Gated) (s : State) : (giveUpOutput o s).disp.pourAt = s.disp.pourAt := by
  have h := congrArg Disp.pourAt (giveUpOutput_frame o s).disp; exact h
@[simp] theorem giveUpOutput_disp_flapAt (o : Gated) (s : State) : (giveUpOutput o s).disp.flapAt = s.disp.flapAt := by
  have h := congrArg Disp.flapAt (giveUpOutput_frame o s).disp; exact h
@[simp] theorem giveUpOutput_disp_measured (o : Gated) (s : State) : (giveUpOutput o s).disp.measured = s.disp.measured := by
  have h := congrArg Disp.measured (giveUpOutput_frame o s).disp; exact h
@[simp] theorem giveUpOutput_disp_target (o : Gated) (s : State) : (giveUpOutput o s).disp.target = s.disp.target := by
  have h := congrArg Disp.target (giveUpOutput_frame o s).disp; exact h
@[simp] theorem giveUpOutput_disp_poured (o : Gated) (s : State) : (giveUpOutput o s).disp.poured = s.disp.poured := by
  have h := congrArg Disp.poured (giveUpOutput_frame o s).disp; exact h
@[simp] theorem giveUpOutput_disp_pouredBase (o : Gated) (s : State) : (giveUpOutput o s).disp.pouredBase = s.disp.pouredBase := by
  have h := congrArg Disp.pouredBase (giveUpOutput_frame o s).disp; exact h
@[simp] theorem giveUpOutput_disp_completed (o : Gated) (s : State) : (giveUpOutput o s).disp.completed = s.disp.completed := by
  have h := congrArg Disp.completed (giveUpOutput_frame o s).disp; exact h
@[simp] theorem giveUpOutput_disp_pauseAt (o : Gated) (s : State) : (giveUpOutput o s).disp.pauseAt = s.disp.pauseAt := by
  have h := congrArg Disp.pauseAt (giveUpOutput_frame o s).disp; exact h
@[simp] theorem giveUpOutput_disp_adReverse (o : Gated) (s : State) : (giveUpOutput o s).disp.adReverse = s.disp.adReverse := by
  have h := congrArg Disp.adReverse (giveUpOutput_frame o s).disp; exact h

/-! ### The grants -/

@[simp] theorem GrantSet.get_set_same (g : GrantSet) (o : Gated) (v : Bool) : (g.set o v).get o = v := by
  cases o <;> rfl

theorem GrantSet.get_set_other (g : GrantSet) {o p : Gated} (v : Bool) (h : p ≠ o) : (g.set o v).get p = g.get p := by
  cases o <;> cases p <;> first | rfl | exact absurd rfl h

@[simp] theorem GrantSet.get_empty (o : Gated) : GrantSet.empty.get o = false := by cases o <;> rfl

/-- An output is requested when it is GRANTED or on the wait list (R121). -/
def Gate.requested (g : Gate) (o : Gated) : Prop := g.granted.get o = true ∨ ∃ w ∈ g.wait, w.out = o

theorem Gate.reqState_noRequest_iff (g : Gate) (o : Gated) : g.reqState o = .noRequest ↔ ¬g.requested o := by
  unfold Gate.reqState Gate.requested
  by_cases h : g.granted.get o = true
  · simp [h]
  · by_cases k : g.wait.any (fun w => decide (w.out = o)) = true
    · simp only [h, k]
      simp only [List.any_eq_true, decide_eq_true_eq] at k
      simp [k]
    · simp only [h, k]
      simp only [List.any_eq_true, decide_eq_true_eq] at k
      simp [k]

theorem Gate.reqState_granted_iff (g : Gate) (o : Gated) : g.reqState o = .granted ↔ g.granted.get o = true := by
  unfold Gate.reqState
  by_cases h : g.granted.get o = true
  · simp [h]
  · rw [if_neg h]
    split <;> simp [h]

theorem Gate.reqState_waiting (g : Gate) (o : Gated) (h : g.reqState o = .waiting) :
    g.granted.get o = false ∧ ∃ w ∈ g.wait, w.out = o := by
  unfold Gate.reqState at h
  split at h
  · simp at h
  · rename_i hg
    split at h
    · rename_i hw
      simp only [List.any_eq_true, decide_eq_true_eq] at hw
      exact ⟨by simpa using hg, hw⟩
    · simp at h

theorem mem_joinWait (e x : WaitEntry) (l : List WaitEntry) : x ∈ joinWait e l ↔ x = e ∨ x ∈ l := by
  induction l with
  | nil => simp [joinWait]
  | cons w ws ih =>
    unfold joinWait
    split
    · simp only [List.mem_cons, ih]; tauto
    · simp only [List.mem_cons]

theorem mem_leaveWait (o : Gated) (x : WaitEntry) (l : List WaitEntry) :
    x ∈ leaveWait o l ↔ x ∈ l ∧ x.out ≠ o := by
  simp [leaveWait, List.mem_filter]

/-! ### The granting pass, a granted output at a time -/

/-- The state in which the head of the wait list has been GRANTED and its owner told. -/
def grantHead (w : WaitEntry) (ws : List WaitEntry) (s : State) : State :=
  ownerTold w.out (s.setGate { s.gate with granted := s.gate.granted.set w.out true, wait := ws })

/-- What a granting pass keeps: a property that holds before it and that every grant keeps. -/
theorem grantingPass_keeps (P : State → Prop)
    (step : ∀ s w ws, P s → s.gate.wait = w :: ws → s.gate.weightInUse w.out ≤ s.gate.budgetFree → P (grantHead w ws s))
    (n : Nat) (s : State) (h : P s) : P (grantingPass n s) := by
  induction n generalizing s with
  | zero => exact h
  | succ n ih =>
    unfold grantingPass
    split
    · exact h
    · rename_i w ws hw
      split
      · rename_i hf
        exact ih _ (step s w ws h hw hf)
      · exact h

/-- No output is granted while the head of the list is heavier than the budget free. -/
theorem grantingPass_blocked (n : Nat) (s : State)
    (h : ∀ w ws, s.gate.wait = w :: ws → s.gate.budgetFree < s.gate.weightInUse w.out) : grantingPass n s = s := by
  cases n with
  | zero => rfl
  | succ n =>
    unfold grantingPass
    split
    · rfl
    · rename_i w ws hw
      rw [if_neg (Nat.not_le.mpr (h w ws hw))]

theorem grantingPass_nil (n : Nat) (s : State) (h : s.gate.wait = []) : grantingPass n s = s :=
  grantingPass_blocked n s (by simp [h])

/-- What a grant does to the gate. -/
theorem grantHead_gate (w : WaitEntry) (ws : List WaitEntry) (s : State) :
    (grantHead w ws s).gate = { s.gate with granted := s.gate.granted.set w.out true, wait := ws } ∨
    (w.out = .em ∧ s.ice.st = .harvestRake ∧
      (grantHead w ws s).gate =
        { s.gate with granted := (s.gate.granted.set .em true).set .th false, wait := leaveWait .th ws }) := by
  unfold grantHead ownerTold
  cases ho : w.out
  · exact .inl rfl
  · exact .inl rfl
  · exact .inl rfl
  · left; simp only [amGranted]; split <;> rfl
  · simp only [emGranted]
    split
    · rename_i h; exact .inr ⟨trivial, h, rfl⟩
    · exact .inl rfl

/-- The wait list after a grant holds nothing it did not hold before. -/
theorem grantHead_wait_subset (w : WaitEntry) (ws : List WaitEntry) (s : State) (hw : s.gate.wait = w :: ws) :
    ∀ x ∈ (grantHead w ws s).gate.wait, x ∈ s.gate.wait := by
  intro x hx
  rw [hw]
  rcases grantHead_gate w ws s with h | ⟨_, _, h⟩
  · rw [h] at hx; exact List.mem_cons_of_mem _ hx
  · rw [h] at hx; exact List.mem_cons_of_mem _ ((mem_leaveWait _ _ _).mp hx).1

/-- A grant requests nothing that was not requested. -/
theorem grantHead_not_requested (w : WaitEntry) (ws : List WaitEntry) (s : State) (o : Gated)
    (hw : s.gate.wait = w :: ws) (h : ¬s.gate.requested o) : ¬(grantHead w ws s).gate.requested o := by
  have hwo : w.out ≠ o := fun e => h (.inr ⟨w, by rw [hw]; exact List.mem_cons_self, e⟩)
  have hg : s.gate.granted.get o ≠ true := fun e => h (.inl e)
  rintro (k | ⟨x, hx, hxo⟩)
  · rcases grantHead_gate w ws s with e | ⟨he, _, e⟩
    · rw [e] at k
      simp only [] at k
      rw [GrantSet.get_set_other _ _ (Ne.symm hwo)] at k
      exact hg k
    · rw [e] at k
      simp only [] at k
      by_cases ht : o = .th
      · subst ht; simp at k
      · rw [GrantSet.get_set_other _ _ ht, GrantSet.get_set_other _ _ (by rw [← he]; exact Ne.symm hwo)] at k
        exact hg k
  · exact h (.inr ⟨x, grantHead_wait_subset w ws s hw x hx, hxo⟩)

/-- A grant withdraws nothing but TH, and TH only from the rake. -/
theorem grantHead_requested (w : WaitEntry) (ws : List WaitEntry) (s : State) (o : Gated)
    (hw : s.gate.wait = w :: ws) (ho : o ≠ .th ∨ s.ice.st ≠ .harvestRake) (h : s.gate.requested o) :
    (grantHead w ws s).gate.requested o := by
  rcases grantHead_gate w ws s with e | ⟨he, hr, e⟩
  · unfold Gate.requested
    rw [e]
    rcases h with h | ⟨x, hx, hxo⟩
    · left
      by_cases k : o = w.out
      · subst k; simp
      · simp only []; rw [GrantSet.get_set_other _ _ k]; exact h
    · rw [hw] at hx
      rcases List.mem_cons.mp hx with rfl | hx
      · left; subst hxo; simp
      · exact .inr ⟨x, hx, hxo⟩
  · have ht : o ≠ .th := by
      rcases ho with ho | ho
      · exact ho
      · exact absurd hr ho
    unfold Gate.requested
    rw [e]
    rcases h with h | ⟨x, hx, hxo⟩
    · left
      simp only []
      rw [GrantSet.get_set_other _ _ ht]
      by_cases k : o = .em
      · subst k; simp
      · rw [GrantSet.get_set_other _ _ k]; exact h
    · rw [hw] at hx
      rcases List.mem_cons.mp hx with rfl | hx
      · left
        simp only []
        rw [GrantSet.get_set_other _ _ ht, ← hxo, he]; simp
      · exact .inr ⟨x, (mem_leaveWait _ _ _).mpr ⟨hx, hxo ▸ ht⟩, hxo⟩

theorem grantingPass_not_requested (n : Nat) (s : State) (o : Gated) (h : ¬s.gate.requested o) :
    ¬(grantingPass n s).gate.requested o :=
  grantingPass_keeps (fun t => ¬t.gate.requested o)
    (fun s w ws h hw _ => grantHead_not_requested w ws s o hw h) n s h

theorem grantingPass_requested (n : Nat) (s : State) (o : Gated) (ho : o ≠ .th ∨ s.ice.st ≠ .harvestRake)
    (h : s.gate.requested o) : (grantingPass n s).gate.requested o := by
  have k := grantingPass_keeps (fun t => t.ice.st = s.ice.st ∧ t.gate.requested o)
    (fun t w ws ht hw _ => by
      refine ⟨?_, grantHead_requested w ws t o hw (by rw [ht.1]; exact ho) ht.2⟩
      have e := (ownerTold_frame w.out (t.setGate { t.gate with granted := t.gate.granted.set w.out true, wait := ws })).ice
      have e2 := congrArg Ice.st e
      exact e2.trans ht.1) n s ⟨rfl, h⟩
  exact k.2

/-- Settling HM leaves the grants and the wait list. -/
theorem settleHm_gate (s : State) : (settleHm s).gate = { s.gate with hm := settledHm s } := by
  unfold settleHm markHeatBegun
  split <;> rfl

theorem passAndSettle_requested (s : State) (o : Gated) (ho : o ≠ .th ∨ s.ice.st ≠ .harvestRake)
    (h : s.gate.requested o) : (passAndSettle s).gate.requested o := by
  unfold passAndSettle
  rw [settleHm_gate]
  exact grantingPass_requested _ s o ho h

theorem passAndSettle_not_requested (s : State) (o : Gated) (h : ¬s.gate.requested o) :
    ¬(passAndSettle s).gate.requested o := by
  unfold passAndSettle
  rw [settleHm_gate]
  exact grantingPass_not_requested _ s o h

/-! ### Requests and givings up -/

/-- A request leaves its output requested. -/
theorem requestOutput_requested (o : Gated) (s : State) (ho : o ≠ .th ∨ s.ice.st ≠ .harvestRake) :
    (requestOutput o s).gate.reqState o ≠ .noRequest := by
  rw [Ne, Gate.reqState_noRequest_iff, not_not]
  unfold requestOutput
  split
  · apply passAndSettle_requested
    · exact ho
    · exact .inr ⟨_, (mem_joinWait _ _ _).mpr (.inl rfl), rfl⟩
  · rename_i h
    exact .inr (Gate.reqState_waiting _ _ h).2
  · rename_i h
    exact .inl ((Gate.reqState_granted_iff _ _).mp h)

/-- A giving up leaves its output without a request, where the GRANTED set and the wait list are apart. -/
theorem giveUpOutput_noRequest (o : Gated) (s : State)
    (h : s.gate.granted.get o = true → ∀ w ∈ s.gate.wait, w.out ≠ o) :
    (giveUpOutput o s).gate.reqState o = .noRequest := by
  rw [Gate.reqState_noRequest_iff]
  unfold giveUpOutput
  split
  · rename_i k
    exact (Gate.reqState_noRequest_iff _ _).mp k
  · rename_i k
    apply passAndSettle_not_requested
    rintro (e | ⟨x, hx, hxo⟩)
    · have := (Gate.reqState_waiting _ _ k).1
      simp only [State.setGate_gate] at e
      rw [this] at e; simp at e
    · exact ((mem_leaveWait _ _ _).mp hx).2 hxo
  · rename_i k
    apply passAndSettle_not_requested
    rintro (e | ⟨x, hx, hxo⟩)
    · simp at e
    · exact h ((Gate.reqState_granted_iff _ _).mp k) x hx hxo

/-- A giving up of an output without a request changes nothing. -/
theorem giveUpOutput_of_noRequest (o : Gated) (s : State) (h : s.gate.reqState o = .noRequest) :
    giveUpOutput o s = s := by
  unfold giveUpOutput; rw [h]

/-- The ice maker and the dispenser stand after a grant to a heater. -/
theorem grantHead_heater (w : WaitEntry) (ws : List WaitEntry) (s : State) (h : w.out.isHeater = true) :
    grantHead w ws s = s.setGate { s.gate with granted := s.gate.granted.set w.out true, wait := ws } := by
  unfold grantHead ownerTold
  cases ho : w.out <;> simp_all [Gated.isHeater]

/-- A heater given up tells no owner of a grant where no other output waits. -/
theorem giveUpOutput_alone (o : Gated) (s : State) (ho : o.isHeater = true) (h : ∀ w ∈ s.gate.wait, w.out = o) :
    (giveUpOutput o s).ice = s.ice ∧ (giveUpOutput o s).disp = s.disp := by
  have pass : ∀ t : State, (∀ w ∈ t.gate.wait, w.out = o) →
      (passAndSettle t).ice = t.ice ∧ (passAndSettle t).disp = t.disp := by
    intro t ht
    have k := grantingPass_keeps
      (fun u => u.ice = t.ice ∧ u.disp = t.disp ∧ ∀ w ∈ u.gate.wait, w.out = o)
      (fun u w ws hu hw _ => by
        have hwo : w.out = o := hu.2.2 w (by rw [hw]; exact List.mem_cons_self)
        rw [grantHead_heater w ws u (hwo ▸ ho)]
        exact ⟨hu.1, hu.2.1, fun x hx => hu.2.2 x (by rw [hw]; exact List.mem_cons_of_mem _ hx)⟩)
      t.gate.wait.length t ⟨rfl, rfl, ht⟩
    unfold passAndSettle settleHm markHeatBegun
    split <;> exact ⟨k.1, k.2.1⟩
  unfold giveUpOutput
  split
  · exact ⟨rfl, rfl⟩
  · exact pass _ (fun w hw => h w ((mem_leaveWait _ _ _).mp hw).1)
  · exact pass _ h

/-- The pass tells no owner anything about the defrost controller. -/
theorem grantHead_defrost (w : WaitEntry) (ws : List WaitEntry) (s : State) : (grantHead w ws s).defrost = s.defrost := by
  unfold grantHead ownerTold
  cases w.out <;> simp only [amGranted, emGranted] <;> first | rfl | (split <;> rfl)

/-- A pass and the settling of HM touch the defrost controller only to mark a heat begun. -/
theorem passAndSettle_defrost (s : State) (h : s.defrost.st ≠ .heat ∨ s.defrost.heatBegun = true) :
    (passAndSettle s).defrost = s.defrost := by
  have k := grantingPass_keeps (fun t => t.defrost = s.defrost)
    (fun t w ws ht _ _ => (grantHead_defrost w ws t).trans ht) s.gate.wait.length s rfl
  unfold passAndSettle settleHm markHeatBegun
  split
  · rename_i c
    have c1 := c.1
    simp only [State.setGate_defrost] at c1 ⊢
    rw [k] at c1 ⊢
    rcases h with h | h
    · exact absurd c1 h
    · simp only [State.setDefrost_defrost]
      rw [← h]
  · exact k

theorem giveUpOutput_defrost (o : Gated) (s : State) (h : s.defrost.st ≠ .heat ∨ s.defrost.heatBegun = true) :
    (giveUpOutput o s).defrost = s.defrost := by
  unfold giveUpOutput
  split
  · rfl
  · exact passAndSettle_defrost _ h
  · exact passAndSettle_defrost _ h

theorem requestOutput_defrost (o : Gated) (s : State) (h : s.defrost.st ≠ .heat ∨ s.defrost.heatBegun = true) :
    (requestOutput o s).defrost = s.defrost := by
  unfold requestOutput
  split
  · exact passAndSettle_defrost _ h
  · rfl
  · rfl

/-- A grant tells the ice maker nothing outside HARVEST_RAKE. -/
theorem grantHead_ice (w : WaitEntry) (ws : List WaitEntry) (s : State) (h : s.ice.st ≠ .harvestRake) :
    (grantHead w ws s).ice = s.ice := by
  unfold grantHead ownerTold
  cases w.out <;> simp only [amGranted, emGranted] <;> first | rfl | skip
  · split <;> rfl
  · split <;> first | rfl | (rename_i k; exact absurd k h)

/-- A grant tells the dispenser nothing outside DELIVER. -/
theorem grantHead_disp (w : WaitEntry) (ws : List WaitEntry) (s : State) (h : s.disp.st ≠ .deliver) :
    (grantHead w ws s).disp = s.disp := by
  unfold grantHead ownerTold
  cases w.out <;> simp only [amGranted, emGranted] <;> first | rfl | skip
  · split <;> first | rfl | (rename_i k; exact absurd k h)
  · split <;> rfl

theorem passAndSettle_ice (s : State) (h : s.ice.st ≠ .harvestRake) : (passAndSettle s).ice = s.ice := by
  have k := grantingPass_keeps (fun t => t.ice = s.ice)
    (fun t w ws ht _ _ => (grantHead_ice w ws t (by rw [ht]; exact h)).trans ht) s.gate.wait.length s rfl
  unfold passAndSettle settleHm markHeatBegun
  split <;> exact k

theorem passAndSettle_disp (s : State) (h : s.disp.st ≠ .deliver) : (passAndSettle s).disp = s.disp := by
  have k := grantingPass_keeps (fun t => t.disp = s.disp)
    (fun t w ws ht _ _ => (grantHead_disp w ws t (by rw [ht]; exact h)).trans ht) s.gate.wait.length s rfl
  unfold passAndSettle settleHm markHeatBegun
  split <;> exact k

theorem requestOutput_ice (o : Gated) (s : State) (h : s.ice.st ≠ .harvestRake) : (requestOutput o s).ice = s.ice := by
  unfold requestOutput
  split <;> first | rfl | exact passAndSettle_ice _ h

theorem requestOutput_disp (o : Gated) (s : State) (h : s.disp.st ≠ .deliver) : (requestOutput o s).disp = s.disp := by
  unfold requestOutput
  split <;> first | rfl | exact passAndSettle_disp _ h

theorem giveUpOutput_ice (o : Gated) (s : State) (h : s.ice.st ≠ .harvestRake) : (giveUpOutput o s).ice = s.ice := by
  unfold giveUpOutput
  split <;> first | rfl | exact passAndSettle_ice _ h

theorem giveUpOutput_disp (o : Gated) (s : State) (h : s.disp.st ≠ .deliver) : (giveUpOutput o s).disp = s.disp := by
  unfold giveUpOutput
  split <;> first | rfl | exact passAndSettle_disp _ h

/-! ### The sum of the GRANTED weights (R121) -/

theorem Gate.share_le (g : Gate) (o : Gated) : g.share o ≤ g.weightInUse o := by
  unfold Gate.share; split <;> omega

theorem Gate.share_set_other (g : Gate) {o p : Gated} (v : Bool) (ws : List WaitEntry) (h : p ≠ o) :
    Gate.share { g with granted := g.granted.set o v, wait := ws } p = g.share p := by
  unfold Gate.share
  simp only [GrantSet.get_set_other g.granted v h]
  rfl

theorem Gate.share_set_false (g : Gate) (o : Gated) (ws : List WaitEntry) :
    Gate.share { g with granted := g.granted.set o false, wait := ws } o = 0 := by
  simp [Gate.share]

theorem Gate.share_set_true_le (g : Gate) (o : Gated) (ws : List WaitEntry) :
    Gate.share { g with granted := g.granted.set o true, wait := ws } o ≤ g.weightInUse o :=
  Gate.share_le _ o

/-- Granting an output adds at most its weight. -/
theorem Gate.budgetInUse_grant_le (g : Gate) (o : Gated) (ws : List WaitEntry) :
    Gate.budgetInUse { g with granted := g.granted.set o true, wait := ws } ≤ g.budgetInUse + g.weightInUse o := by
  have h := g.share_set_true_le o ws
  have k := fun p (hp : p ≠ o) => g.share_set_other true ws hp
  unfold Gate.budgetInUse
  cases o
  · rw [k .th (by decide), k .ft (by decide), k .am (by decide), k .em (by decide)]; omega
  · rw [k .dh (by decide), k .ft (by decide), k .am (by decide), k .em (by decide)]; omega
  · rw [k .dh (by decide), k .th (by decide), k .am (by decide), k .em (by decide)]; omega
  · rw [k .dh (by decide), k .th (by decide), k .ft (by decide), k .em (by decide)]; omega
  · rw [k .dh (by decide), k .th (by decide), k .ft (by decide), k .am (by decide)]; omega

/-- Withdrawing a grant adds nothing. -/
theorem Gate.budgetInUse_withdraw_le (g : Gate) (o : Gated) (ws : List WaitEntry) :
    Gate.budgetInUse { g with granted := g.granted.set o false, wait := ws } ≤ g.budgetInUse := by
  have h := g.share_set_false o ws
  have k := fun p (hp : p ≠ o) => g.share_set_other false ws hp
  unfold Gate.budgetInUse
  cases o
  · rw [h, k .th (by decide), k .ft (by decide), k .am (by decide), k .em (by decide)]; omega
  · rw [h, k .dh (by decide), k .ft (by decide), k .am (by decide), k .em (by decide)]; omega
  · rw [h, k .dh (by decide), k .th (by decide), k .am (by decide), k .em (by decide)]; omega
  · rw [h, k .dh (by decide), k .th (by decide), k .ft (by decide), k .em (by decide)]; omega
  · rw [h, k .dh (by decide), k .th (by decide), k .ft (by decide), k .am (by decide)]; omega

theorem Gate.budgetInUse_empty (g : Gate) (ws : List WaitEntry) (hm : HmState) :
    Gate.budgetInUse { g with granted := .empty, wait := ws, hm := hm } = 0 := by
  simp [Gate.budgetInUse, Gate.share]

theorem grantHead_fits (w : WaitEntry) (ws : List WaitEntry) (s : State) (h : s.gate.fits)
    (hf : s.gate.weightInUse w.out ≤ s.gate.budgetFree) : (grantHead w ws s).gate.fits := by
  have h1 := Gate.budgetInUse_grant_le s.gate w.out ws
  unfold Gate.fits at h ⊢
  unfold Gate.budgetFree at hf
  rcases grantHead_gate w ws s with e | ⟨he, _, e⟩
  · rw [e]; simp only []; omega
  · rw [e]
    have h2 := Gate.budgetInUse_withdraw_le { s.gate with granted := s.gate.granted.set w.out true, wait := ws } .th
      (leaveWait .th ws)
    rw [he] at h1 h2 hf
    simp only [] at h2 ⊢
    omega

theorem passAndSettle_fits (s : State) (h : s.gate.fits) : (passAndSettle s).gate.fits := by
  have k := grantingPass_keeps (fun t => t.gate.fits) (fun t w ws ht _ hf => grantHead_fits w ws t ht hf)
    s.gate.wait.length s h
  unfold passAndSettle
  rw [settleHm_gate]
  exact k

theorem requestOutput_fits (o : Gated) (s : State) (h : s.gate.fits) : (requestOutput o s).gate.fits := by
  unfold requestOutput
  split
  · exact passAndSettle_fits _ h
  · exact h
  · exact h

theorem giveUpOutput_fits (o : Gated) (s : State) (h : s.gate.fits) : (giveUpOutput o s).gate.fits := by
  unfold giveUpOutput
  split
  · exact h
  · exact passAndSettle_fits _ h
  · exact passAndSettle_fits _ ((Gate.budgetInUse_withdraw_le _ _ _).trans h)

theorem promoteOutput_fits (w : WaitEntry) (s : State) (h : s.gate.fits) :
    (promoteOutput w s).gate.fits := by
  unfold promoteOutput
  split
  · exact h
  · exact passAndSettle_fits _ h

theorem hmSettled_fits (s : State) (h : s.gate.fits) : (hmSettled s).gate.fits := by
  unfold hmSettled
  rw [settleHm_gate]
  exact h

end Sys2Proof.Machine
end

