-- ==== Sys2Proof/Laws/Line.lean ====
section
/-! SUPPORT. What opening and closing the water valve leaves, field by field. -/

namespace Sys2Proof.Machine

/-! ### Closing the open valve -/

@[simp] theorem closeValve_now (v : Valve) (s : State) : (closeValve v s).now = s.now := rfl
@[simp] theorem closeValve_mode (v : Valve) (s : State) : (closeValve v s).mode = s.mode := rfl
@[simp] theorem closeValve_restartPending (v : Valve) (s : State) : (closeValve v s).restartPending = s.restartPending := rfl
@[simp] theorem closeValve_ownAddress (v : Valve) (s : State) : (closeValve v s).ownAddress = s.ownAddress := rfl
@[simp] theorem closeValve_tables (v : Valve) (s : State) : (closeValve v s).tables = s.tables := rfl
@[simp] theorem closeValve_link (v : Valve) (s : State) : (closeValve v s).link = s.link := rfl
@[simp] theorem closeValve_obs (v : Valve) (s : State) : (closeValve v s).obs = s.obs := rfl
@[simp] theorem closeValve_temps (v : Valve) (s : State) : (closeValve v s).temps = s.temps := rfl
@[simp] theorem closeValve_defrost (v : Valve) (s : State) : (closeValve v s).defrost = s.defrost := rfl
@[simp] theorem closeValve_gate (v : Valve) (s : State) : (closeValve v s).gate = s.gate := rfl
@[simp] theorem closeValve_inputs (v : Valve) (s : State) : (closeValve v s).inputs = s.inputs := rfl
@[simp] theorem closeValve_pending (v : Valve) (s : State) : (closeValve v s).pending = s.pending := rfl

/-- The line after its open valve closes. -/
theorem closeValve_line (v : Valve) (s : State) :
    (closeValve v s).line = { s.line with
      st := .idle, lastClosed := some v, closeAt := s.now
      changeoverEnd := some (s.afterMs s.tables.water.changeover), noflowAt := none
      fillOpen := s.fillOpenTime, pourOpen := s.pourOpenTime
      filterTotal := satAdd Config.max32 s.line.filterTotal (s.openingEstimate v)
      filterState := if satAdd Config.max32 s.line.filterTotal (s.openingEstimate v) = s.line.filterTotal
                     then s.line.filterState
                     else filterStateFor s.tables.water
                       (satAdd Config.max32 s.line.filterTotal (s.openingEstimate v)) } := rfl

@[simp] theorem closeValve_ice (v : Valve) (s : State) :
    (closeValve v s).ice = { s.ice with elapsed := s.fillElapsed } := rfl

@[simp] theorem closeValve_disp (v : Valve) (s : State) :
    (closeValve v s).disp = { s.disp with poured := s.pouredNow } := rfl

/-- With a meter the filter total stands while a valve closes (R62). -/
theorem openingEstimate_metered (v : Valve) (s : State) (h : s.line.flowk ≠ 0) : s.openingEstimate v = 0 := by
  unfold State.openingEstimate; rw [if_neg h]

/-! ### Opening -/

/-- The line once IV has opened. -/
def lineFilling (s : State) : Line :=
  { s.line with
    st := .fill, fillWaiting := false, openedAt := s.now, flowk := s.tables.water.flowk
    fillTally := if s.line.resumes then s.line.fillTally else 0
    fillOpen := if s.line.resumes then s.line.fillOpen else 0
    unclaimed := 0, noflowSeen := false, noflowAt := s.noflowStart }

/-- The ice maker once it has been told that IV is open. -/
def iceFlowing (s : State) : Ice :=
  { s.ice with st := .fill .flowing, opened := true, trayLoaded := true, trailAt := none }

theorem openIv_eq (s : State) : openIv s = requestOutput .ft ((s.setLine (lineFilling s)).setIce (iceFlowing s)) := rfl

@[simp] theorem openIv_line (s : State) : (openIv s).line = lineFilling s := by rw [openIv_eq]; simp

@[simp] theorem openIv_now (s : State) : (openIv s).now = s.now := by rw [openIv_eq]; simp
@[simp] theorem openIv_mode (s : State) : (openIv s).mode = s.mode := by rw [openIv_eq]; simp
@[simp] theorem openIv_restartPending (s : State) : (openIv s).restartPending = s.restartPending := by rw [openIv_eq]; simp
@[simp] theorem openIv_ownAddress (s : State) : (openIv s).ownAddress = s.ownAddress := by rw [openIv_eq]; simp
@[simp] theorem openIv_tables (s : State) : (openIv s).tables = s.tables := by rw [openIv_eq]; simp
@[simp] theorem openIv_link (s : State) : (openIv s).link = s.link := by rw [openIv_eq]; simp
@[simp] theorem openIv_obs (s : State) : (openIv s).obs = s.obs := by rw [openIv_eq]; simp
@[simp] theorem openIv_temps (s : State) : (openIv s).temps = s.temps := by rw [openIv_eq]; simp
@[simp] theorem openIv_inputs (s : State) : (openIv s).inputs = s.inputs := by rw [openIv_eq]; simp
@[simp] theorem openIv_pending (s : State) : (openIv s).pending = s.pending := by rw [openIv_eq]; simp

/-- FT is requested or on once IV has opened. -/
theorem openIv_requests (s : State) : (openIv s).gate.reqState .ft ≠ .noRequest := by
  rw [openIv_eq]; exact requestOutput_requested _ _ (.inl (by decide))

@[simp] theorem openIv_ice_st (s : State) : (openIv s).ice.st = .fill .flowing := by
  rw [openIv_eq]; simp [iceFlowing]
@[simp] theorem openIv_ice_opened (s : State) : (openIv s).ice.opened = true := by rw [openIv_eq]; simp [iceFlowing]
@[simp] theorem openIv_ice_trayLoaded (s : State) : (openIv s).ice.trayLoaded = true := by
  rw [openIv_eq]; simp [iceFlowing]
@[simp] theorem openIv_ice_elapsed (s : State) : (openIv s).ice.elapsed = s.ice.elapsed := by
  rw [openIv_eq]; simp [iceFlowing]
@[simp] theorem openIv_ice_retry (s : State) : (openIv s).ice.retry = s.ice.retry := by
  rw [openIv_eq]; simp [iceFlowing]
@[simp] theorem openIv_ice_resumeAt (s : State) : (openIv s).ice.resumeAt = s.ice.resumeAt := by
  rw [openIv_eq]; simp [iceFlowing]

@[simp] theorem openWv_now (s : State) : (openWv s).now = s.now := rfl
@[simp] theorem openWv_mode (s : State) : (openWv s).mode = s.mode := rfl
@[simp] theorem openWv_restartPending (s : State) : (openWv s).restartPending = s.restartPending := rfl
@[simp] theorem openWv_ownAddress (s : State) : (openWv s).ownAddress = s.ownAddress := rfl
@[simp] theorem openWv_tables (s : State) : (openWv s).tables = s.tables := rfl
@[simp] theorem openWv_link (s : State) : (openWv s).link = s.link := rfl
@[simp] theorem openWv_obs (s : State) : (openWv s).obs = s.obs := rfl
@[simp] theorem openWv_temps (s : State) : (openWv s).temps = s.temps := rfl
@[simp] theorem openWv_defrost (s : State) : (openWv s).defrost = s.defrost := rfl
@[simp] theorem openWv_ice (s : State) : (openWv s).ice = s.ice := rfl
@[simp] theorem openWv_gate (s : State) : (openWv s).gate = s.gate := rfl
@[simp] theorem openWv_inputs (s : State) : (openWv s).inputs = s.inputs := rfl
@[simp] theorem openWv_pending (s : State) : (openWv s).pending = s.pending := rfl

/-! ### Requests and releases -/

@[simp] theorem fillRequest_now (b : Bool) (s : State) : (fillRequest b s).now = s.now := by
  unfold fillRequest giveLineToIce; split <;> (try split) <;> simp
@[simp] theorem fillRequest_mode (b : Bool) (s : State) : (fillRequest b s).mode = s.mode := by
  unfold fillRequest giveLineToIce; split <;> (try split) <;> simp
@[simp] theorem fillRequest_restartPending (b : Bool) (s : State) : (fillRequest b s).restartPending = s.restartPending := by
  unfold fillRequest giveLineToIce; split <;> (try split) <;> simp
@[simp] theorem fillRequest_ownAddress (b : Bool) (s : State) : (fillRequest b s).ownAddress = s.ownAddress := by
  unfold fillRequest giveLineToIce; split <;> (try split) <;> simp
@[simp] theorem fillRequest_tables (b : Bool) (s : State) : (fillRequest b s).tables = s.tables := by
  unfold fillRequest giveLineToIce; split <;> (try split) <;> simp
@[simp] theorem fillRequest_link (b : Bool) (s : State) : (fillRequest b s).link = s.link := by
  unfold fillRequest giveLineToIce; split <;> (try split) <;> simp
@[simp] theorem fillRequest_obs (b : Bool) (s : State) : (fillRequest b s).obs = s.obs := by
  unfold fillRequest giveLineToIce; split <;> (try split) <;> simp
@[simp] theorem fillRequest_temps (b : Bool) (s : State) : (fillRequest b s).temps = s.temps := by
  unfold fillRequest giveLineToIce; split <;> (try split) <;> simp
@[simp] theorem fillRequest_inputs (b : Bool) (s : State) : (fillRequest b s).inputs = s.inputs := by
  unfold fillRequest giveLineToIce; split <;> (try split) <;> simp
@[simp] theorem fillRequest_pending (b : Bool) (s : State) : (fillRequest b s).pending = s.pending := by
  unfold fillRequest giveLineToIce; split <;> (try split) <;> simp

@[simp] theorem pourRequest_now (s : State) : (pourRequest s).now = s.now := by
  unfold pourRequest; split <;> (try split) <;> simp
@[simp] theorem pourRequest_mode (s : State) : (pourRequest s).mode = s.mode := by
  unfold pourRequest; split <;> (try split) <;> simp
@[simp] theorem pourRequest_restartPending (s : State) : (pourRequest s).restartPending = s.restartPending := by
  unfold pourRequest; split <;> (try split) <;> simp
@[simp] theorem pourRequest_ownAddress (s : State) : (pourRequest s).ownAddress = s.ownAddress := by
  unfold pourRequest; split <;> (try split) <;> simp
@[simp] theorem pourRequest_tables (s : State) : (pourRequest s).tables = s.tables := by
  unfold pourRequest; split <;> (try split) <;> simp
@[simp] theorem pourRequest_link (s : State) : (pourRequest s).link = s.link := by
  unfold pourRequest; split <;> (try split) <;> simp
@[simp] theorem pourRequest_obs (s : State) : (pourRequest s).obs = s.obs := by
  unfold pourRequest; split <;> (try split) <;> simp
@[simp] theorem pourRequest_temps (s : State) : (pourRequest s).temps = s.temps := by
  unfold pourRequest; split <;> (try split) <;> simp
@[simp] theorem pourRequest_inputs (s : State) : (pourRequest s).inputs = s.inputs := by
  unfold pourRequest; split <;> (try split) <;> simp
@[simp] theorem pourRequest_pending (s : State) : (pourRequest s).pending = s.pending := by
  unfold pourRequest; split <;> (try split) <;> simp
@[simp] theorem pourRequest_defrost (s : State) : (pourRequest s).defrost = s.defrost := by
  unfold pourRequest; split <;> (try split) <;> simp
@[simp] theorem pourRequest_gate (s : State) : (pourRequest s).gate = s.gate := by
  unfold pourRequest; split <;> (try split) <;> simp

@[simp] theorem fillRelease_now (s : State) : (fillRelease s).now = s.now := by
  unfold fillRelease; split <;> simp
@[simp] theorem fillRelease_mode (s : State) : (fillRelease s).mode = s.mode := by
  unfold fillRelease; split <;> simp
@[simp] theorem fillRelease_restartPending (s : State) : (fillRelease s).restartPending = s.restartPending := by
  unfold fillRelease; split <;> simp
@[simp] theorem fillRelease_ownAddress (s : State) : (fillRelease s).ownAddress = s.ownAddress := by
  unfold fillRelease; split <;> simp
@[simp] theorem fillRelease_tables (s : State) : (fillRelease s).tables = s.tables := by
  unfold fillRelease; split <;> simp
@[simp] theorem fillRelease_link (s : State) : (fillRelease s).link = s.link := by
  unfold fillRelease; split <;> simp
@[simp] theorem fillRelease_obs (s : State) : (fillRelease s).obs = s.obs := by
  unfold fillRelease; split <;> simp
@[simp] theorem fillRelease_temps (s : State) : (fillRelease s).temps = s.temps := by
  unfold fillRelease; split <;> simp
@[simp] theorem fillRelease_inputs (s : State) : (fillRelease s).inputs = s.inputs := by
  unfold fillRelease; split <;> simp
@[simp] theorem fillRelease_pending (s : State) : (fillRelease s).pending = s.pending := by
  unfold fillRelease; split <;> simp
@[simp] theorem fillRelease_defrost (s : State) : (fillRelease s).defrost = s.defrost := by
  unfold fillRelease; split <;> simp
@[simp] theorem fillRelease_gate (s : State) : (fillRelease s).gate = s.gate := by
  unfold fillRelease; split <;> simp

@[simp] theorem pourRelease_now (s : State) : (pourRelease s).now = s.now := by
  unfold pourRelease handOn giveLineToIce; split <;> (repeat' split) <;> simp
@[simp] theorem pourRelease_mode (s : State) : (pourRelease s).mode = s.mode := by
  unfold pourRelease handOn giveLineToIce; split <;> (repeat' split) <;> simp
@[simp] theorem pourRelease_restartPending (s : State) : (pourRelease s).restartPending = s.restartPending := by
  unfold pourRelease handOn giveLineToIce; split <;> (repeat' split) <;> simp
@[simp] theorem pourRelease_ownAddress (s : State) : (pourRelease s).ownAddress = s.ownAddress := by
  unfold pourRelease handOn giveLineToIce; split <;> (repeat' split) <;> simp
@[simp] theorem pourRelease_tables (s : State) : (pourRelease s).tables = s.tables := by
  unfold pourRelease handOn giveLineToIce; split <;> (repeat' split) <;> simp
@[simp] theorem pourRelease_link (s : State) : (pourRelease s).link = s.link := by
  unfold pourRelease handOn giveLineToIce; split <;> (repeat' split) <;> simp
@[simp] theorem pourRelease_obs (s : State) : (pourRelease s).obs = s.obs := by
  unfold pourRelease handOn giveLineToIce; split <;> (repeat' split) <;> simp
@[simp] theorem pourRelease_temps (s : State) : (pourRelease s).temps = s.temps := by
  unfold pourRelease handOn giveLineToIce; split <;> (repeat' split) <;> simp
@[simp] theorem pourRelease_inputs (s : State) : (pourRelease s).inputs = s.inputs := by
  unfold pourRelease handOn giveLineToIce; split <;> (repeat' split) <;> simp
@[simp] theorem pourRelease_pending (s : State) : (pourRelease s).pending = s.pending := by
  unfold pourRelease handOn giveLineToIce; split <;> (repeat' split) <;> simp

/-! ### Endings with a meter -/

/-- With a meter, poured is as stored (R105). -/
theorem pouredNow_metered (s : State) (h : s.line.flowk ≠ 0) : s.pouredNow = s.disp.poured := by
  unfold State.pouredNow; simp [h]

/-- Nothing added to a number within its limit. -/
theorem satAdd_zero (m n : Nat) (h : n ≤ m) : satAdd m n 0 = n := by simp [satAdd]; omega

/-- With a meter, closing a valve moves nothing but the line's own fields and the fill elapsed (R46, R62). -/
theorem closeValve_metered (v : Valve) (s : State) (h : s.line.flowk ≠ 0) (hf : s.line.filterTotal ≤ Config.max32) :
    closeValve v s = (s.setLine { s.line with
      st := .idle, lastClosed := some v, closeAt := s.now
      changeoverEnd := some (s.afterMs s.tables.water.changeover), noflowAt := none
      fillOpen := s.fillOpenTime, pourOpen := s.pourOpenTime }).setIce { s.ice with elapsed := s.fillElapsed } := by
  have h2 := pouredNow_metered s h
  unfold closeValve
  rw [openingEstimate_metered v s h, h2]
  unfold setFilterTotal
  simp only [State.setLine_line, satAdd_zero _ _ hf, if_true]
  rfl

/-- A pour release with a meter and no fill to hand on to (R51). -/
theorem pourRelease_alone (s : State) (hl : s.line.st = .pour) (h : s.line.flowk ≠ 0)
    (hf : s.line.filterTotal ≤ Config.max32) (hw : s.line.fillWaiting = false) (hs : s.line.fillSuspended = false) :
    pourRelease s = s.setLine { s.line with
      st := .idle, lastClosed := some .wv, closeAt := s.now
      changeoverEnd := some (s.afterMs s.tables.water.changeover), noflowAt := none
      pourOpen := satAdd Config.max32 s.line.pourOpen s.msOpen } := by
  have h1 : s.fillOpenTime = s.line.fillOpen := by unfold State.fillOpenTime; simp [hl]
  have h2 : s.pourOpenTime = satAdd Config.max32 s.line.pourOpen s.msOpen := by unfold State.pourOpenTime; simp [hl]
  have h3 : s.fillElapsed = s.ice.elapsed := by unfold State.fillElapsed; simp [hl]
  unfold pourRelease
  rw [hl]
  show handOn _ = _
  rw [closeValve_metered _ _ h hf, h1, h2, h3]
  unfold handOn
  simp only [State.setIce_line, State.setLine_line, hw, hs]
  rfl

/-- The pause of a measured fill, field by field (R106). -/
theorem pauseMeasured_eq (s : State) :
    pauseMeasured s = s.setDisp { s.disp with
      measured := if s.disp.measured = .active then .paused else s.disp.measured
      pauseAt := if s.disp.measured = .active then some (s.afterSeconds s.tables.water.measurehold)
                 else s.disp.pauseAt } := by
  unfold pauseMeasured
  by_cases h : s.disp.measured = .active
  · rw [if_pos h, if_pos h, if_pos h]
  · rw [if_neg h, if_neg h, if_neg h]; rfl

/-- A pour's end with a meter and no fill to hand on to (R106, R107). -/
theorem endPour_alone (st : DispState) (press : PressStanding) (s : State) (hl : s.line.st = .pour)
    (h : s.line.flowk ≠ 0) (hf : s.line.filterTotal ≤ Config.max32) (hw : s.line.fillWaiting = false)
    (hs : s.line.fillSuspended = false) :
    endPour st press s = (s.setLine { s.line with
      st := .idle, lastClosed := some .wv, closeAt := s.now
      changeoverEnd := some (s.afterMs s.tables.water.changeover), noflowAt := none
      pourOpen := satAdd Config.max32 s.line.pourOpen s.msOpen }).setDisp { s.disp with
        st := st, press := press, pourAt := none
        measured := if s.disp.measured = .active then .paused else s.disp.measured
        pauseAt := if s.disp.measured = .active then some (s.afterSeconds s.tables.water.measurehold)
                   else s.disp.pauseAt } := by
  unfold endPour
  rw [pourRelease_alone s hl h hf hw hs, pauseMeasured_eq]
  rfl

/-- What the successful end of a fill leaves (R79, R80). -/
theorem fillSuccess_leaves (s : State) :
    (fillSuccess s).line = (fillRelease s).line ∧ (fillSuccess s).now = s.now ∧ (fillSuccess s).link = s.link ∧
      (fillSuccess s).ice.st = .freeze ∧ (fillSuccess s).ice.belowtime = 0 ∧ (fillSuccess s).ice.freezetime = 0 ∧
      (fillSuccess s).ice.faultCount = 0 ∧ (fillSuccess s).ice.resumeAt = none ∧
      KeepsSetup s (fillSuccess s) ∧ KeepsSenses s (fillSuccess s) := by
  unfold fillSuccess startTrail
  simp only
  split <;> simp [enterFreeze, KeepsSetup, KeepsSenses]

end Sys2Proof.Machine
end

