-- ==== Sys2Proof/Laws/Link.lean ====
section
/-! SUPPORT. What the queues and the ports can do: beginning to send, offering a frame, ending an exchange. -/

namespace Sys2Proof.Machine

/-! ### Beginning to send -/

theorem quiet_of_justHeard (now : Nat) (p : PortState) (h : p.lastChar = some now) : quiet now p = false := by
  unfold quiet
  rw [h]
  simp [Config.tickChar]

theorem quiet_of_busy (now : Nat) (p : PortState) (h : p.tx ≠ .idle) : quiet now p = false := by
  unfold quiet; simp [h]

theorem quiet_of_inside (now : Nat) (p : PortState) (h : p.rx ≠ .waiting) : quiet now p = false := by
  unfold quiet; simp [h]

theorem kickTrunk_noisy (now : Nat) (l : Link) (h : quiet now l.trunk = false) : l.kickTrunk now = l := by
  unfold Link.kickTrunk; simp [h]

theorem kickTrunk_empty (now : Nat) (l : Link) (h : l.uplink = []) : l.kickTrunk now = l := by
  unfold Link.kickTrunk; simp [h]

theorem kickDoor_noisy (now : Nat) (l : Link) (h : quiet now l.door = false) : l.kickDoor now = l := by
  unfold Link.kickDoor; simp [h]

theorem kickDoor_empty (now : Nat) (l : Link) (h : l.relay = []) : l.kickDoor now = l := by
  unfold Link.kickDoor; simp [h]

@[simp] theorem kickTrunk_relay (now : Nat) (l : Link) : (l.kickTrunk now).relay = l.relay := by
  unfold Link.kickTrunk; split <;> rfl
@[simp] theorem kickTrunk_uplink (now : Nat) (l : Link) : (l.kickTrunk now).uplink = l.uplink := by
  unfold Link.kickTrunk; split <;> rfl
@[simp] theorem kickTrunk_door (now : Nat) (l : Link) : (l.kickTrunk now).door = l.door := by
  unfold Link.kickTrunk; split <;> rfl
@[simp] theorem kickTrunk_doorSide (now : Nat) (l : Link) : (l.kickTrunk now).doorSide = l.doorSide := by
  unfold Link.kickTrunk; split <;> rfl
@[simp] theorem kickTrunk_flow (now : Nat) (l : Link) : (l.kickTrunk now).flow = l.flow := by
  unfold Link.kickTrunk; split <;> rfl
@[simp] theorem kickTrunk_trunkCount (now : Nat) (l : Link) : (l.kickTrunk now).trunkCount = l.trunkCount := by
  unfold Link.kickTrunk; split <;> rfl
@[simp] theorem kickTrunk_doorCount (now : Nat) (l : Link) : (l.kickTrunk now).doorCount = l.doorCount := by
  unfold Link.kickTrunk; split <;> rfl

@[simp] theorem kickDoor_relay (now : Nat) (l : Link) : (l.kickDoor now).relay = l.relay := by
  unfold Link.kickDoor; split <;> rfl
@[simp] theorem kickDoor_uplink (now : Nat) (l : Link) : (l.kickDoor now).uplink = l.uplink := by
  unfold Link.kickDoor; split <;> rfl
@[simp] theorem kickDoor_trunk (now : Nat) (l : Link) : (l.kickDoor now).trunk = l.trunk := by
  unfold Link.kickDoor; split <;> rfl
@[simp] theorem kickDoor_flow (now : Nat) (l : Link) : (l.kickDoor now).flow = l.flow := by
  unfold Link.kickDoor; split <;> rfl
@[simp] theorem kickDoor_trunkCount (now : Nat) (l : Link) : (l.kickDoor now).trunkCount = l.trunkCount := by
  unfold Link.kickDoor; split <;> rfl
@[simp] theorem kickDoor_doorCount (now : Nat) (l : Link) : (l.kickDoor now).doorCount = l.doorCount := by
  unfold Link.kickDoor; split <;> rfl

/-- DOOR begins to send only with a frame at the head of the relay queue. -/
theorem kickDoor_doorSide (now : Nat) (l : Link) :
    (l.kickDoor now).doorSide = l.doorSide ∨ ((l.kickDoor now).doorSide = .sending ∧ l.relay ≠ []) := by
  unfold Link.kickDoor
  split
  · rename_i h
    simp only [Bool.and_eq_true, Bool.not_eq_true', List.isEmpty_eq_false_iff] at h
    exact .inr ⟨rfl, h.2⟩
  · exact .inl rfl

/-! ### The flow state -/

@[simp] theorem flowAfterAppend_relay (g : GeneralParams) (l : Link) : (l.flowAfterAppend g).relay = l.relay := by
  unfold Link.flowAfterAppend; split <;> rfl
@[simp] theorem flowAfterAppend_uplink (g : GeneralParams) (l : Link) : (l.flowAfterAppend g).uplink = l.uplink := by
  unfold Link.flowAfterAppend; split <;> rfl
@[simp] theorem flowAfterAppend_trunk (g : GeneralParams) (l : Link) : (l.flowAfterAppend g).trunk = l.trunk := by
  unfold Link.flowAfterAppend; split <;> rfl
@[simp] theorem flowAfterAppend_door (g : GeneralParams) (l : Link) : (l.flowAfterAppend g).door = l.door := by
  unfold Link.flowAfterAppend; split <;> rfl
@[simp] theorem flowAfterAppend_doorSide (g : GeneralParams) (l : Link) :
    (l.flowAfterAppend g).doorSide = l.doorSide := by
  unfold Link.flowAfterAppend; split <;> rfl
@[simp] theorem flowAfterAppend_trunkCount (g : GeneralParams) (l : Link) :
    (l.flowAfterAppend g).trunkCount = l.trunkCount := by
  unfold Link.flowAfterAppend; split <;> rfl
@[simp] theorem flowAfterAppend_doorCount (g : GeneralParams) (l : Link) :
    (l.flowAfterAppend g).doorCount = l.doorCount := by
  unfold Link.flowAfterAppend; split <;> rfl
theorem flowAfterAppend_flow (g : GeneralParams) (l : Link) :
    (l.flowAfterAppend g).flow = if g.relayhigh ≤ l.relay.length then .flowBusy else l.flow := by
  unfold Link.flowAfterAppend; split <;> rfl

@[simp] theorem flowAfterRemoval_relay (g : GeneralParams) (l : Link) : (l.flowAfterRemoval g).relay = l.relay := by
  unfold Link.flowAfterRemoval; split <;> rfl
@[simp] theorem flowAfterRemoval_uplink (g : GeneralParams) (l : Link) : (l.flowAfterRemoval g).uplink = l.uplink := by
  unfold Link.flowAfterRemoval; split <;> rfl
@[simp] theorem flowAfterRemoval_trunk (g : GeneralParams) (l : Link) : (l.flowAfterRemoval g).trunk = l.trunk := by
  unfold Link.flowAfterRemoval; split <;> rfl
@[simp] theorem flowAfterRemoval_door (g : GeneralParams) (l : Link) : (l.flowAfterRemoval g).door = l.door := by
  unfold Link.flowAfterRemoval; split <;> rfl
@[simp] theorem flowAfterRemoval_doorSide (g : GeneralParams) (l : Link) :
    (l.flowAfterRemoval g).doorSide = l.doorSide := by
  unfold Link.flowAfterRemoval; split <;> rfl
@[simp] theorem flowAfterRemoval_trunkCount (g : GeneralParams) (l : Link) :
    (l.flowAfterRemoval g).trunkCount = l.trunkCount := by
  unfold Link.flowAfterRemoval; split <;> rfl
@[simp] theorem flowAfterRemoval_doorCount (g : GeneralParams) (l : Link) :
    (l.flowAfterRemoval g).doorCount = l.doorCount := by
  unfold Link.flowAfterRemoval; split <;> rfl
theorem flowAfterRemoval_flow (g : GeneralParams) (l : Link) :
    (l.flowAfterRemoval g).flow = if l.relay.length ≤ g.relaylow then .flowOpen else l.flow := by
  unfold Link.flowAfterRemoval; split <;> rfl

/-! ### Offers -/

/-- A frame offered to an uplink queue with room, while TRUNK's line is not quiet, is appended and nothing else. -/
theorem offerUplink_noisy (now : Nat) (f : Frame) (r : Bool) (l : Link)
    (hr : l.uplink.length < Config.uplinkCapacity) (hq : quiet now l.trunk = false) :
    l.offerUplink now f r = { l with uplink := l.uplink ++ [{ frame := f, isRestartReply := r }] } := by
  unfold Link.offerUplink Link.uplinkFull
  rw [if_neg (by simpa using hr), kickTrunk_noisy _ _ (by exact hq)]

/-- A frame offered to an uplink queue with room is appended (R179). -/
theorem offerUplink_uplink (now : Nat) (f : Frame) (r : Bool) (l : Link)
    (hr : l.uplink.length < Config.uplinkCapacity) :
    (l.offerUplink now f r).uplink = l.uplink ++ [{ frame := f, isRestartReply := r }] := by
  unfold Link.offerUplink Link.uplinkFull
  rw [if_neg (by simpa using hr)]
  simp

theorem offerUplink_trunkCount (now : Nat) (f : Frame) (r : Bool) (l : Link)
    (hr : l.uplink.length < Config.uplinkCapacity) : (l.offerUplink now f r).trunkCount = l.trunkCount := by
  unfold Link.offerUplink Link.uplinkFull
  rw [if_neg (by simpa using hr)]
  simp

/-- A frame offered to a full uplink queue is dropped and counted (R179). -/
theorem offerUplink_full (now : Nat) (f : Frame) (r : Bool) (l : Link) (hr : Config.uplinkCapacity ≤ l.uplink.length) :
    l.offerUplink now f r = l.countDropped := by
  unfold Link.offerUplink Link.uplinkFull
  rw [if_pos (by simpa using hr)]

/-- The uplink queue never grows past its size (R179). -/
theorem offerUplink_length (now : Nat) (f : Frame) (r : Bool) (l : Link)
    (h : l.uplink.length ≤ Config.uplinkCapacity) : (l.offerUplink now f r).uplink.length ≤ Config.uplinkCapacity := by
  unfold Link.offerUplink Link.uplinkFull
  split
  · exact h
  · rename_i k
    simp only [kickTrunk_uplink, List.length_append, List.length_cons, List.length_nil]
    simp only [decide_eq_true_eq] at k
    omega

@[simp] theorem offerUplink_relay (now : Nat) (f : Frame) (r : Bool) (l : Link) :
    (l.offerUplink now f r).relay = l.relay := by
  unfold Link.offerUplink; split <;> simp [Link.countDropped]
@[simp] theorem offerUplink_door (now : Nat) (f : Frame) (r : Bool) (l : Link) :
    (l.offerUplink now f r).door = l.door := by
  unfold Link.offerUplink; split <;> simp [Link.countDropped]
@[simp] theorem offerUplink_doorSide (now : Nat) (f : Frame) (r : Bool) (l : Link) :
    (l.offerUplink now f r).doorSide = l.doorSide := by
  unfold Link.offerUplink; split <;> simp [Link.countDropped]
@[simp] theorem offerUplink_flow (now : Nat) (f : Frame) (r : Bool) (l : Link) :
    (l.offerUplink now f r).flow = l.flow := by
  unfold Link.offerUplink; split <;> simp [Link.countDropped]
@[simp] theorem offerUplink_doorCount (now : Nat) (f : Frame) (r : Bool) (l : Link) :
    (l.offerUplink now f r).doorCount = l.doorCount := by
  unfold Link.offerUplink; split <;> simp [Link.countDropped]

/-- When a line is quiet, in the statements' words (R163). -/
theorem quiet_iff (p : PortState) (m : Nat) : quiet m p = true ↔ p.quietAt m := by
  unfold quiet PortState.quietAt
  cases p.lastChar <;> simp [and_assoc]

/-- With a frame at the head DOOR begins to send where the door side is FREE and the line quiet, and only then (R175). -/
theorem kickDoor_leaves (now : Nat) (l : Link) (hr : l.relay ≠ []) :
    (l.doorSide = .free ∧ l.door.quietAt now →
      (l.kickDoor now).doorSide = .sending ∧ (l.kickDoor now).door = { l.door with tx := .sending now }) ∧
    (¬(l.doorSide = .free ∧ l.door.quietAt now) →
      (l.kickDoor now).doorSide = l.doorSide ∧ (l.kickDoor now).door = l.door) := by
  rw [← quiet_iff]
  unfold Link.kickDoor
  constructor
  · rintro ⟨h1, h2⟩
    rw [if_pos (by simp [h1, h2, hr])]
    exact ⟨rfl, rfl⟩
  · intro h
    rw [if_neg (fun k => by simp at k; exact h ⟨k.1.2, k.1.1⟩)]
    exact ⟨rfl, rfl⟩

/-- Everything an offer to the uplink queue does, in the statements' words (R163, R179): `l` is the link it is made
to, `t` a state whose uplink side it leaves. -/
theorem offerUplink_offers (s t : State) (a : Frame) (l : Link) (m : Nat) (h1 : l.uplink = s.link.uplink)
    (h2 : l.trunkCount = s.link.trunkCount) (h3 : l.trunk = s.link.trunk)
    (e1 : t.link.uplink = (l.offerUplink m a false).uplink)
    (e2 : t.link.trunkCount = (l.offerUplink m a false).trunkCount)
    (e3 : t.link.trunk = (l.offerUplink m a false).trunk) (e4 : t.now = m) : OffersUplink s t a := by
  refine ⟨fun hu => ?_, fun hu => ?_⟩
  · have hr : l.uplink.length < Config.uplinkCapacity := by rw [h1]; show _ < 3; omega
    refine ⟨by rw [e1, offerUplink_uplink _ _ _ _ hr, h1], by rw [e2, offerUplink_trunkCount _ _ _ _ hr, h2],
      fun hq => ?_, fun hq => ?_⟩ <;> rw [e3] <;> rw [e4, ← quiet_iff] at hq <;>
      unfold Link.offerUplink Link.uplinkFull Link.kickTrunk
    · rw [if_neg (by simpa using hr), if_pos (by simp [h3, hq]), h3, e4]
    · rw [if_neg (by simpa using hr), if_neg (by simp [h3, hq]), h3]
  · have hf := offerUplink_full m a false l (by rw [h1, hu]; decide)
    rw [hf] at e1 e2 e3
    exact ⟨e1.trans h1, e3.trans h3, by rw [e2]; unfold Link.countDropped; rw [h2]; rfl⟩

/-- The end of an exchange while DOOR's line is not quiet: the head has left, the door side is FREE, the answer has
been offered (R176, R177). -/
theorem endExchange_noisy (g : GeneralParams) (now : Nat) (a : Frame) (l : Link) (h : RelayEntry)
    (rest : List RelayEntry) (hr : l.relay = h :: rest) (hq : quiet now l.door = false) :
    (l.endExchange g now a).relay = rest ∧ (l.endExchange g now a).doorSide = .free ∧
      (l.endExchange g now a).flow = (if rest.length ≤ g.relaylow then .flowOpen else l.flow) ∧
      (l.endExchange g now a).uplink = (l.offerUplink now a false).uplink ∧
      (l.endExchange g now a).trunkCount = (l.offerUplink now a false).trunkCount ∧
      (l.endExchange g now a).trunk = (l.offerUplink now a false).trunk ∧
      (l.endExchange g now a).doorCount = l.doorCount ∧ (l.endExchange g now a).door = l.door := by
  unfold Link.endExchange Link.freeDoor
  rw [kickDoor_noisy _ _ (by simpa using hq)]
  refine ⟨by simp [hr], by simp, ?_, by simp, by simp, by simp, by simp, by simp⟩
  simp [flowAfterRemoval_flow, hr]

/-! ### The link's part of the size invariant -/

/-- The sizes of the two queues, and a request at the head of an exchange (R172, R174, R179). -/
def Link.sized (l : Link) : Prop :=
  l.relay.length ≤ Config.relayCapacity ∧ l.uplink.length ≤ Config.uplinkCapacity ∧
    (l.doorSide ≠ .free → l.relay ≠ [])

theorem kickTrunk_sized (now : Nat) (l : Link) (h : l.sized) : (l.kickTrunk now).sized := by
  unfold Link.sized at *; simpa using h

theorem kickDoor_sized (now : Nat) (l : Link) (h : l.sized) : (l.kickDoor now).sized := by
  unfold Link.sized at *
  refine ⟨by simpa using h.1, by simpa using h.2.1, ?_⟩
  rw [kickDoor_relay]
  rcases kickDoor_doorSide now l with e | ⟨_, e⟩
  · rw [e]; exact h.2.2
  · exact fun _ => e

theorem offerUplink_sized (now : Nat) (f : Frame) (r : Bool) (l : Link) (h : l.sized) :
    (l.offerUplink now f r).sized :=
  ⟨by simpa using h.1, offerUplink_length now f r l h.2.1, by simpa using h.2.2⟩

theorem offerRelay_sized (g : GeneralParams) (now : Nat) (f : Frame) (l : Link) (h : l.sized) :
    (l.offerRelay g now f).sized := by
  unfold Link.offerRelay
  split
  · rename_i k
    refine kickDoor_sized _ _ ⟨?_, by simpa using h.2.1, by simp⟩
    simp only [flowAfterAppend_relay, List.length_append, List.length_cons, List.length_nil]
    exact k.2
  · split
    · exact offerUplink_sized _ _ _ _ h
    · exact h

theorem freeDoor_sized (g : GeneralParams) (now : Nat) (l : Link) (h : l.sized) : (l.freeDoor g now).sized := by
  unfold Link.freeDoor
  refine kickDoor_sized _ _ ⟨?_, by simpa using h.2.1, by simp⟩
  simp only [flowAfterRemoval_relay, List.length_tail]
  exact (Nat.sub_le _ _).trans h.1

theorem endExchange_sized (g : GeneralParams) (now : Nat) (a : Frame) (l : Link) (h : l.sized) :
    (l.endExchange g now a).sized :=
  freeDoor_sized _ _ _ (offerUplink_sized _ _ _ _ h)

theorem endWithNotice_sized (g : GeneralParams) (now : Nat) (r : Byte) (l : Link) (h : l.sized) :
    (l.endWithNotice g now r).sized := by
  unfold Link.endWithNotice
  split
  · exact freeDoor_sized _ _ _ h
  · exact endExchange_sized _ _ _ _ h

end Sys2Proof.Machine
end

