-- ==== Sys2Proof/Laws/Commands.lean ====
section
/-! SUPPORT. How a request that is heard is handled and answered, and what one step is. -/

namespace Sys2Proof.Machine

/-! ### The step -/

@[simp] theorem step_nil (s : State) (h : s.pending = []) : step s = .next s := by unfold step; rw [h]

theorem step_cons (c : Instr) (rest : List Instr) (s : State) :
    step (s.setPending (c :: rest)) = exec c (s.setPending rest) := rfl

/-- Every command answers a next state. -/
theorem exec_isNext (c : Instr) (s : State) : ∃ t, exec c s = .next t := by
  cases c <;> simp only [exec] <;>
    first
    | exact ⟨_, rfl⟩
    | (unfold execRakeleaveExpiry; split <;> exact ⟨_, rfl⟩)
    | (unfold execRakemaxExpiry; split <;> exact ⟨_, rfl⟩)
    | (unfold execBinwaitExpiry; split <;> exact ⟨_, rfl⟩)
    | (unfold execFtTrailExpiry; split <;> exact ⟨_, rfl⟩)
    | (unfold execResumeTimerExpiry; split <;> exact ⟨_, rfl⟩)
    | (unfold execPourmaxExpiry; split <;> exact ⟨_, rfl⟩)
    | (unfold execAugermaxExpiry; split <;> exact ⟨_, rfl⟩)
    | (unfold execFlapholdExpiry; split <;> exact ⟨_, rfl⟩)
    | (unfold execMeasureholdExpiry; split <;> exact ⟨_, rfl⟩)
    | (unfold execNoflowtimeExpiry; split <;> exact ⟨_, rfl⟩)
    | (unfold execChangeoverEnd; split <;> exact ⟨_, rfl⟩)
    | (unfold execHmsettleExpiry; split <;> exact ⟨_, rfl⟩)
    | (unfold execHmholdExpiry; split <;> exact ⟨_, rfl⟩)
    | (unfold execTrunkFrameSent; split <;> exact ⟨_, rfl⟩)
    | (unfold execDoorFrameSent; split <;> exact ⟨_, rfl⟩)
    | (unfold execDriverEnableRelease; split <;> exact ⟨_, rfl⟩)
    | (unfold execCollision; simp only []; split <;> exact ⟨_, rfl⟩)
    | (unfold execReplyWindowExpiry; split <;> exact ⟨_, rfl⟩)
    | (unfold execAgingTimerExpiry; split <;> [exact ⟨_, rfl⟩; (split <;> exact ⟨_, rfl⟩)])

/-! ### A request that is heard -/

@[simp] theorem State.atCommand_now (s : State) (dt : Nat) : (s.atCommand dt).now = s.now + dt := rfl
@[simp] theorem State.atCommand_mode (s : State) (dt : Nat) : (s.atCommand dt).mode = s.mode := rfl
@[simp] theorem State.atCommand_restartPending (s : State) (dt : Nat) :
    (s.atCommand dt).restartPending = s.restartPending := rfl
@[simp] theorem State.atCommand_ownAddress (s : State) (dt : Nat) : (s.atCommand dt).ownAddress = s.ownAddress := rfl
@[simp] theorem State.atCommand_tables (s : State) (dt : Nat) : (s.atCommand dt).tables = s.tables := rfl
@[simp] theorem State.atCommand_obs (s : State) (dt : Nat) : (s.atCommand dt).obs = s.obs := rfl
@[simp] theorem State.atCommand_temps (s : State) (dt : Nat) : (s.atCommand dt).temps = s.temps := rfl
@[simp] theorem State.atCommand_defrost (s : State) (dt : Nat) : (s.atCommand dt).defrost = s.defrost := rfl
@[simp] theorem State.atCommand_ice (s : State) (dt : Nat) : (s.atCommand dt).ice = s.ice := rfl
@[simp] theorem State.atCommand_disp (s : State) (dt : Nat) : (s.atCommand dt).disp = s.disp := rfl
@[simp] theorem State.atCommand_line (s : State) (dt : Nat) : (s.atCommand dt).line = s.line := rfl
@[simp] theorem State.atCommand_gate (s : State) (dt : Nat) : (s.atCommand dt).gate = s.gate := rfl
@[simp] theorem State.atCommand_inputs (s : State) (dt : Nat) : (s.atCommand dt).inputs = s.inputs := rfl
@[simp] theorem State.atCommand_pending (s : State) (dt : Nat) : (s.atCommand dt).pending = s.pending := rfl

theorem State.atCommand_link (s : State) (dt : Nat) :
    (s.atCommand dt).link = { s.link with trunk := { s.link.trunk with lastChar := some (s.now + dt) } } := rfl

/-- A request that TRUNK can take reaches the command handler at the end of its last character (R165). -/
theorem requestArrives_heard (s : State) (dt : Nat) (kind : Byte) (payload : List Byte) (h : s.hears)
    (hk : kind ≠ 0x7F#8) (hp : payload.length ≤ Config.maxPayload) :
    requestArrives dt kind payload s = handleCommand kind payload (s.atCommand dt) := by
  obtain ⟨htx, hrx, _⟩ := h
  have hc : ¬((s.advance dt).link.trunk.tx ≠ .idle ∨ Config.maxPayload < payload.length) := by
    rw [State.advance_link, htx]; simpa using hp
  have hi : ¬((s.atCommand dt).link.trunk.rx.inside = true) := by
    show ¬(s.link.trunk.rx.inside = true)
    simp [Rx.inside, hrx]
  unfold requestArrives
  rw [if_neg hc]
  show classifyTrunk (Frame.build (if (s.atCommand dt).link.trunk.rx.inside = true
      then markInside .trunk (s.atCommand dt) else s.atCommand dt).ownAddress kind payload)
    (if (s.atCommand dt).link.trunk.rx.inside = true then markInside .trunk (s.atCommand dt) else s.atCommand dt) = _
  rw [if_neg hi]
  unfold classifyTrunk
  exact (if_neg (c := (Frame.build (s.atCommand dt).ownAddress kind payload).kind = 127#8) hk).trans (if_pos rfl)

/-- Status Read is carried out while Restart is pending (R195). -/
@[simp] theorem actsWhilePending_status (payload : List Byte) : actsWhilePending 1#8 payload = true := by
  cases payload <;> rfl

/-- Of the job commands DEFROST ABORT alone may act while Restart is pending (R39, R195; log 31). -/
@[simp] theorem actsWhilePending_job (code : Byte) (args : List Byte) :
    actsWhilePending 4#8 (code :: args) = (code = 2#8 && Config.abortActsWhilePending args) := by
  simp [actsWhilePending]

/-- A command that is neither Status Read nor a Job Command is lost while Restart is pending (R195). -/
theorem actsWhilePending_other (kind : Byte) (payload : List Byte) (hs : kind ≠ 1#8) (hj : kind ≠ 4#8) :
    actsWhilePending kind payload = false := by
  cases payload <;> simp [actsWhilePending, hs, hj]

/-- While Restart is not pending a command is carried out (R195). -/
theorem handleCommand_free (kind : Byte) (payload : List Byte) (s : State) (h : s.restartPending = false) :
    handleCommand kind payload s = runCommand kind payload s := by
  unfold handleCommand; simp [h]

/-- What is not carried out while Restart is pending is lost (R195). -/
theorem handleCommand_lost (kind : Byte) (payload : List Byte) (s : State) (h : s.restartPending = true)
    (hk : actsWhilePending kind payload = false) : handleCommand kind payload s = s := by
  unfold handleCommand; simp [h, hk]

/-- What is carried out while Restart is pending is carried out in the ordinary way (R39, R195). -/
theorem handleCommand_acts (kind : Byte) (payload : List Byte) (s : State) (hk : actsWhilePending kind payload = true) :
    handleCommand kind payload s = runCommand kind payload s := by
  unfold handleCommand; simp [hk]

/-- A reply offered at the end of the request's last character waits in the uplink queue: TRUNK is not yet quiet. -/
theorem answer_noisy (kind : Byte) (r : CommandResult) (hq : r.1.link.trunk.lastChar = some r.1.now)
    (hr : r.1.link.uplink.length < Config.uplinkCapacity) :
    answer kind r = r.1.setLink { r.1.link with
      uplink := r.1.link.uplink ++ [{ frame := r.1.reply kind r.2, isRestartReply := false }] } := by
  unfold answer
  rw [offerUplink_noisy _ _ _ _ hr (quiet_of_justHeard _ _ hq)]

/-- A command that leaves the link, the clock and the own address is answered by one more frame in the uplink queue. -/
theorem answer_heard (s : State) (dt : Nat) (kind : Byte) (r : CommandResult) (h : s.hears)
    (hl : r.1.link = (s.atCommand dt).link) (hn : r.1.now = s.now + dt) (ho : r.1.ownAddress = s.ownAddress) :
    answer kind r = r.1.setLink (s.repliedLink dt (replyKind kind) r.2) := by
  obtain ⟨_, _, hu⟩ := h
  rw [answer_noisy]
  · unfold State.reply State.repliedLink
    rw [hl, ho]
    rfl
  · rw [hl, hn]; rfl
  · rw [hl]; exact hu

/-- A command that changes nothing is answered and no more. -/
theorem answer_unchanged (s : State) (dt : Nat) (kind : Byte) (data : List Byte) (h : s.hears) :
    answer kind (s.atCommand dt, data) = s.replied dt (replyKind kind) data := by
  rw [answer_heard s dt kind (s.atCommand dt, data) h rfl rfl rfl]
  rfl

/-- A request that is heard while Restart is not pending is carried out. -/
theorem requestArrives_run (s : State) (dt : Nat) (kind : Byte) (payload : List Byte) (h : s.hears)
    (hk : kind ≠ 0x7F#8) (hp : payload.length ≤ Config.maxPayload) (hr : s.restartPending = false) :
    requestArrives dt kind payload s = runCommand kind payload (s.atCommand dt) := by
  rw [requestArrives_heard s dt kind payload h hk hp, handleCommand_free]
  exact hr

/-- A job command without arguments that is heard is carried out and answered (R190). -/
theorem requestArrives_job (s : State) (dt : Nat) (code : Byte) (job : State → CommandResult) (h : s.hears)
    (hr : s.restartPending = false) (hj : jobCommand [code] (s.atCommand dt) = job (s.atCommand dt)) :
    requestArrives dt 4#8 [code] s = answer 4#8 (job (s.atCommand dt)) := by
  rw [requestArrives_run s dt _ _ h (by decide) (by simp [Config.maxPayload]) hr]
  show answer 4#8 (jobCommand [code] (s.atCommand dt)) = _
  rw [hj]

/-- A command that is lost while Restart is pending moves the clock and TRUNK's last character alone (R195). -/
theorem requestArrives_lost (s : State) (dt : Nat) (kind : Byte) (payload : List Byte) (h : s.hears)
    (hk : kind ≠ 0x7F#8) (hp : payload.length ≤ Config.maxPayload) (hr : s.restartPending = true)
    (ha : actsWhilePending kind payload = false) : requestArrives dt kind payload s = s.atCommand dt := by
  rw [requestArrives_heard s dt kind payload h hk hp]
  exact handleCommand_lost _ _ _ hr ha

/-- A DEFROST ABORT that is heard while Restart is pending is carried out or lost (R39, R195; log 31). -/
theorem requestArrives_abort_pending (s : State) (dt : Nat) (args : List Byte) (h : s.hears)
    (hp : args.length ≤ 23) (hr : s.restartPending = true) :
    requestArrives dt 4#8 (2#8 :: args) s =
      if Config.abortActsWhilePending args = true then answer 4#8 (jobCommand (2#8 :: args) (s.atCommand dt))
      else s.atCommand dt := by
  have hl : (2#8 :: args).length ≤ Config.maxPayload := by simp [Config.maxPayload]; omega
  split
  next ha =>
    rw [requestArrives_heard s dt _ _ h (by decide) hl, handleCommand_acts _ _ _ (by simpa using ha)]
    rfl
  next ha => exact requestArrives_lost s dt _ _ h (by decide) hl hr (by simpa using ha)

end Sys2Proof.Machine
end

