-- ==== Sys2Proof/Laws/Curves.lean ====
section
/-! SUPPORT. Which point of a curve fails first, and which channel's curve refuses an Arm. -/

namespace Sys2Proof.Machine

/-- The first failing point is the first whose step fails, counted from `i` (R140). -/
theorem firstFailingFrom_eq_some (rising : Bool) (i : Nat) (p : CurvePoint) (qs : List CurvePoint) (k : Nat) :
    firstFailingFrom rising i p qs = some k ↔ i ≤ k ∧ ∃ h : k - i < qs.length,
      stepFails rising ((p :: qs)[k - i]'(by simp only [List.length_cons]; omega)) qs[k - i] = true ∧
      ∀ j, (hj : i ≤ j) → (hk : j < k) →
        stepFails rising ((p :: qs)[j - i]'(by simp only [List.length_cons]; omega)) (qs[j - i]'(by omega)) = false := by
  induction qs generalizing i p with
  | nil => simp [firstFailingFrom]
  | cons q qs ih =>
    unfold firstFailingFrom
    split
    · rename_i hs
      constructor
      · intro e
        obtain rfl := Option.some.inj e
        exact ⟨Nat.le_refl _, by simp, by simpa using hs, fun j h1 h2 => by omega⟩
      · rintro ⟨h1, h2, h3, h4⟩
        by_cases hk : k = i
        · rw [hk]
        · have := h4 i (Nat.le_refl _) (by omega)
          simp [hs] at this
    · rename_i hs
      rw [ih]
      constructor
      · rintro ⟨h1, h2, h3, h4⟩
        refine ⟨by omega, by simp only [List.length_cons]; omega, ?_, fun j hj hk => ?_⟩
        · have e : k - i = k - (i + 1) + 1 := by omega
          simp only [e, List.getElem_cons_succ]; exact h3
        · by_cases hji : j = i
          · subst hji; simpa using hs
          · have e : j - i = j - (i + 1) + 1 := by omega
            simp only [e, List.getElem_cons_succ]; exact h4 j (by omega) hk
      · rintro ⟨h1, h2, h3, h4⟩
        have hki : k ≠ i := by rintro rfl; simp at h3; simp [h3] at hs
        have e : k - i = k - (i + 1) + 1 := by omega
        refine ⟨by omega, by simp only [List.length_cons] at h2; omega, ?_, fun j hj hk => ?_⟩
        · simp only [e, List.getElem_cons_succ] at h3; exact h3
        · have e2 : j - i = j - (i + 1) + 1 := by omega
          have := h4 j (by omega) hk
          simp only [e2, List.getElem_cons_succ] at this; exact this

/-- No point fails where no step does (R140). -/
theorem firstFailingFrom_eq_none (rising : Bool) (i : Nat) (p : CurvePoint) (qs : List CurvePoint) :
    firstFailingFrom rising i p qs = none ↔ ∀ j, (hj : j < qs.length) →
      stepFails rising ((p :: qs)[j]'(by simp only [List.length_cons]; omega)) qs[j] = false := by
  induction qs generalizing i p with
  | nil => simp [firstFailingFrom]
  | cons q qs ih =>
    unfold firstFailingFrom
    split
    · rename_i hs
      constructor
      · intro e; cases e
      · intro h; have := h 0 (by simp); simp [hs] at this
    · rename_i hs
      rw [ih]
      constructor
      · intro h j hj
        cases j with
        | zero => simpa using hs
        | succ j => exact h j (by simpa using hj)
      · intro h j hj
        exact h (j + 1) (by simpa using hj)

/-- The channels whose curve is none or valid do not refuse an Arm (R192). -/
theorem curveFault_append (t : Tables) (before after : List Chan)
    (h : ∀ c ∈ before, (t.chanMap.get c).sel = .noCurve ∨ curveValid (t.curve (t.chanMap.get c).sel) = true) :
    curveFault t (before ++ after) = curveFault t after := by
  induction before with
  | nil => rfl
  | cons c cs ih =>
    have hr := ih (fun x hx => h x (List.mem_cons_of_mem _ hx))
    have hc := h c List.mem_cons_self
    rw [List.cons_append, ← hr]
    conv_lhs => unfold curveFault
    cases hs : (t.chanMap.get c).sel with
    | noCurve => rfl
    | curveA =>
      have hv : firstFailing t.curveA = none := by rw [hs] at hc; simpa [curveValid, Tables.curve] using hc
      simp only [hv]; rfl
    | curveB =>
      have hv : firstFailing t.curveB = none := by rw [hs] at hc; simpa [curveValid, Tables.curve] using hc
      simp only [hv]; rfl

end Sys2Proof.Machine
end

