-- ==== Sys2Proof/Laws/Grants.lean ====
section
/-! SUPPORT. A granting pass that grants the head of the wait list and stops, a request that is GRANTED in its own
event, and HM after it. -/

namespace Sys2Proof.Machine

/-- A pass that grants the head, where the entry behind it does not fit (R125). -/
theorem passAndSettle_head (w : WaitEntry) (ws : List WaitEntry) (s : State) (hw : s.gate.wait = w :: ws)
    (hf : s.gate.weightInUse w.out ≤ s.gate.budgetFree)
    (hb : ∀ x xs, (grantHead w ws s).gate.wait = x :: xs →
      (grantHead w ws s).gate.budgetFree < (grantHead w ws s).gate.weightInUse x.out) :
    passAndSettle s = settleHm (grantHead w ws s) := by
  unfold passAndSettle
  rw [hw]
  show settleHm (grantingPass (ws.length + 1) s) = _
  unfold grantingPass
  rw [hw]
  simp only
  rw [if_pos hf]
  exact congrArg settleHm (grantingPass_blocked _ (grantHead w ws s) hb)

/-- A pass over a blocked list grants nothing. -/
theorem passAndSettle_blocked (s : State)
    (h : ∀ w ws, s.gate.wait = w :: ws → s.gate.budgetFree < s.gate.weightInUse w.out) :
    passAndSettle s = settleHm s := by
  unfold passAndSettle; rw [grantingPass_blocked _ s h]

/-- A request that finds an empty wait list and room is GRANTED in its event (R122, R125). -/
theorem requestOutput_alone (o : Gated) (s : State) (hr : s.gate.reqState o = .noRequest) (hw : s.gate.wait = [])
    (hf : s.gate.weightInUse o ≤ s.gate.budgetFree) :
    requestOutput o s =
      settleHm (ownerTold o (s.setGate { s.gate with granted := s.gate.granted.set o true, wait := [] })) := by
  unfold requestOutput
  rw [hr]
  simp only [hw, joinWait]
  rw [passAndSettle_head _ [] _ rfl hf]
  · rfl
  · intro x xs h
    have := grantHead_wait_subset (ws := []) _ _ rfl x (by rw [h]; exact List.mem_cons_self)
    rcases grantHead_gate _ [] _ with e | ⟨_, _, e⟩ <;> rw [e] at h <;> simp [leaveWait] at h

/-- HM settles to nothing new where it already follows the heaters, and a heat that is on has begun. -/
theorem settleHm_still (s : State)
    (h1 : s.gate.heaterGranted = true → s.gate.hm = .hmClosed ∨ ∃ m, s.gate.hm = .hmClosing m)
    (h2 : s.gate.hm = .hmClosed → s.gate.heaterGranted = true)
    (h3 : s.defrost.st = .heat → s.gate.heaterOn .dh = true → s.defrost.heatBegun = true) : settleHm s = s := by
  have hm : settledHm s = s.gate.hm := by
    unfold settledHm
    split <;> first | rfl | skip
    · rename_i e g; rcases h1 g with k | ⟨m, k⟩ <;> rw [e] at k <;> cases k
    · rename_i e g; rcases h1 g with k | ⟨m, k⟩ <;> rw [e] at k <;> cases k
    · rename_i e g; rw [h2 e] at g; cases g
  unfold settleHm
  rw [hm]
  show markHeatBegun s = s
  unfold markHeatBegun
  split
  · rename_i c
    have := h3 c.1 c.2
    show ({ s with defrost := { s.defrost with heatBegun := true } } : State) = s
    rw [← this]
  · rfl

/-- HM after an event in which a heater has been GRANTED is the table of R130. -/
theorem settledHm_granted (s t : State) (hg : t.gate.heaterGranted = true) (hh : t.gate.hm = s.gate.hm)
    (ht : t.tables = s.tables) : settledHm t = s.hmOnGrant t.now := by
  unfold settledHm State.hmOnGrant State.afterMs
  rw [hg, hh, ht]
  cases s.gate.hm <;> rfl

end Sys2Proof.Machine
end

