-- ==== Sys2Proof/Laws/Receiver.lean ====
section
/-! SUPPORT. What the completion of a frame comes to, and of a frame that no route entry matches, one alone,
several, or any number. -/

namespace Sys2Proof.Machine

/-- The check character at TRUNK's receiver completes the frame there (R161, R162). -/
theorem trunkFrameReceived_completes (s : State) (dt : Nat) (f : Frame) (htx : s.link.trunk.tx = .idle)
    (hrx : s.link.trunk.rx = .atCheck f.lead f.kind f.payload) :
    exec (.trunkFrameReceived dt f.check) s = .next (frameComplete .trunk f ((s.advance dt).charEnded .trunk)) := by
  show Host.Outcome.next _ = _
  congr 1
  simp only [State.advance_link, hrx, Rx.isAtCheck, ↓reduceIte]
  unfold receiveChar
  rw [if_neg (by simp [htx])]
  simp only [Bool.false_eq_true, ↓reduceIte]
  unfold unmarkedChar
  have h2 : (((s.advance dt).charEnded Port.trunk).link.port .trunk).rx = .atCheck f.lead f.kind f.payload := hrx
  rw [h2]

/-- The same at DOOR. -/
theorem doorFrameReceived_completes (s : State) (dt : Nat) (f : Frame) (htx : s.link.door.tx = .idle)
    (hrx : s.link.door.rx = .atCheck f.lead f.kind f.payload) :
    exec (.doorFrameReceived dt f.check) s = .next (frameComplete .door f ((s.advance dt).charEnded .door)) := by
  show Host.Outcome.next _ = _
  congr 1
  simp only [State.advance_link, hrx, Rx.isAtCheck, ↓reduceIte]
  unfold receiveChar
  rw [if_neg (by simp [htx])]
  simp only [Bool.false_eq_true, ↓reduceIte]
  unfold unmarkedChar
  have h2 : (((s.advance dt).charEnded Port.door).link.port .door).rx = .atCheck f.lead f.kind f.payload := hrx
  rw [h2]

/-- No matching entry decides the fate of a frame that none matches (R166). -/
theorem decidingAction_noHits (p : Port) (f : Frame) (r : List RouteEntry) (h : ∀ e ∈ r, e.hits p f = false) :
    decidingAction p f r = none := by
  unfold decidingAction
  rw [Option.map_eq_none_iff, List.find?_eq_none]
  intro e he
  simp [h e he]

theorem decodesFrom_noHits (p : Port) (f : Frame) (r : List RouteEntry) (h : ∀ e ∈ r, e.hits p f = false) (i : Nat) :
    decodesFrom p f i r = [] := by
  induction r generalizing i with
  | nil => rfl
  | cons e es ih =>
    unfold decodesFrom
    rw [h e List.mem_cons_self]
    exact ih (fun x hx => h x (List.mem_cons_of_mem _ hx)) (i + 1)

/-- A frame that no entry matches gives no observation (R151). -/
theorem takeObservations_noHits (p : Port) (f : Frame) (s : State) (h : ∀ e ∈ s.tables.route, e.hits p f = false) :
    takeObservations p f s = s := by
  unfold takeObservations
  rw [decodesFrom_noHits p f _ h]
  rfl

/-! ### A frame that one entry alone matches -/

/-- One entry matches a frame: it decides alone, but for NOTE ONLY (R166). -/
theorem decidingAction_oneHit (p : Port) (f : Frame) (before after : List RouteEntry) (e : RouteEntry)
    (h : ∀ x ∈ before ++ after, x.hits p f = false) (he : e.hits p f = true) :
    decidingAction p f (before ++ e :: after) = if e.action = .noteOnly then none else some e.action := by
  have h1 : ∀ x ∈ before, x.hits p f = false := fun x hx => h x (List.mem_append_left _ hx)
  have h2 : ∀ x ∈ after, x.hits p f = false := fun x hx => h x (List.mem_append_right _ hx)
  unfold decidingAction
  rw [List.find?_append, List.find?_eq_none.mpr (fun x hx => by simp [h1 x hx]), Option.none_or, List.find?_cons]
  by_cases ha : e.action = .noteOnly
  · simp only [ha, he, ne_eq, not_true_eq_false, decide_false, Bool.and_false]
    rw [List.find?_eq_none.mpr (fun x hx => by simp [h2 x hx])]
    rfl
  · simp [ha, he]

theorem decodesFrom_missed (p : Port) (f : Frame) (b : RouteEntry) (bs : List RouteEntry) (i : Nat)
    (h : b.hits p f = false) : decodesFrom p f i (b :: bs) = decodesFrom p f (i + 1) bs := by
  conv_lhs => unfold decodesFrom
  rw [h]

theorem decodesFrom_append (p : Port) (f : Frame) (before : List RouteEntry) (r : List RouteEntry)
    (h : ∀ x ∈ before, x.hits p f = false) (i : Nat) :
    decodesFrom p f i (before ++ r) = decodesFrom p f (i + before.length) r := by
  induction before generalizing i with
  | nil => rfl
  | cons b bs ih =>
    rw [List.cons_append, decodesFrom_missed p f b _ i (h b List.mem_cons_self),
      ih (fun x hx => h x (List.mem_cons_of_mem _ hx)) (i + 1), List.length_cons, Nat.add_assoc, Nat.add_comm 1]

/-- The observation of a frame that one entry alone matches (R151, R155). -/
theorem decodesFrom_oneHit (p : Port) (f : Frame) (before after : List RouteEntry) (e : RouteEntry)
    (h : ∀ x ∈ before ++ after, x.hits p f = false) (he : e.hits p f = true) :
    decodesFrom p f 0 (before ++ e :: after) =
      match e.kind.bind (fun k => (decodeValue e f.payload k).map (fun v => (k, v, before.length))) with
      | some d => [d]
      | none => [] := by
  rw [decodesFrom_append p f before _ (fun x hx => h x (List.mem_append_left _ hx)), Nat.zero_add]
  have hr := decodesFrom_noHits p f after (fun x hx => h x (List.mem_append_right _ hx)) (before.length + 1)
  unfold decodesFrom
  rw [he]
  cases hk : e.kind with
  | none => exact hr
  | some k =>
    dsimp only [Option.bind_some]
    cases hv : decodeValue e f.payload k with
    | none => exact hr
    | some v => dsimp only [Option.map_some]; rw [hr]

/-- The consumers do nothing while no pour or delivery is under way (R148). -/
theorem consumersAct_atRest (u : List ObsKind) (s : State) (h1 : s.disp.st ≠ .pour) (h2 : s.disp.st ≠ .deliver) :
    consumersAct u s = s := by
  unfold consumersAct doorOpened
  split
  · split <;> first | rfl | (rename_i x; first | exact absurd x h1 | exact absurd x h2)
  · rfl

/-- A frame whose one matching entry lifts nothing gives no observation (R151). -/
theorem takeObservations_oneMiss (p : Port) (f : Frame) (s : State) (before after : List RouteEntry) (e : RouteEntry)
    (hr : s.tables.route = before ++ e :: after)
    (h : ∀ x ∈ before ++ after, x.hits p f = false) (he : e.hits p f = true)
    (hm : e.kind = none ∨ ∃ k, e.kind = some k ∧ decodeValue e f.payload k = none) : takeObservations p f s = s := by
  unfold takeObservations
  rw [hr, decodesFrom_oneHit p f before after e h he]
  rcases hm with hm | ⟨k, hk, hv⟩
  · rw [hm]; rfl
  · rw [hk, Option.bind_some, hv]; rfl

/-- A frame whose one matching entry lifts a value updates that one entry, while no pour or delivery is under way
(R148, R151). -/
theorem takeObservations_oneHit (p : Port) (f : Frame) (s : State) (before after : List RouteEntry) (e : RouteEntry)
    (k : ObsKind) (v : Nat) (hr : s.tables.route = before ++ e :: after)
    (h : ∀ x ∈ before ++ after, x.hits p f = false) (he : e.hits p f = true)
    (hk : e.kind = some k) (hv : decodeValue e f.payload k = some v)
    (hm : k = .measure → s.disp.measured = .inactive) (h1 : s.disp.st ≠ .pour) (h2 : s.disp.st ≠ .deliver) :
    takeObservations p f s = s.setObs (s.obs.set k
      { value := v, st := .fresh, age := 0, source := .route before.length, ageAt := s.now + Config.tickSecond }) := by
  have hu : s.updateHeld k = false := by
    unfold State.updateHeld
    by_cases hk2 : k = .measure
    · simp [hm hk2]
    · simp [hk2]
  unfold takeObservations
  rw [hr, decodesFrom_oneHit p f before after e h he, hk, Option.bind_some, hv]
  show consumersAct [k] (updateObs k v (.route before.length) s) = _
  unfold updateObs
  rw [hu, if_neg Bool.false_ne_true]
  exact consumersAct_atRest _ _ h1 h2

/-! ### A frame that several entries match -/

/-- A frame's fate is the first matching entry's that decides, however many match (R166). -/
theorem decidingAction_first (p : Port) (f : Frame) (before after : List RouteEntry) (e : RouteEntry)
    (h : ∀ x ∈ before, x.hits p f = true → x.action = .noteOnly) (he : e.hits p f = true) (ha : e.action ≠ .noteOnly) :
    decidingAction p f (before ++ e :: after) = some e.action := by
  unfold decidingAction
  rw [List.find?_append, List.find?_eq_none.mpr (fun x hx => by
      cases hb : x.hits p f <;> simp [h x hx, hb]), Option.none_or, List.find?_cons]
  simp [ha, he]

/-- Entries that only note decide nothing (R166). -/
theorem decidingAction_onlyNotes (p : Port) (f : Frame) (r : List RouteEntry)
    (h : ∀ x ∈ r, x.hits p f = true → x.action = .noteOnly) : decidingAction p f r = none := by
  unfold decidingAction
  rw [Option.map_eq_none_iff, List.find?_eq_none]
  intro e he
  cases hb : e.hits p f <;> simp [h e he, hb]

/-- A frame whose matching entries name no observation gives none (R151). -/
theorem decodesFrom_noKinds (p : Port) (f : Frame) (r : List RouteEntry)
    (h : ∀ x ∈ r, x.hits p f = true → x.kind = none) (i : Nat) : decodesFrom p f i r = [] := by
  induction r generalizing i with
  | nil => rfl
  | cons e es ih =>
    have hr := ih (fun x hx => h x (List.mem_cons_of_mem _ hx)) (i + 1)
    cases hb : e.hits p f with
    | false => rw [decodesFrom_missed p f e es i hb, hr]
    | true => unfold decodesFrom; rw [hb, h e List.mem_cons_self hb]; exact hr

theorem takeObservations_noKinds (p : Port) (f : Frame) (s : State)
    (h : ∀ x ∈ s.tables.route, x.hits p f = true → x.kind = none) : takeObservations p f s = s := by
  unfold takeObservations
  rw [decodesFrom_noKinds p f _ h]
  rfl

/-- A matching entry that lifts a value leads the decodes of the entries after it (R151). -/
theorem decodesFrom_lifts (p : Port) (f : Frame) (e : RouteEntry) (es : List RouteEntry) (i : Nat) (k : ObsKind)
    (he : e.hits p f = true) (hk : e.kind = some k) :
    decodesFrom p f i (e :: es) =
      (decodeValue e f.payload k).toList.map (fun v => (k, v, i)) ++ decodesFrom p f (i + 1) es := by
  conv_lhs => unfold decodesFrom
  rw [he, hk]
  dsimp only
  cases hv : decodeValue e f.payload k <;> rfl

/-- The decodes of a frame that two entries match, in index order (R151). -/
theorem decodesFrom_twoHits (p : Port) (f : Frame) (before mid after : List RouteEntry) (a b : RouteEntry)
    (k l : ObsKind) (h : ∀ x ∈ before ++ mid ++ after, x.hits p f = false) (ha : a.hits p f = true)
    (hb : b.hits p f = true) (hk : a.kind = some k) (hl : b.kind = some l) :
    decodesFrom p f 0 (before ++ a :: (mid ++ b :: after)) =
      (decodeValue a f.payload k).toList.map (fun v => (k, v, before.length)) ++
        (decodeValue b f.payload l).toList.map (fun v => (l, v, before.length + 1 + mid.length)) := by
  have h1 : ∀ x ∈ before, x.hits p f = false := fun x hx => h x (by simp [hx])
  have h2 : ∀ x ∈ mid, x.hits p f = false := fun x hx => h x (by simp [hx])
  have h3 : ∀ x ∈ after, x.hits p f = false := fun x hx => h x (by simp [hx])
  rw [decodesFrom_append p f before _ h1, decodesFrom_lifts p f a _ _ k ha hk, decodesFrom_append p f mid _ h2,
    decodesFrom_lifts p f b _ _ l hb hl, decodesFrom_noHits p f after h3, List.append_nil, Nat.zero_add]

/-- The observations of a frame that two entries match, while no pour or delivery is under way (R148, R151). -/
theorem takeObservations_twoHits (p : Port) (f : Frame) (s : State) (before mid after : List RouteEntry)
    (a b : RouteEntry) (k l : ObsKind) (hr : s.tables.route = before ++ a :: (mid ++ b :: after))
    (h : ∀ x ∈ before ++ mid ++ after, x.hits p f = false) (ha : a.hits p f = true) (hb : b.hits p f = true)
    (hk : a.kind = some k) (hl : b.kind = some l) (h1 : s.disp.st ≠ .pour) (h2 : s.disp.st ≠ .deliver) :
    takeObservations p f s =
      ((decodeValue b f.payload l).toList.foldl
        (fun t v => updateObs l v (.route (before.length + 1 + mid.length)) t)
        ((decodeValue a f.payload k).toList.foldl (fun t v => updateObs k v (.route before.length) t) s)) := by
  have hd : ∀ (k : ObsKind) (v : Nat) (src : ObsSource) (t : State), (updateObs k v src t).disp = t.disp := by
    intro k v src t; unfold updateObs; split <;> rfl
  unfold takeObservations
  rw [hr, decodesFrom_twoHits p f before mid after a b k l h ha hb hk hl]
  cases decodeValue a f.payload k <;> cases decodeValue b f.payload l <;>
    exact consumersAct_atRest _ _ (by simp [hd, h1]) (by simp [hd, h2])

/-! ### A frame that any number of entries match -/

/-- A matching entry that names no observation leaves the decodes to the entries after it (R151). -/
theorem decodesFrom_noKind (p : Port) (f : Frame) (e : RouteEntry) (es : List RouteEntry) (i : Nat)
    (hk : e.kind = none) : decodesFrom p f i (e :: es) = decodesFrom p f (i + 1) es := by
  conv_lhs => unfold decodesFrom
  rw [hk]
  cases e.hits p f <;> rfl

/-- An entry that misses, or names no observation, lifts nothing. -/
theorem ObsTable.lift_missed (p : Port) (f : Frame) (m : Nat) (held : Bool) (o : ObsTable) (x : RouteEntry × Nat)
    (h : x.1.hits p f = false ∨ x.1.kind = none) : o.lift p f m held x = o := by
  unfold ObsTable.lift
  rcases h with h | h <;> rw [h]
  cases x.1.hits p f <;> rfl

/-- An entry that matches and decodes lifts its value, MEASURE not while it is held (R148, R157). -/
theorem ObsTable.lift_hit (p : Port) (f : Frame) (m : Nat) (held : Bool) (o : ObsTable) (e : RouteEntry) (i : Nat)
    (k : ObsKind) (v : Nat) (he : e.hits p f = true) (hk : e.kind = some k) (hv : decodeValue e f.payload k = some v) :
    o.lift p f m held (e, i) = if k = .measure ∧ held = true then o else
      o.set k { value := v, st := .fresh, age := 0, source := .route i, ageAt := m + Config.tickSecond } := by
  unfold ObsTable.lift
  simp only [he, hk, hv]

/-- What an update does to the state, the held MEASURE among it (R148, R157). -/
theorem updateObs_eq (k : ObsKind) (v : Nat) (src : ObsSource) (s : State) :
    updateObs k v src s = s.setObs (if k = .measure ∧ decide (s.disp.measured ≠ .inactive) = true then s.obs else
      s.obs.set k { value := v, st := .fresh, age := 0, source := src, ageAt := s.now + Config.tickSecond }) := by
  unfold updateObs State.updateHeld
  by_cases h : k = .measure ∧ s.disp.measured ≠ .inactive
  · rw [if_pos (by simpa using h), if_pos (by simpa using h)]; rfl
  · rw [if_neg (by simpa using h), if_neg (by simpa using h)]

/-- The decodes of a frame, each applied in turn, leave the observations the matching entries lift, and nothing else. -/
theorem decodesFrom_foldl (p : Port) (f : Frame) (r : List RouteEntry) (i : Nat) (s : State) :
    (decodesFrom p f i r).foldl (fun t d => updateObs d.1 d.2.1 (.route d.2.2) t) s =
      s.setObs ((r.zipIdx i).foldl (ObsTable.lift p f s.now (s.disp.measured ≠ .inactive)) s.obs) := by
  induction r generalizing i s with
  | nil => rfl
  | cons e es ih =>
    rw [List.zipIdx_cons, List.foldl_cons]
    cases he : e.hits p f with
    | false => rw [decodesFrom_missed p f e es i he, ObsTable.lift_missed p f _ _ _ (e, i) (.inl he), ih]
    | true =>
      cases hk : e.kind with
      | none => rw [decodesFrom_noKind p f e es i hk, ObsTable.lift_missed p f _ _ _ (e, i) (.inr hk), ih]
      | some k =>
        rw [decodesFrom_lifts p f e es i k he hk]
        cases hv : decodeValue e f.payload k with
        | none =>
          have hl : s.obs.lift p f s.now (s.disp.measured ≠ .inactive) (e, i) = s.obs := by
            unfold ObsTable.lift; simp only [he, hk, hv]
          rw [hl]; exact ih (i + 1) s
        | some v =>
          rw [ObsTable.lift_hit p f _ _ _ e i k v he hk hv]
          show (decodesFrom p f (i + 1) es).foldl _ (updateObs k v (.route i) s) = _
          rw [updateObs_eq, ih]; rfl

/-- A frame's observations: what its matching entries lift, and then the consumers once (R148, R151). -/
theorem takeObservations_lifted (p : Port) (f : Frame) (s : State) :
    takeObservations p f s =
      consumersAct ((decodesFrom p f 0 s.tables.route).map (·.1)) (s.setObs (s.liftedObs p f s.now)) := by
  show consumersAct _ ((decodesFrom p f 0 s.tables.route).foldl _ s) = _
  rw [decodesFrom_foldl]; rfl

/-- The consumers do nothing where no pour or delivery is under way, or FZDOOR does not read open (R148). -/
theorem consumersAct_stands (u : List ObsKind) (s : State) (h : s.pourStands s.obs) : consumersAct u s = s := by
  rcases h with h | h
  · exact consumersAct_atRest u s h.1 h.2
  · unfold consumersAct State.doorReadsOpen
    rw [if_neg]
    unfold ObsEntry.readsOpen
    rcases h with h | h <;> simp [h]

/-- A frame's observations, where no pour or delivery ends by them. -/
theorem takeObservations_stands (p : Port) (f : Frame) (s : State) (h : s.pourStands (s.liftedObs p f s.now)) :
    takeObservations p f s = s.setObs (s.liftedObs p f s.now) := by
  rw [takeObservations_lifted, consumersAct_stands _ _ h]

/-- When a route entry matches (R166). -/
theorem hits_of (p : Port) (f : Frame) (e : RouteEntry) (h1 : e.valid = true) (h2 : e.direction = p)
    (h3 : e.address = none ∨ e.address = some f.lead) (h4 : e.kindLow.toNat ≤ f.kind.toNat)
    (h5 : f.kind.toNat ≤ e.kindHigh.toNat) : e.hits p f = true := by
  unfold RouteEntry.hits
  rcases h3 with h3 | h3 <;> simp [*]

end Sys2Proof.Machine
end

