-- ==== Sys2Proof/Laws/DoorOpens.lean ====
section
/-! SUPPORT. What the end of a pour and of a delivery leaves, and what a frame that lifts an open FZDOOR does. -/

namespace Sys2Proof.Machine

/-- A pour that leaves the line has closed WV, and the line goes to another use or to none (R46, R51). -/
theorem pourRelease_closes (s : State) (h : s.line.st = .pour) :
    (pourRelease s).line.st ≠ .pour ∧ (pourRelease s).line.lastClosed = some .wv ∧
      (pourRelease s).line.closeAt = s.now := by
  unfold pourRelease
  rw [h]
  dsimp only
  unfold handOn giveLineToIce
  split
  · split
    · refine ⟨by simp, ?_, ?_⟩ <;> simp [closeValve_line]
    · refine ⟨by simp [lineFilling], ?_, ?_⟩ <;> simp [lineFilling, closeValve_line]
  · split <;> refine ⟨by simp [closeValve_line], ?_, ?_⟩ <;> simp [closeValve_line]

/-- Everything the end of a pour leaves outside the jobs, and the dispenser's part of it (R106). -/
theorem endPour_leaves (st : DispState) (p : PressStanding) (s : State) :
    (endPour st p s).disp.st = st ∧ (endPour st p s).disp.press = p ∧ (endPour st p s).disp.pourAt = none ∧
      (s.line.st = .pour → (endPour st p s).line.st ≠ .pour ∧ (endPour st p s).line.lastClosed = some .wv ∧
        (endPour st p s).line.closeAt = s.now) ∧
      (endPour st p s).link = s.link ∧ (endPour st p s).now = s.now ∧ KeepsSenses s (endPour st p s) ∧
      KeepsSetup s (endPour st p s) := by
  unfold endPour
  rw [pauseMeasured_eq]
  refine ⟨rfl, rfl, rfl, pourRelease_closes s, ?_, ?_, ⟨?_, ?_, ?_⟩, ?_, ?_, ?_, ?_, ?_⟩ <;> simp

theorem deliveryReport_leaves (u : State) :
    (deliveryReport u).disp = u.disp ∧ (deliveryReport u).line = u.line ∧ (deliveryReport u).link = u.link ∧
      (deliveryReport u).now = u.now ∧ KeepsSenses u (deliveryReport u) ∧ KeepsSetup u (deliveryReport u) := by
  unfold deliveryReport
  split <;> exact ⟨rfl, rfl, rfl, rfl, ⟨rfl, rfl, rfl⟩, rfl, rfl, rfl, rfl, rfl⟩

/-- Everything the end of a delivery leaves outside the jobs, and the dispenser's part of it (R110, R111). -/
theorem endDelivery_leaves (p : PressStanding) (s : State) :
    (endDelivery p s).disp.st = (if s.disp.flap then .flaphold else .idle) ∧ (endDelivery p s).disp.press = p ∧
      (endDelivery p s).disp.augerAt = none ∧ (endDelivery p s).line = s.line ∧ (endDelivery p s).link = s.link ∧
      (endDelivery p s).now = s.now ∧ KeepsSenses s (endDelivery p s) ∧ KeepsSetup s (endDelivery p s) := by
  let s0 := s.setDisp { s.disp with
    st := if s.disp.flap then .flaphold else .idle
    flapAt := if s.disp.flap then some (s.afterSeconds s.tables.water.flaphold) else none
    augerAt := none, press := p }
  have hd : (giveUpOutput .am s0).disp = s0.disp :=
    giveUpOutput_disp _ _ (by show (if s.disp.flap then _ else _) ≠ _; split <;> simp)
  have e : endDelivery p s =
    if s.disp.delivered then deliveryReport (giveUpOutput .am s0) else giveUpOutput .am s0 := rfl
  rw [e]
  split
  · obtain ⟨a1, a2, a3, a4, ⟨b1, b2, b3⟩, k1, k2, k3, k4, k5⟩ := deliveryReport_leaves (giveUpOutput .am s0)
    rw [a1, a2, a3, a4, hd]
    refine ⟨rfl, rfl, rfl, ?_, ?_, ?_, ⟨b1.trans ?_, b2.trans ?_, b3.trans ?_⟩,
      k1.trans ?_, k2.trans ?_, k3.trans ?_, k4.trans ?_, k5.trans ?_⟩ <;> simp [s0]
  · rw [hd]
    refine ⟨rfl, rfl, rfl, ?_, ?_, ?_, ?_, ?_⟩ <;> simp [s0, KeepsSenses, KeepsSetup]

/-- Everything an opening of the freezer door does in a pour or a delivery (R106, R110). -/
theorem doorOpened_ends (u : State) (hd : u.disp.st = .pour ∨ u.disp.st = .deliver) :
    EndsByDoor u (doorOpened u) ∧ (doorOpened u).link = u.link ∧ (doorOpened u).now = u.now ∧
      KeepsSenses u (doorOpened u) ∧ KeepsSetup u (doorOpened u) := by
  rcases hd with hd | hd
  · have e : doorOpened u = endPour .idle .spent u := by unfold doorOpened; rw [hd]
    obtain ⟨a1, a2, a3, a4, a5, a6, a7, a8⟩ := endPour_leaves .idle .spent u
    rw [e]
    exact ⟨⟨a2, fun _ => ⟨a1, a3, fun hl => by rw [a6]; exact a4 hl⟩, fun k => (by rw [hd] at k; cases k)⟩,
      a5, a6, a7, a8⟩
  · have e : doorOpened u = endDelivery .spent u := by unfold doorOpened; rw [hd]
    obtain ⟨a1, a2, a3, a4, a5, a6, a7, a8⟩ := endDelivery_leaves .spent u
    rw [e]
    exact ⟨⟨a2, fun k => (by rw [hd] at k; cases k), fun _ => ⟨a1, a3, a4⟩⟩, a5, a6, a7, a8⟩

/-! ### A frame that lifts FZDOOR -/

/-- Where a matching entry lifts FZDOOR, FZDOOR is among the kinds the frame updates (R151). -/
theorem decodesFrom_liftsDoor (p : Port) (f : Frame) (r : List RouteEntry) (i : Nat)
    (h : ∃ e ∈ r, e.hits p f = true ∧ e.kind = some .fzdoor ∧ (decodeValue e f.payload .fzdoor).isSome = true) :
    ObsKind.fzdoor ∈ (decodesFrom p f i r).map (·.1) := by
  induction r generalizing i with
  | nil => obtain ⟨e, he, _⟩ := h; cases he
  | cons x xs ih =>
    obtain ⟨e, he, h1, h2, h3⟩ := h
    rcases List.mem_cons.mp he with rfl | he
    · obtain ⟨v, hv⟩ := Option.isSome_iff_exists.mp h3
      rw [decodesFrom_lifts p f e xs i _ h1 h2, hv]
      simp
    · have hr := ih (i + 1) ⟨e, he, h1, h2, h3⟩
      cases hx : x.hits p f with
      | false => rw [decodesFrom_missed p f x xs i hx]; exact hr
      | true =>
        cases hk : x.kind with
        | none => rw [decodesFrom_noKind p f x xs i hk]; exact hr
        | some k =>
          rw [decodesFrom_lifts p f x xs i _ hx hk, List.map_append]
          exact List.mem_append_right _ hr

/-- One entry's part leaves a FRESH FZDOOR FRESH (R148). -/
theorem ObsTable.lift_fresh (p : Port) (f : Frame) (m : Nat) (held : Bool) (o : ObsTable) (x : RouteEntry × Nat)
    (h : o.fzdoor.st = .fresh) : (o.lift p f m held x).fzdoor.st = .fresh := by
  unfold ObsTable.lift
  split
  · split
    · split
      · exact h
      · rename_i k _ _ _ _ _ _
        cases k <;> first | exact h | rfl
    · exact h
  · exact h

/-- Where a matching entry lifts FZDOOR it reads FRESH after the frame (R148). -/
theorem liftedFold_fresh (p : Port) (f : Frame) (r : List RouteEntry) (i m : Nat) (held : Bool) (o : ObsTable)
    (h : o.fzdoor.st = .fresh ∨
      ∃ e ∈ r, e.hits p f = true ∧ e.kind = some .fzdoor ∧ (decodeValue e f.payload .fzdoor).isSome = true) :
    ((r.zipIdx i).foldl (ObsTable.lift p f m held) o).fzdoor.st = .fresh := by
  induction r generalizing i o with
  | nil => rcases h with h | ⟨e, he, _⟩; exact h; cases he
  | cons x xs ih =>
    rw [List.zipIdx_cons, List.foldl_cons]
    refine ih _ _ ?_
    rcases h with h | ⟨e, he, h1, h2, h3⟩
    · exact .inl (ObsTable.lift_fresh p f m held o _ h)
    · rcases List.mem_cons.mp he with rfl | he
      · obtain ⟨v, hv⟩ := Option.isSome_iff_exists.mp h3
        refine .inl ?_
        unfold ObsTable.lift
        simp only [h1, h2, hv]
        simp
        rfl
      · exact .inr ⟨e, he, h1, h2, h3⟩

/-- A frame that lifts an open FZDOOR: its observations, and then the door's opening (R106, R110, R148). -/
theorem takeObservations_opens (p : Port) (f : Frame) (u : State) (hl : u.liftsDoor p f)
    (hv : (u.liftedObs p f u.now).fzdoor.value ≠ 0) :
    takeObservations p f u = doorOpened (u.setObs (u.liftedObs p f u.now)) := by
  have hf : (u.liftedObs p f u.now).fzdoor.st = .fresh := liftedFold_fresh p f _ 0 _ _ _ (.inr hl)
  rw [takeObservations_lifted]
  unfold consumersAct
  rw [if_pos]
  refine ⟨decodesFrom_liftsDoor p f _ 0 hl, ?_⟩
  show (u.liftedObs p f u.now).fzdoor.readsOpen = true
  unfold ObsEntry.readsOpen
  simp [hf, hv]

end Sys2Proof.Machine
end

