-- ==== Sys2Proof/Laws/Modes.lean ====
section
/-! SUPPORT. What stopping every job leaves (R193, R196). -/

namespace Sys2Proof.Machine

@[simp] theorem closeOpenValve_now (s : State) : (closeOpenValve s).now = s.now := by
  unfold closeOpenValve; split <;> rfl
@[simp] theorem closeOpenValve_mode (s : State) : (closeOpenValve s).mode = s.mode := by
  unfold closeOpenValve; split <;> rfl
@[simp] theorem closeOpenValve_restartPending (s : State) : (closeOpenValve s).restartPending = s.restartPending := by
  unfold closeOpenValve; split <;> rfl
@[simp] theorem closeOpenValve_ownAddress (s : State) : (closeOpenValve s).ownAddress = s.ownAddress := by
  unfold closeOpenValve; split <;> rfl
@[simp] theorem closeOpenValve_tables (s : State) : (closeOpenValve s).tables = s.tables := by
  unfold closeOpenValve; split <;> rfl
@[simp] theorem closeOpenValve_link (s : State) : (closeOpenValve s).link = s.link := by
  unfold closeOpenValve; split <;> rfl
@[simp] theorem closeOpenValve_obs (s : State) : (closeOpenValve s).obs = s.obs := by
  unfold closeOpenValve; split <;> rfl
@[simp] theorem closeOpenValve_temps (s : State) : (closeOpenValve s).temps = s.temps := by
  unfold closeOpenValve; split <;> rfl
@[simp] theorem closeOpenValve_defrost (s : State) : (closeOpenValve s).defrost = s.defrost := by
  unfold closeOpenValve; split <;> rfl
@[simp] theorem closeOpenValve_gate (s : State) : (closeOpenValve s).gate = s.gate := by
  unfold closeOpenValve; split <;> rfl
@[simp] theorem closeOpenValve_inputs (s : State) : (closeOpenValve s).inputs = s.inputs := by
  unfold closeOpenValve; split <;> rfl
@[simp] theorem closeOpenValve_pending (s : State) : (closeOpenValve s).pending = s.pending := by
  unfold closeOpenValve; split <;> rfl
@[simp] theorem closeOpenValve_ice_enabled (s : State) : (closeOpenValve s).ice.enabled = s.ice.enabled := by
  unfold closeOpenValve; split <;> rfl
@[simp] theorem closeOpenValve_ice_trayLoaded (s : State) : (closeOpenValve s).ice.trayLoaded = s.ice.trayLoaded := by
  unfold closeOpenValve; split <;> rfl
@[simp] theorem closeOpenValve_ice_faultCount (s : State) : (closeOpenValve s).ice.faultCount = s.ice.faultCount := by
  unfold closeOpenValve; split <;> rfl
@[simp] theorem closeOpenValve_ice_cycles (s : State) : (closeOpenValve s).ice.cycles = s.ice.cycles := by
  unfold closeOpenValve; split <;> rfl
@[simp] theorem closeOpenValve_disp_latched (s : State) : (closeOpenValve s).disp.latched = s.disp.latched := by
  unfold closeOpenValve; split <;> rfl
@[simp] theorem closeOpenValve_disp_target (s : State) : (closeOpenValve s).disp.target = s.disp.target := by
  unfold closeOpenValve; split <;> rfl
@[simp] theorem closeOpenValve_disp_adReverse (s : State) : (closeOpenValve s).disp.adReverse = s.disp.adReverse := by
  unfold closeOpenValve; split <;> rfl
@[simp] theorem closeOpenValve_line_fillTally (s : State) : (closeOpenValve s).line.fillTally = s.line.fillTally := by
  unfold closeOpenValve; split <;> rfl
@[simp] theorem closeOpenValve_line_pourTally (s : State) : (closeOpenValve s).line.pourTally = s.line.pourTally := by
  unfold closeOpenValve; split <;> rfl
@[simp] theorem closeOpenValve_line_flowk (s : State) : (closeOpenValve s).line.flowk = s.line.flowk := by
  unfold closeOpenValve; split <;> rfl
@[simp] theorem closeOpenValve_line_leak (s : State) : (closeOpenValve s).line.leak = s.line.leak := by
  unfold closeOpenValve; split <;> rfl
@[simp] theorem closeOpenValve_line_nosupply (s : State) : (closeOpenValve s).line.nosupply = s.line.nosupply := by
  unfold closeOpenValve; split <;> rfl
@[simp] theorem closeOpenValve_line_unclaimed (s : State) : (closeOpenValve s).line.unclaimed = s.line.unclaimed := by
  unfold closeOpenValve; split <;> rfl

theorem closeOpenValve_closed (s : State) :
    (s.line.st = .fill → (closeOpenValve s).line.lastClosed = some .iv ∧ (closeOpenValve s).line.closeAt = s.now) ∧
    (s.line.st = .pour → (closeOpenValve s).line.lastClosed = some .wv ∧ (closeOpenValve s).line.closeAt = s.now) := by
  unfold closeOpenValve
  constructor <;> intro h <;> rw [h] <;> exact ⟨rfl, rfl⟩

/-! ### Disarm -/

@[simp] theorem stopJobs_now (s : State) : (stopJobs s).now = s.now := by
  simp [stopJobs, disarmDefrost, emptyGate, disarmDisp, disarmIce, disarmLine]
@[simp] theorem stopJobs_mode (s : State) : (stopJobs s).mode = s.mode := by
  simp [stopJobs, disarmDefrost, emptyGate, disarmDisp, disarmIce, disarmLine]
@[simp] theorem stopJobs_restartPending (s : State) : (stopJobs s).restartPending = s.restartPending := by
  simp [stopJobs, disarmDefrost, emptyGate, disarmDisp, disarmIce, disarmLine]
@[simp] theorem stopJobs_ownAddress (s : State) : (stopJobs s).ownAddress = s.ownAddress := by
  simp [stopJobs, disarmDefrost, emptyGate, disarmDisp, disarmIce, disarmLine]
@[simp] theorem stopJobs_tables (s : State) : (stopJobs s).tables = s.tables := by
  simp [stopJobs, disarmDefrost, emptyGate, disarmDisp, disarmIce, disarmLine]
@[simp] theorem stopJobs_link (s : State) : (stopJobs s).link = s.link := by
  simp [stopJobs, disarmDefrost, emptyGate, disarmDisp, disarmIce, disarmLine]
@[simp] theorem stopJobs_obs (s : State) : (stopJobs s).obs = s.obs := by
  simp [stopJobs, disarmDefrost, emptyGate, disarmDisp, disarmIce, disarmLine]
@[simp] theorem stopJobs_temps (s : State) : (stopJobs s).temps = s.temps := by
  simp [stopJobs, disarmDefrost, emptyGate, disarmDisp, disarmIce, disarmLine]
@[simp] theorem stopJobs_inputs (s : State) : (stopJobs s).inputs = s.inputs := by
  simp [stopJobs, disarmDefrost, emptyGate, disarmDisp, disarmIce, disarmLine]
@[simp] theorem stopJobs_pending (s : State) : (stopJobs s).pending = s.pending := by
  simp [stopJobs, disarmDefrost, emptyGate, disarmDisp, disarmIce, disarmLine]

@[simp] theorem stopJobs_defrost (s : State) : (stopJobs s).defrost = s.defrost.disarmed := by
  simp [stopJobs, disarmDefrost, emptyGate, disarmDisp, disarmIce, disarmLine]

theorem stopJobs_gate (s : State) :
    (stopJobs s).gate = { s.gate with granted := .empty, wait := [], hm := .hmOpen } := by
  simp [stopJobs, disarmDefrost, emptyGate, disarmDisp, disarmIce, disarmLine]

theorem stopJobs_disp (s : State) :
    (stopJobs s).disp = { (closeOpenValve s).disp with
      st := .idle, press := if s.inputs.paddle then .spent else .noPress, pourAt := none, augerAt := none
      flapAt := none, measured := .inactive, pauseAt := none, flap := false } := by
  simp [stopJobs, disarmDefrost, emptyGate, disarmDisp, disarmIce, disarmLine]

theorem stopJobs_line (s : State) :
    (stopJobs s).line = { (closeOpenValve s).line with
      st := .idle, fillWaiting := false, fillSuspended := false } := by
  simp [stopJobs, disarmDefrost, emptyGate, disarmDisp, disarmIce, disarmLine]

theorem stopJobs_ice (s : State) :
    (stopJobs s).ice = { (closeOpenValve s).ice with
      st := .off, disablePending := false, retry := 0, cause := .noCause, belowtime := 0, freezetime := 0
      heatTime := 0, opened := false, rakeBegun := false, leftMark := false, resumeAt := none, trailAt := none
      binwaitAt := none, rakeleaveAt := none, rakemaxAt := none } := by
  simp [stopJobs, disarmDefrost, emptyGate, disarmDisp, disarmIce, disarmLine]

/-- A gate with nothing GRANTED and nothing waiting has no request. -/
theorem Gate.reqState_of_empty (g : Gate) (o : Gated) (h1 : g.granted = .empty) (h2 : g.wait = []) :
    g.reqState o = .noRequest := by
  rw [Gate.reqState_noRequest_iff]
  rintro (k | ⟨w, k, _⟩)
  · rw [h1] at k; simp at k
  · rw [h2] at k; simp at k

/-- The defrost controller after a stop is in ACCRUE with the threshold it had (R38). -/
theorem Defrost.disarmed_keeps (d : Defrost) :
    d.disarmed.st = .accrue ∧ d.disarmed.thr = d.thr ∧ d.disarmed.origin = d.origin := by
  unfold Defrost.disarmed
  split <;> first | exact ⟨rfl, rfl, rfl⟩ | (split <;> exact ⟨rfl, rfl, rfl⟩)

/-! ### Restart -/

/-- Every part of the state that Restart leaves (R196). -/
theorem restartEffect_keeps (s : State) :
    (restartEffect s).now = s.now ∧ (restartEffect s).ownAddress = s.ownAddress ∧
      (restartEffect s).tables = s.tables ∧ (restartEffect s).inputs = s.inputs ∧
      (restartEffect s).pending = s.pending := by
  unfold restartEffect restartJobs
  split <;> refine ⟨?_, ?_, ?_, ?_, ?_⟩ <;>
    simp [restartDisp, restartIce, restartLine, restartDefrost, emptyGate, disarmDisp, disarmIce, disarmLine]

theorem restartEffect_gate (s : State) :
    (restartEffect s).gate = { s.gate with granted := .empty, wait := [], hm := .hmOpen } := by
  unfold restartEffect restartJobs
  split <;>
    simp [restartDisp, restartIce, restartLine, restartDefrost, stopJobs_gate, emptyGate, disarmDisp, disarmIce,
      disarmLine]

theorem restartEffect_ice (s : State) :
    (restartEffect s).ice = { Ice.powerOn with enabled := s.ice.enabled, trayLoaded := s.ice.trayLoaded } := by
  unfold restartEffect restartJobs
  split <;>
    simp [restartDisp, restartIce, restartLine, restartDefrost, stopJobs_ice, emptyGate, disarmDisp, disarmIce,
      disarmLine]

theorem restartEffect_line (s : State) :
    ∃ l : Line, (restartEffect s).line = { Line.powerOn with
      flowk := s.tables.water.flowk, filterTotal := l.filterTotal, filterRemainder := l.filterRemainder
      filterState := l.filterState } := by
  unfold restartEffect restartJobs
  split
  · refine ⟨(stopJobs s).line, ?_⟩
    simp [restartDisp, restartIce, restartLine, restartDefrost]
  · refine ⟨(disarmLine s).line, ?_⟩
    simp [restartDisp, restartIce, restartLine, restartDefrost, emptyGate, disarmDisp, disarmIce, disarmLine]

theorem restartEffect_disp (s : State) :
    ∃ p : PressStanding, (restartEffect s).disp = { Disp.powerOn with press := p } := by
  unfold restartEffect restartJobs
  exact ⟨_, rfl⟩

theorem restartEffect_defrost (s : State) :
    (restartEffect s).defrost =
      if s.mode = .running then s.defrost.disarmed.restarted else { s.defrost with timeInDue := 0 } := by
  unfold restartEffect restartJobs
  split <;> rename_i h <;>
    simp [restartDisp, restartIce, restartLine, restartDefrost, emptyGate, disarmDisp, disarmIce, disarmLine, h]

end Sys2Proof.Machine
end

