-- ==== Sys2Proof/Laws/GateInv.lean ====
section
/-! SUPPORT. The gate's order (`State.gateInv`) through each operation of the gate. -/

namespace Sys2Proof.Machine

/-! ### The wait list -/

theorem joinWait_sorted (e : WaitEntry) (l : List WaitEntry) (h : l.Pairwise (fun x y => x.cls ≤ y.cls)) :
    (joinWait e l).Pairwise (fun x y => x.cls ≤ y.cls) := by
  induction l with
  | nil => simp [joinWait]
  | cons w ws ih =>
    have hw := List.pairwise_cons.mp h
    unfold joinWait
    split
    · rename_i hc
      refine List.pairwise_cons.mpr ⟨?_, ih hw.2⟩
      intro x hx
      rcases (mem_joinWait e x ws).mp hx with rfl | hx
      · exact hc
      · exact hw.1 x hx
    · rename_i hc
      refine List.pairwise_cons.mpr ⟨?_, h⟩
      intro x hx
      rcases List.mem_cons.mp hx with rfl | hx
      · omega
      · have := hw.1 x hx; omega

theorem leaveWait_sorted (o : Gated) (l : List WaitEntry) (h : l.Pairwise (fun x y => x.cls ≤ y.cls)) :
    (leaveWait o l).Pairwise (fun x y => x.cls ≤ y.cls) := h.filter _

theorem joinWait_places (e : WaitEntry) (l : List WaitEntry) (o : Gated) :
    ((joinWait e l).filter (fun w => w.out = o)).length =
      (l.filter (fun w => w.out = o)).length + if e.out = o then 1 else 0 := by
  induction l with
  | nil => unfold joinWait; by_cases h : e.out = o <;> simp [h]
  | cons w ws ih =>
    unfold joinWait
    split
    · by_cases h : w.out = o
      · simp only [List.filter_cons, h, decide_true, ↓reduceIte, List.length_cons, ih]; omega
      · simp only [List.filter_cons, h, decide_false, Bool.false_eq_true, ↓reduceIte, ih]
    · by_cases h : e.out = o
      · simp [List.filter_cons, h]
      · simp [List.filter_cons, h]

theorem places_zero (l : List WaitEntry) (o : Gated) (h : ∀ w ∈ l, w.out ≠ o) :
    (l.filter (fun w => w.out = o)).length = 0 := by
  rw [List.length_eq_zero_iff, List.filter_eq_nil_iff]
  intro w hw; simpa using h w hw

theorem places_le (l m : List WaitEntry) (o : Gated) (h : l.Sublist m) :
    (l.filter (fun w => w.out = o)).length ≤ (m.filter (fun w => w.out = o)).length := (h.filter _).length_le

theorem leaveWait_sublist (o : Gated) (l : List WaitEntry) : (leaveWait o l).Sublist l := List.filter_sublist

/-! ### One place at most -/

theorem Gate.apart_of_sublist {g k : Gate} {o : Gated} (h : g.apart o) (hg : k.granted.get o = true → g.granted.get o = true)
    (hw : k.wait.Sublist g.wait) : k.apart o :=
  ⟨fun e w m => h.1 (hg e) w (hw.subset m), (places_le _ _ o hw).trans h.2⟩

theorem grantHead_apart (w : WaitEntry) (ws : List WaitEntry) (s : State) (o : Gated) (h : s.gate.apart o)
    (hw : s.gate.wait = w :: ws) : (grantHead w ws s).gate.apart o := by
  have key : ∀ k : Gate, (k.granted.get o = true → s.gate.granted.get o = true ∨ w.out = o) → k.wait.Sublist ws →
      k.apart o := by
    intro k hk hs
    have h2 := h.2
    rw [hw] at h2
    constructor
    · intro e x hx hxo
      have hx2 : x ∈ ws := hs.subset hx
      rcases hk e with hg | hg
      · exact h.1 hg x (by rw [hw]; exact List.mem_cons_of_mem _ hx2) hxo
      · have : 0 < (ws.filter (fun w => decide (w.out = o))).length :=
          List.length_pos_of_mem (List.mem_filter.mpr ⟨hx2, by simpa using hxo⟩)
        simp only [List.filter_cons, hg, decide_true, ↓reduceIte, List.length_cons] at h2
        omega
    · refine (places_le _ _ o (hs.trans (List.sublist_cons_self w ws))).trans h2
  rcases grantHead_gate w ws s with e | ⟨he, _, e⟩
  · rw [e]
    refine key _ ?_ (List.Sublist.refl _)
    intro hg
    by_cases hwo : w.out = o
    · exact .inr hwo
    · left
      simp only [] at hg
      rwa [GrantSet.get_set_other _ _ (Ne.symm hwo)] at hg
  · rw [e]
    refine key _ ?_ (leaveWait_sublist _ _)
    intro hg
    by_cases hwo : w.out = o
    · exact .inr hwo
    · left
      simp only [] at hg
      by_cases ht : o = .th
      · subst ht; simp at hg
      · rwa [GrantSet.get_set_other _ _ ht, GrantSet.get_set_other _ _ (by rw [← he]; exact Ne.symm hwo)] at hg

theorem grantHead_sorted (w : WaitEntry) (ws : List WaitEntry) (s : State) (h : s.gate.sorted)
    (hw : s.gate.wait = w :: ws) : (grantHead w ws s).gate.sorted := by
  have h2 : ws.Pairwise (fun x y => x.cls ≤ y.cls) := by
    unfold Gate.sorted at h; rw [hw] at h; exact (List.pairwise_cons.mp h).2
  rcases grantHead_gate w ws s with e | ⟨_, _, e⟩ <;> unfold Gate.sorted <;> rw [e]
  · exact h2
  · exact leaveWait_sorted _ _ h2

/-! ### The pass and the settling of HM -/

/-- The part of the gate's order that a change of the grants must find: everything but HM. -/
def State.grantsInv (s : State) : Prop := s.gate.fits ∧ (∀ o, s.gate.apart o) ∧ s.gate.sorted

theorem grantingPass_grantsInv (n : Nat) (s : State) (h : s.grantsInv) : (grantingPass n s).grantsInv :=
  grantingPass_keeps State.grantsInv
    (fun t w ws ht hw hf => ⟨grantHead_fits w ws t ht.1 hf, fun o => grantHead_apart w ws t o (ht.2.1 o) hw,
      grantHead_sorted w ws t ht.2.2 hw⟩) n s h

/-- HM after it has been settled follows the heaters. -/
theorem settleHm_follows (s : State) :
    ((settleHm s).gate.heaterGranted = true →
      (settleHm s).gate.hm = .hmClosed ∨ ∃ m, (settleHm s).gate.hm = .hmClosing m) ∧
    ((settleHm s).gate.hm = .hmClosed → (settleHm s).gate.heaterGranted = true) ∧
    ((settleHm s).defrost.st = .heat → (settleHm s).gate.heaterOn .dh = true →
      (settleHm s).defrost.heatBegun = true) := by
  refine ⟨?_, ?_, ?_⟩
  · rw [settleHm_gate]
    intro h
    have hg : s.gate.heaterGranted = true := h
    simp only [settledHm, hg]
    cases s.gate.hm <;> simp
  · rw [settleHm_gate]
    intro h
    show s.gate.heaterGranted = true
    by_contra hg
    have hg : s.gate.heaterGranted = false := by simpa using hg
    simp only [settledHm, hg] at h
    cases hm : s.gate.hm <;> rw [hm] at h <;> simp at h
  · intro h1 h2
    unfold settleHm markHeatBegun at h1 h2 ⊢
    split
    · rfl
    · rename_i c
      rw [if_neg c] at h1 h2
      exact absurd ⟨h1, h2⟩ c

/-- A pass and the settling of HM put the gate in order. -/
theorem passAndSettle_gateInv (s : State) (h : s.grantsInv)
    (hd : s.defrost.st ≠ .heat → s.gate.reqState .dh = .noRequest) : (passAndSettle s).gateInv := by
  have k := grantingPass_grantsInv s.gate.wait.length s h
  have f := settleHm_follows (grantingPass s.gate.wait.length s)
  have g := settleHm_gate (grantingPass s.gate.wait.length s)
  have e : (passAndSettle s).defrost.st = s.defrost.st := by
    have d := congrArg Defrost.st (passAndSettle_frame s).defrost
    exact d
  refine ⟨?_, ?_, ?_, f.1, f.2.1, ?_, f.2.2⟩
  · unfold passAndSettle; rw [g]; exact k.1
  · intro o
    unfold passAndSettle State.apart; rw [g]; exact k.2.1 o
  · unfold passAndSettle Gate.sorted; rw [g]; exact k.2.2
  · rw [e]
    intro hne
    rw [Gate.reqState_noRequest_iff]
    exact passAndSettle_not_requested s .dh ((Gate.reqState_noRequest_iff _ _).mp (hd hne))

/-! ### Requests and givings up -/

theorem requestOutput_gateInv (o : Gated) (s : State) (h : s.gateInv) (ho : o = .dh → s.defrost.st = .heat) :
    (requestOutput o s).gateInv := by
  unfold requestOutput
  split
  · rename_i hn
    have hnr := (Gate.reqState_noRequest_iff _ _).mp hn
    apply passAndSettle_gateInv
    · refine ⟨h.1, fun p => ?_, joinWait_sorted _ _ h.2.2.1⟩
      constructor
      · intro hg w hw hwp
        rcases (mem_joinWait _ _ _).mp hw with rfl | hw
        · subst hwp; exact hnr (.inl hg)
        · exact (h.2.1 p).1 hg w hw hwp
      · show ((joinWait _ s.gate.wait).filter _).length ≤ 1
        rw [joinWait_places]
        by_cases hop : o = p
        · subst hop
          rw [places_zero _ _ (fun w hw hwo => hnr (.inr ⟨w, hw, hwo⟩))]
          exact ((Nat.zero_add _).trans (if_pos rfl)).le
        · rw [if_neg (show ¬(o = p) from hop)]
          exact (h.2.1 p).2
    · intro hne
      rw [Gate.reqState_noRequest_iff]
      have hd := (Gate.reqState_noRequest_iff _ _).mp (h.2.2.2.2.2.1 hne)
      rintro (k | ⟨x, hx, hxo⟩)
      · exact hd (.inl k)
      · rcases (mem_joinWait _ _ _).mp hx with rfl | hx
        · exact hne (ho hxo)
        · exact hd (.inr ⟨x, hx, hxo⟩)
  · exact h
  · exact h

/-- What a giving up must find: the gate in order, but for a DH that is the output given up. -/
theorem giveUpOutput_gateInv (o : Gated) (s : State) (h : s.grantsInv)
    (h1 : s.gate.heaterGranted = true → s.gate.hm = .hmClosed ∨ ∃ m, s.gate.hm = .hmClosing m)
    (h2 : s.gate.hm = .hmClosed → s.gate.heaterGranted = true)
    (h3 : s.defrost.st ≠ .heat → o = .dh ∨ s.gate.reqState .dh = .noRequest)
    (h4 : s.defrost.st = .heat → s.gate.heaterOn .dh = true → s.defrost.heatBegun = true) :
    (giveUpOutput o s).gateInv := by
  unfold giveUpOutput
  split
  · rename_i hn
    refine ⟨h.1, h.2.1, h.2.2, h1, h2, fun hne => ?_, h4⟩
    rcases h3 hne with rfl | h3
    · exact hn
    · exact h3
  · rename_i hn
    apply passAndSettle_gateInv
    · exact ⟨h.1, fun p => Gate.apart_of_sublist (h.2.1 p) id (leaveWait_sublist _ _), leaveWait_sorted _ _ h.2.2⟩
    · intro hne
      rw [Gate.reqState_noRequest_iff]
      rintro (k | ⟨x, hx, hxo⟩)
      · rcases h3 hne with rfl | h3
        · have := (Gate.reqState_waiting _ _ hn).1
          have k : s.gate.granted.get .dh = true := k
          rw [this] at k; simp at k
        · exact (Gate.reqState_noRequest_iff _ _).mp h3 (.inl k)
      · have hx := (mem_leaveWait _ _ _).mp hx
        rcases h3 hne with rfl | h3
        · exact hx.2 hxo
        · exact (Gate.reqState_noRequest_iff _ _).mp h3 (.inr ⟨x, hx.1, hxo⟩)
  · rename_i hn
    have hg := (Gate.reqState_granted_iff _ _).mp hn
    have hget : ∀ p, (s.gate.granted.set o false).get p = true → s.gate.granted.get p = true := by
      intro p k
      by_cases hp : p = o
      · subst hp; simp at k
      · rwa [GrantSet.get_set_other _ _ hp] at k
    apply passAndSettle_gateInv
    · exact ⟨(Gate.budgetInUse_withdraw_le _ _ _).trans h.1,
        fun p => Gate.apart_of_sublist (h.2.1 p) (hget p) (List.Sublist.refl _), h.2.2⟩
    · intro hne
      rw [Gate.reqState_noRequest_iff]
      rintro (k | ⟨x, hx, hxo⟩)
      · rcases h3 hne with rfl | h3
        · simp at k
        · exact (Gate.reqState_noRequest_iff _ _).mp h3 (.inl (hget _ k))
      · rcases h3 hne with rfl | h3
        · exact (h.2.1 .dh).1 hg x hx hxo
        · exact (Gate.reqState_noRequest_iff _ _).mp h3 (.inr ⟨x, hx, hxo⟩)

/-- A giving up of an output that is not DH. -/
theorem giveUpOutput_gateInv' (o : Gated) (s : State) (h : s.gateInv) : (giveUpOutput o s).gateInv :=
  giveUpOutput_gateInv o s ⟨h.1, h.2.1, h.2.2.1⟩ h.2.2.2.1 h.2.2.2.2.1 (fun k => .inr (h.2.2.2.2.2.1 k)) h.2.2.2.2.2.2

theorem promoteOutput_gateInv (w : WaitEntry) (s : State) (h : s.gateInv) (hw : w ∈ s.gate.wait) :
    (promoteOutput w s).gateInv := by
  unfold promoteOutput
  split
  · refine ⟨h.1, fun o => ?_, ?_, h.2.2.2.1, h.2.2.2.2.1, fun hne => ?_, h.2.2.2.2.2.2⟩
    · constructor
      · intro hg x hx hxo
        obtain ⟨y, hy, rfl⟩ := List.mem_map.mp hx
        refine (h.2.1 o).1 hg y hy ?_
        split at hxo <;> exact hxo
      · show ((List.map _ s.gate.wait).filter _).length ≤ 1
        rw [List.filter_map, List.length_map]
        have : ((fun x : WaitEntry => decide (x.out = o)) ∘
            fun x => if x.out = w.out then { x with ageAt := none } else x) = fun x => decide (x.out = o) := by
          funext x; simp only [Function.comp]; split <;> rfl
        rw [this]
        exact (h.2.1 o).2
    · show (List.map _ s.gate.wait).Pairwise _
      rw [List.pairwise_map]
      refine h.2.2.1.imp ?_
      intro x y hxy
      split <;> split <;> exact hxy
    · rw [Gate.reqState_noRequest_iff]
      have hd := (Gate.reqState_noRequest_iff _ _).mp (h.2.2.2.2.2.1 hne)
      rintro (k | ⟨x, hx, hxo⟩)
      · exact hd (.inl k)
      · obtain ⟨y, hy, rfl⟩ := List.mem_map.mp hx
        refine hd (.inr ⟨y, hy, ?_⟩)
        split at hxo <;> exact hxo
  · have hng : s.gate.granted.get w.out = false := by
      by_contra hg
      exact (h.2.1 w.out).1 (by simpa using hg) w hw rfl
    apply passAndSettle_gateInv
    · refine ⟨h.1, fun p => ?_, joinWait_sorted _ _ (leaveWait_sorted _ _ h.2.2.1)⟩
      constructor
      · intro hg x hx hxp
        rcases (mem_joinWait _ _ _).mp hx with rfl | hx
        · subst hxp
          have hg : s.gate.granted.get w.out = true := hg
          rw [hng] at hg; simp at hg
        · exact (h.2.1 p).1 hg x ((mem_leaveWait _ _ _).mp hx).1 hxp
      · show ((joinWait _ (leaveWait w.out s.gate.wait)).filter _).length ≤ 1
        rw [joinWait_places]
        split
        · rename_i hop
          have hop : w.out = p := hop
          rw [places_zero _ _ (fun x hx hxo => ((mem_leaveWait _ _ _).mp hx).2 (hxo.trans hop.symm))]
        · exact (places_le _ _ p (leaveWait_sublist _ _)).trans (h.2.1 p).2
    · intro hne
      rw [Gate.reqState_noRequest_iff]
      have hd := (Gate.reqState_noRequest_iff _ _).mp (h.2.2.2.2.2.1 hne)
      rintro (k | ⟨x, hx, hxo⟩)
      · exact hd (.inl k)
      · rcases (mem_joinWait _ _ _).mp hx with rfl | hx
        · exact hd (.inr ⟨w, hw, hxo⟩)
        · exact hd (.inr ⟨x, ((mem_leaveWait _ _ _).mp hx).1, hxo⟩)

theorem hmSettled_gateInv (s : State) (h : s.gateInv) : (hmSettled s).gateInv := by
  have f := settleHm_follows (s.setGate { s.gate with hm := .hmClosed })
  have g := settleHm_gate (s.setGate { s.gate with hm := .hmClosed })
  have e : (hmSettled s).defrost.st = s.defrost.st := by
    have d := congrArg Defrost.st (hmSettled_frame s).defrost
    exact d
  refine ⟨?_, ?_, ?_, f.1, f.2.1, ?_, f.2.2⟩
  · unfold hmSettled; rw [g]; exact h.1
  · intro o
    unfold hmSettled State.apart; rw [g]; exact h.2.1 o
  · unfold hmSettled Gate.sorted; rw [g]; exact h.2.2.1
  · rw [e]; unfold hmSettled; rw [g]; exact h.2.2.2.2.2.1

theorem emptyGate_gateInv (s : State) : (emptyGate s).gateInv := by
  have hr : ∀ o, (emptyGate s).gate.reqState o = .noRequest := fun o => Gate.reqState_of_empty _ _ rfl rfl
  refine ⟨?_, fun o => ⟨fun _ w hw => ?_, ?_⟩, List.Pairwise.nil, ?_, ?_, fun _ => hr .dh, ?_⟩
  · show Gate.budgetInUse { s.gate with granted := .empty, wait := [], hm := .hmOpen } ≤ _
    rw [Gate.budgetInUse_empty]; exact Nat.zero_le _
  · exact absurd hw (List.not_mem_nil)
  · exact Nat.zero_le _
  · intro h
    have : (emptyGate s).gate.heaterGranted = false := rfl
    rw [this] at h; simp at h
  · intro h
    have : (emptyGate s).gate.hm = .hmOpen := rfl
    rw [this] at h; simp at h
  · intro _ h
    simp [emptyGate, Gate.heaterOn] at h

end Sys2Proof.Machine
end

