-- ==== Sys2Proof/Laws/JobsInv.lean ====
section
/-! SUPPORT. The gate's order (`State.gateInv`) through the operations of the water line, the ice maker, the dispenser,
the defrost controller and the commands. -/

namespace Sys2Proof.Machine

/-- The gate's order depends on the gate and on two fields of the defrost controller alone. -/
theorem gateInv_congr {s t : State} (h : s.gateInv) (hg : t.gate = s.gate) (h1 : t.defrost.st = s.defrost.st)
    (h2 : t.defrost.heatBegun = s.defrost.heatBegun) : t.gateInv := by
  unfold State.gateInv State.apart State.heaterInv at *
  rw [hg, h1, h2]
  exact h

/-! ### The water line -/

theorem openIv_gateInv {s : State} (h : s.gateInv) : (openIv s).gateInv :=
  requestOutput_gateInv .ft _ (gateInv_congr h rfl rfl rfl) (fun k => absurd k (by decide))

theorem openWv_gateInv {s : State} (h : s.gateInv) : (openWv s).gateInv := gateInv_congr h rfl rfl rfl

theorem closeValve_gateInv {s : State} (v : Valve) (h : s.gateInv) : (closeValve v s).gateInv :=
  gateInv_congr h rfl rfl rfl

theorem giveLineToIce_gateInv {s : State} (h : s.gateInv) : (giveLineToIce s).gateInv := by
  unfold giveLineToIce
  split
  · exact gateInv_congr h rfl rfl rfl
  · exact openIv_gateInv h

theorem fillRequest_gateInv {s : State} (b : Bool) (h : s.gateInv) : (fillRequest b s).gateInv := by
  unfold fillRequest
  split
  · exact giveLineToIce_gateInv (gateInv_congr h rfl rfl rfl)
  · split
    · exact h
    · exact gateInv_congr h rfl rfl rfl
  · split
    · exact h
    · exact gateInv_congr h rfl rfl rfl
  · exact h
  · exact h

theorem pourRequest_gateInv {s : State} (h : s.gateInv) : (pourRequest s).gateInv :=
  gateInv_congr h (by simp) (by simp) (by simp)

theorem fillRelease_gateInv {s : State} (h : s.gateInv) : (fillRelease s).gateInv :=
  gateInv_congr h (by simp) (by simp) (by simp)

theorem handOn_gateInv {s : State} (h : s.gateInv) : (handOn s).gateInv := by
  unfold handOn
  split
  · exact giveLineToIce_gateInv h
  · split
    · exact gateInv_congr h rfl rfl rfl
    · exact h

theorem pourRelease_gateInv {s : State} (h : s.gateInv) : (pourRelease s).gateInv := by
  unfold pourRelease
  split
  · exact h
  · exact h
  · exact h
  · exact handOn_gateInv (gateInv_congr h rfl rfl rfl)
  · exact handOn_gateInv (closeValve_gateInv _ h)

/-! ### The ice maker -/

theorem enterOff_gateInv {s : State} (h : s.gateInv) : (enterOff s).gateInv :=
  giveUpOutput_gateInv' .ft _ (gateInv_congr h rfl rfl rfl)

theorem enterFault_gateInv {s : State} (c : IceCause) (h : s.gateInv) : (enterFault c s).gateInv :=
  giveUpOutput_gateInv' .ft _ (gateInv_congr h rfl rfl rfl)

theorem enterHarvestHeat_gateInv {s : State} (h : s.gateInv) : (enterHarvestHeat s).gateInv :=
  requestOutput_gateInv .th _ (gateInv_congr h rfl rfl rfl) (fun k => absurd k (by decide))

theorem enterRake_gateInv {s : State} (h : s.gateInv) : (enterRake s).gateInv :=
  requestOutput_gateInv .em _ (gateInv_congr h rfl rfl rfl) (fun k => absurd k (by decide))

theorem leaveOff_gateInv {s : State} (h : s.gateInv) : (leaveOff s).gateInv := by
  unfold leaveOff
  split
  · exact enterRake_gateInv h
  · split <;> exact gateInv_congr h rfl rfl rfl

theorem beginFill_gateInv {s : State} (h : s.gateInv) : (beginFill s).gateInv :=
  fillRequest_gateInv _ (gateInv_congr h rfl rfl rfl)

theorem startTrail_gateInv {s : State} (h : s.gateInv) : (startTrail s).gateInv := by
  unfold startTrail
  split
  · exact giveUpOutput_gateInv' .ft _ h
  · exact gateInv_congr h rfl rfl rfl

theorem fillSuccess_gateInv {s : State} (h : s.gateInv) : (fillSuccess s).gateInv :=
  startTrail_gateInv (gateInv_congr (fillRelease_gateInv h) rfl rfl rfl)

theorem fillFault_gateInv {s : State} (h : s.gateInv) : (fillFault s).gateInv := by
  unfold fillFault
  simp only []
  split
  · exact startTrail_gateInv (gateInv_congr (fillRelease_gateInv h) rfl rfl rfl)
  · exact enterFault_gateInv _ (gateInv_congr (fillRelease_gateInv h) rfl rfl rfl)

theorem fillVolumeTest_gateInv {s : State} (h : s.gateInv) : (fillVolumeTest s).gateInv := by
  unfold fillVolumeTest
  split
  · exact fillSuccess_gateInv h
  · exact h

theorem endFillByTime_gateInv {s : State} (h : s.gateInv) : (endFillByTime s).gateInv := by
  unfold endFillByTime
  split
  · exact fillFault_gateInv h
  · exact fillSuccess_gateInv h

theorem fillTimeTest_gateInv {s : State} (h : s.gateInv) : (fillTimeTest s).gateInv := by
  unfold fillTimeTest
  split
  · exact endFillByTime_gateInv h
  · exact h

theorem iceSecond_gateInv {s : State} (h : s.gateInv) : (iceSecond s).gateInv := by
  have h1 : (iceSecondCounts s).gateInv := gateInv_congr h rfl rfl rfl
  unfold iceSecond iceWork
  split
  · unfold parkWork
    split
    · exact enterOff_gateInv h1
    · split
      · exact gateInv_congr h1 rfl rfl rfl
      · split
        · exact h1
        · split
          · exact h1
          · exact beginFill_gateInv h1
  · unfold freezeWork
    simp only []
    split
    · exact enterHarvestHeat_gateInv (gateInv_congr h1 rfl rfl rfl)
    · exact gateInv_congr h1 rfl rfl rfl
  · unfold heatWork
    split
    · simp only []
      split
      · exact enterRake_gateInv (gateInv_congr h1 rfl rfl rfl)
      · exact gateInv_congr h1 rfl rfl rfl
    · exact h1
  all_goals exact h1

theorem freezeEndingSecond_gateInv {s : State} (p : State → Bool) (h : s.gateInv) :
    (freezeEndingSecond p s).gateInv := by
  unfold freezeEndingSecond
  split
  · exact iceSecond_gateInv h
  · exact h

theorem rakeDone_gateInv {s : State} (h : s.gateInv) : (rakeDone s).gateInv := by
  unfold rakeDone
  apply giveUpOutput_gateInv'
  split
  · exact enterOff_gateInv (gateInv_congr h rfl rfl rfl)
  · exact gateInv_congr h rfl rfl rfl

theorem stall_gateInv {s : State} (h : s.gateInv) : (stall s).gateInv :=
  giveUpOutput_gateInv' .em _ (enterFault_gateInv _ (gateInv_congr h rfl rfl rfl))

theorem deliveryReport_gateInv {s : State} (h : s.gateInv) : (deliveryReport s).gateInv := by
  unfold deliveryReport
  split
  · exact gateInv_congr h rfl rfl rfl
  · exact h

/-! ### The dispenser -/

theorem pauseMeasured_gateInv {s : State} (h : s.gateInv) : (pauseMeasured s).gateInv := by
  unfold pauseMeasured
  split
  · exact gateInv_congr h rfl rfl rfl
  · exact h

theorem settleMeasured_gateInv {s : State} (h : s.gateInv) : (settleMeasured s).gateInv := by
  unfold settleMeasured
  split
  · split
    · exact h
    · exact gateInv_congr h rfl rfl rfl
  · exact gateInv_congr h rfl rfl rfl
  · exact h

theorem pourVolumeChanged_gateInv {s : State} (h : s.gateInv) : (pourVolumeChanged s).gateInv := by
  unfold pourVolumeChanged
  split
  · unfold measuredTest
    split
    · split
      · have k : (pourRelease (s.setDisp { s.disp with poured := s.disp.pouredBase + s.pourVolume })).gateInv :=
          pourRelease_gateInv (gateInv_congr h rfl rfl rfl)
        exact gateInv_congr k rfl rfl rfl
      · exact gateInv_congr h rfl rfl rfl
      · exact gateInv_congr h rfl rfl rfl
    · exact gateInv_congr h rfl rfl rfl
  · exact h

theorem startPour_gateInv {s : State} (h : s.gateInv) : (startPour s).gateInv :=
  pourRequest_gateInv (gateInv_congr (settleMeasured_gateInv h) rfl rfl rfl)

theorem endPour_gateInv {s : State} (d : DispState) (p : PressStanding) (h : s.gateInv) : (endPour d p s).gateInv :=
  gateInv_congr (pauseMeasured_gateInv (pourRelease_gateInv h)) rfl rfl rfl

theorem startDelivery_gateInv {s : State} (h : s.gateInv) : (startDelivery s).gateInv :=
  requestOutput_gateInv .am _ (gateInv_congr h rfl rfl rfl) (fun k => absurd k (by decide))

theorem endDelivery_gateInv {s : State} (p : PressStanding) (h : s.gateInv) : (endDelivery p s).gateInv := by
  unfold endDelivery
  simp only []
  split
  · exact deliveryReport_gateInv (giveUpOutput_gateInv' .am _ (gateInv_congr h rfl rfl rfl))
  · exact giveUpOutput_gateInv' .am _ (gateInv_congr h rfl rfl rfl)

theorem doorOpened_gateInv {s : State} (h : s.gateInv) : (doorOpened s).gateInv := by
  unfold doorOpened
  split
  · exact endPour_gateInv _ _ h
  · exact endDelivery_gateInv _ h
  all_goals exact h

theorem judgePress_gateInv {s : State} (h : s.gateInv) : (judgePress s).gateInv := by
  unfold judgePress
  split
  · unfold acceptPress
    simp only []
    split
    · exact startPour_gateInv (gateInv_congr h rfl rfl rfl)
    · exact startDelivery_gateInv (gateInv_congr h rfl rfl rfl)
    · exact startDelivery_gateInv (gateInv_congr h rfl rfl rfl)
  · exact gateInv_congr h rfl rfl rfl

theorem paddleReleased_gateInv {s : State} (h : s.gateInv) : (paddleReleased s).gateInv := by
  unfold paddleReleased
  split
  · exact endPour_gateInv _ _ h
  · exact endDelivery_gateInv _ h
  all_goals exact gateInv_congr h rfl rfl rfl

theorem countPulse_gateInv {s : State} (h : s.gateInv) : (countPulse s).gateInv := by
  have h1 : (advanceFilter s).gateInv := gateInv_congr h rfl rfl rfl
  unfold countPulse
  split
  · exact fillVolumeTest_gateInv (gateInv_congr h1 rfl rfl rfl)
  · exact pourVolumeChanged_gateInv (gateInv_congr h1 rfl rfl rfl)
  · exact gateInv_congr h1 rfl rfl rfl

theorem noflowFound_gateInv {s : State} (h : s.gateInv) : (noflowFound s).gateInv := by
  unfold noflowFound
  split
  · exact fillFault_gateInv h
  · simp only []
    split <;> exact gateInv_congr h rfl rfl rfl
  all_goals exact h

/-! ### Defrost -/

/-- A change of the defrost controller that leaves HEAT alone, or stays out of it. -/
theorem setDefrost_gateInv {s : State} (d : Defrost) (h : s.gateInv) (h1 : d.st ≠ .heat) (h2 : s.defrost.st ≠ .heat) :
    (s.setDefrost d).gateInv :=
  ⟨h.1, h.2.1, h.2.2.1, h.2.2.2.1, h.2.2.2.2.1, fun _ => h.2.2.2.2.2.1 h2, fun k => absurd k h1⟩

theorem enterHeat_gateInv {s : State} (b : Bool) (h : s.gateInv) (hs : s.defrost.st ≠ .heat) :
    (enterHeat b s).gateInv := by
  have hn := h.2.2.2.2.2.1 hs
  apply requestOutput_gateInv
  · refine ⟨h.1, h.2.1, h.2.2.1, h.2.2.2.1, h.2.2.2.2.1, fun k => absurd rfl k, fun _ k => ?_⟩
    have hg : s.gate.granted.get .dh ≠ true := fun e => (Gate.reqState_noRequest_iff _ _).mp hn (.inl e)
    simp only [Gate.heaterOn, State.setDefrost_gate, Bool.and_eq_true] at k
    exact absurd k.1 hg
  · exact fun _ => rfl

/-- DH is given up together with HEAT being left. -/
theorem leaveHeat_gateInv {s : State} (d : Defrost) (h : s.gateInv) (hd : d.st ≠ .heat) :
    (giveUpOutput .dh (s.setDefrost d)).gateInv :=
  giveUpOutput_gateInv .dh _ ⟨h.1, h.2.1, h.2.2.1⟩ h.2.2.2.1 h.2.2.2.2.1 (fun _ => .inl rfl) (fun k => absurd k hd)

theorem defrostSecond_gateInv {s : State} (h : s.gateInv) : (defrostSecond s).gateInv := by
  have h1 : (defrostCounts s).gateInv := gateInv_congr h rfl rfl rfl
  unfold defrostSecond
  split
  · exact h1
  unfold defrostTest
  split <;> rename_i hs
  · unfold accrueTest
    split
    · exact setDefrost_gateInv _ h1 (by simp) (by rw [hs]; simp)
    · split
      · exact setDefrost_gateInv _ h1 (by simp) (by rw [hs]; simp)
      · exact h1
  · unfold dueTest
    split
    · exact setDefrost_gateInv _ h1 (by simp) (by rw [hs]; simp)
    · exact h1
  · unfold holdTest
    split
    · exact enterHeat_gateInv _ h1 (by rw [hs]; simp)
    · split
      · exact enterHeat_gateInv _ h1 (by rw [hs]; simp)
      · exact h1
  · unfold heatTest
    split
    · split
      · exact leaveHeat_gateInv _ h1 (by simp)
      · exact h1
    · exact h1
  · unfold dripTest
    split
    · exact setDefrost_gateInv _ h1 (by simp) (by rw [hs]; simp)
    · exact h1
  · unfold recoverTest
    split
    · exact setDefrost_gateInv _ h1 (by simp [Defrost.complete, Defrost.toAccrue]) (by rw [hs]; simp)
    · exact h1

theorem defrostEndingSecond_gateInv {s : State} (st : DefrostState) (p : State → Bool) (h : s.gateInv) :
    (defrostEndingSecond st p s).gateInv := by
  unfold defrostEndingSecond
  split
  · exact defrostSecond_gateInv h
  · exact h

/-! ### Modes -/

theorem stopJobs_gateInv (s : State) : (stopJobs s).gateInv := by
  have e := emptyGate_gateInv s
  have hst : (stopJobs s).defrost.st = .accrue := by rw [stopJobs_defrost]; exact (Defrost.disarmed_keeps _).1
  have hg : (stopJobs s).gate = (emptyGate s).gate := stopJobs_gate s
  have hr : (emptyGate s).gate.reqState .dh = .noRequest := Gate.reqState_of_empty _ _ rfl rfl
  refine ⟨?_, ?_, ?_, ?_, ?_, fun _ => ?_, fun k => ?_⟩
  · rw [hg]; exact e.1
  · intro o; unfold State.apart; rw [hg]; exact e.2.1 o
  · rw [hg]; exact e.2.2.1
  · rw [hg]; exact e.2.2.2.1
  · rw [hg]; exact e.2.2.2.2.1
  · rw [hg]; exact hr
  · rw [hst] at k; exact absurd k (by simp)

/-- A gate with nothing GRANTED and nothing waiting and HM OPEN is in order, outside HEAT. -/
theorem gateInv_of_empty {s : State} (h1 : s.gate.granted = .empty) (h2 : s.gate.wait = []) (h3 : s.gate.hm = .hmOpen) :
    s.gateInv := by
  have hr : ∀ o, s.gate.reqState o = .noRequest := fun o => Gate.reqState_of_empty _ _ h1 h2
  have hg : s.gate.heaterGranted = false := by unfold Gate.heaterGranted; rw [h1]; rfl
  refine ⟨?_, fun o => ⟨fun _ w hw => ?_, ?_⟩, ?_, ?_, ?_, fun _ => hr .dh, ?_⟩
  · unfold Gate.fits Gate.budgetInUse Gate.share
    rw [h1]; simp
  · rw [h2] at hw; exact absurd hw (List.not_mem_nil)
  · rw [h2]; exact Nat.zero_le _
  · unfold Gate.sorted; rw [h2]; exact List.Pairwise.nil
  · intro h; rw [hg] at h; simp at h
  · intro h; rw [h3] at h; simp at h
  · intro _ h
    unfold Gate.heaterOn at h
    rw [h3] at h; simp at h

theorem restartEffect_gateInv (s : State) : (restartEffect s).gateInv := by
  have g := restartEffect_gate s
  exact gateInv_of_empty (by rw [g]) (by rw [g]) (by rw [g])

theorem armEffect_gateInv {s : State} (h1 : s.gate.granted = .empty) (h2 : s.gate.wait = []) (h3 : s.gate.hm = .hmOpen) :
    (armEffect s).gateInv := by
  have h : (armGate (armLine (armDefrost (s.setMode .running)))).gateInv := gateInv_of_empty h1 h2 h3
  unfold armEffect armIce
  simp only []
  split
  · exact leaveOff_gateInv (gateInv_congr h rfl rfl rfl)
  · exact gateInv_congr h rfl rfl rfl

end Sys2Proof.Machine
end

