-- ==== Sys2Proof/Laws/Seconds.lean ====
section
/-! SUPPORT. What a completed second comes to: the rows named after its outcome, the end of the heat, the start of HEAT
and the start of a fill. -/

namespace Sys2Proof.Machine

theorem exec_defrostSecond (s : State) (h : s.mode = .running) : exec .defrostSecond s = .next (defrostSecond s) := by
  show execDefrostSecond s = _
  unfold execDefrostSecond; rw [if_pos h]

theorem exec_iceSecond (s : State) (h : s.mode = .running) : exec .iceSecond s = .next (iceSecond s) := by
  show execIceSecond s = _
  unfold execIceSecond; rw [if_pos h]

/-- Only HOLD knows a second that falls together with a DEFROST NOW taken first (R7). -/
theorem forcedTogether_of_ne {s : State} (h : s.defrost.st ≠ .hold) : s.forcedTogether = false := by
  simp [State.forcedTogether, h]

/-- A second that makes its test (R27). -/
theorem defrostSecond_tests {s : State} (h : s.forcedTogether = false) :
    defrostSecond s = defrostTest (defrostCounts s) := by
  unfold defrostSecond; rw [h]; rfl

/-- A second that falls together with a DEFROST NOW taken first tests nothing (R7). -/
theorem defrostSecond_together {s : State} (h : s.forcedTogether = true) : defrostSecond s = defrostCounts s := by
  unfold defrostSecond; rw [if_pos h]

/-- A row named after a defrost second's outcome is that second (log 3). -/
theorem defrostEndingSecond_eq (st : DefrostState) (ended : State → Bool) (s : State) (h : s.mode = .running)
    (h1 : s.defrost.st = st) (h3 : s.forcedTogether = false) (h2 : ended (defrostCounts s) = true) :
    defrostEndingSecond st ended s = defrostSecond s := by
  unfold defrostEndingSecond; rw [if_pos ⟨h, h1, h3, h2⟩]

/-- A freeze's end is the harvest's begin (R83, R84). -/
theorem freezeEndingSecond_eq (s : State) (ended : State → Bool) (hm : s.mode = .running) (hs : s.ice.st = .freeze)
    (h : ended (freezeCounts (iceSecondCounts s)) = true) (h2 : (freezeCounts (iceSecondCounts s)).freezeDone = true) :
    freezeEndingSecond ended s = enterHarvestHeat (freezeCounts (iceSecondCounts s)) := by
  unfold freezeEndingSecond
  rw [if_pos ⟨hm, hs, h⟩]
  unfold iceSecond iceWork
  have e : (iceSecondCounts s).ice.st = .freeze := hs
  rw [e]
  unfold freezeWork
  simp only [h2, ↓reduceIte]

/-- The second that ends the heat (R32, R33). -/
theorem defrostSecond_heatEnds (s : State) (c : Cause) (hs : s.defrost.st = .heat) (hon : s.gate.heaterOn .dh = true)
    (he : (defrostCounts s).heatEnds = some c) : defrostSecond s = terminateHeat c (defrostCounts s) := by
  rw [defrostSecond_tests (forcedTogether_of_ne (by rw [hs]; simp))]
  unfold defrostTest
  have e : (defrostCounts s).defrost.st = .heat := hs
  rw [e]
  unfold heatTest
  have h2 : (defrostCounts s).gate.heaterOn .dh = true := hon
  simp only [h2, he, ↓reduceIte]

/-- Where DH was not asked for, a heat has begun as HEAT is entered exactly if DH is then on (R30, R31). -/
theorem enterHeat_begun (s : State) (b : Bool) (h : s.gate.reqState .dh = .noRequest) :
    (enterHeat b s).defrost.heatBegun = (enterHeat b s).drives.dh := by
  unfold enterHeat requestOutput
  have e : (s.setDefrost { s.defrost with
      st := .heat, stateTime := 0, compHeld := b, heaterOn := 0, heatBegun := false }).gate.reqState .dh =
      .noRequest := h
  rw [e]
  simp only
  unfold passAndSettle
  generalize hg : grantingPass _ _ = u
  have hu : u.defrost.st = .heat ∧ u.defrost.heatBegun = false := by
    have k := grantingPass_keeps (fun t => t.defrost.st = .heat ∧ t.defrost.heatBegun = false)
      (fun t w ws ht _ _ => by rw [grantHead_defrost]; exact ht)
    rw [← hg]; apply k; exact ⟨rfl, rfl⟩
  unfold settleHm markHeatBegun State.drives
  split
  · rename_i c; simp only [State.setDefrost_gate, State.setDefrost_defrost]; exact c.2.symm
  · rename_i c
    simp only [State.setGate_defrost, hu.1, hu.2, true_and, Bool.not_eq_true] at c ⊢
    exact c.symm

/-- No changeover lies ahead where the same side closed last or the changeover end has passed (R46). -/
theorem mustChangeOver_false (l : Line) (now : Nat) (v : Valve)
    (h : ∀ c e, l.lastClosed = some c → c ≠ v → l.changeoverEnd = some e → e ≤ now) :
    l.mustChangeOver now v = false := by
  unfold Line.mustChangeOver
  split
  · rename_i c e hc he
    by_cases k : c = v
    · simp [k]
    · simp [k, h c e hc k he]
  · rfl

/-- A fill that begins on a free line, with no changeover ahead, opens IV (R47, R76). -/
theorem beginFill_opens (s : State) (h : s.line.st = .idle) (h2 : s.line.mustChangeOver s.now .iv = false) :
    beginFill s = openIv ((s.setIce { s.ice with st := .fill .lineWait, opened := false, elapsed := 0 }).setLine
      { s.line with resumes := false }) := by
  unfold beginFill fillRequest
  have e : (s.setIce { s.ice with st := .fill .lineWait, opened := false, elapsed := 0 }).line.st = .idle := h
  rw [e]
  simp only
  unfold giveLineToIce
  rw [if_neg]
  · rfl
  · have k : Line.mustChangeOver { s.line with resumes := false } s.now .iv = false := h2
    simpa using k

end Sys2Proof.Machine
end

