-- ==== Sys2Proof/WellFormed.lean ====
section
/-! DEFINITION. Which commands the link and the sensors can carry at all: a payload fits into one frame (R160), an
unknown command has a kind that is no command (R184), an over-long length is above 24 (R161). -/

namespace Sys2Proof

/-- A request kind the command handler answers UNKNOWN: 00h, or 0Bh to 7Eh (R184). -/
def unknownKind (k : Byte) : Bool := k.toNat = 0 || (11 ≤ k.toNat && k.toNat ≤ 126)

/-- The payload of a frame is at most 24 bytes (R160). -/
def payloadFits (n : Nat) : Bool := n ≤ Config.maxPayload

/-- The command can reach the part. -/
def Instr.wellFormed : Instr → Bool
  | .statusRead _ p | .tableWrite _ p | .tableRead _ p | .historyRead _ p | .counterRead _ p
  | .arm _ p | .disarm _ p | .restart _ p | .observationWrite _ p => payloadFits p.length
  | .unknownCommand _ k p => unknownKind k && payloadFits p.length
  | .defrostNow _ a | .defrostAbort _ a | .iceOn _ a | .iceOff _ a | .iceHarvestNow _ a
  | .faultClear _ a | .filterReset _ a | .restore _ a => payloadFits (a.length + 1)
  | .frameAbandonedLong _ _ d => Config.maxPayload < d.toNat
  | .powerOn _ | .trunkFrameReceived _ _ | .doorFrameReceived _ _ | .frameAbandonedMark _ _ _
  | .frameAbandonedGap _ | .trunkSendBegin | .doorSendBegin | .trunkFrameSent | .doorFrameSent
  | .driverEnableRelease _ | .collision _ | .replyWindowExpiry | .awaitedLead _ | .observationStale _
  | .defrostSecond | .capReached | .defermaxExpiry | .compwaitExpiry | .heatmaxExpiry | .fixedheatExpiry
  | .driptimeExpiry | .fanmaxExpiry | .iceSecond | .retryTimerExpiry | .changeoverEnd | .resumeTimerExpiry
  | .fillmaxExpiry | .unmeteredVolumeReached | .ftTrailExpiry | .freezeholdReached | .freezemaxExpiry
  | .freezefixedExpiry | .harvheatmaxExpiry | .homeReadingChange _ | .rakeleaveExpiry | .rakemaxExpiry
  | .binfullReadingChange _ | .binwaitExpiry | .flowPulse _ | .noflowtimeExpiry | .press _ | .release _
  | .pourmaxExpiry | .augermaxExpiry | .flapholdExpiry | .measureholdExpiry | .agingTimerExpiry _
  | .hmsettleExpiry | .hmholdExpiry | .sampleCompletion _ _ _ | .characterReceived _ _ _ _
  | .observationAgeSecond _ => true

end Sys2Proof
end

