-- ==== Sys2Proof/Tests/Slice0.lean ====
section
/-! SUPPORT. The model's own tests: an ill-formed term for each check of WellFormed, figures worked by hand from the
rules, one step of each kind on small states, and for every statement with hypotheses a state that meets them. -/

/-! ### Small states -/

namespace Sys2Proof.Machine

def State.frosting (st : DefrostState) (s : State) : State := s.setDefrost { s.defrost with st := st }

def State.icing (st : IceState) (s : State) : State := s.setIce { s.ice with st := st }

def State.dispensing (st : DispState) (s : State) : State := s.setDisp { s.disp with st := st }

def State.lining (st : LineState) (s : State) : State := s.setLine { s.line with st := st }

/-- An output is GRANTED, with HM closed. -/
def State.granting (o : Gated) (s : State) : State :=
  s.setGate { s.gate with granted := s.gate.granted.set o true, hm := .hmClosed }

/-- A rising curve of 16 points. -/
def CurvePoint.rising : List CurvePoint := (List.range 16).map fun i => { count := 100 * i, temp := 10 * (i : Int) - 80 }

/-- A channel in status OK with the given value. -/
def State.feeling (c : Chan) (t : Int) (s : State) : State :=
  (s.setTables { s.tables with
      curveA := CurvePoint.rising, chanMap := s.tables.chanMap.set c { sel := .curveA, below := 10, above := 4000 } }).setTemps
    (s.temps.set c { range := .settled, total := 4, lowRun := 0, highRun := 0, inRun := 4, history := [1, 1, 1, 1],
                     value := some t })

/-- An observation has arrived. -/
def State.seeing (k : ObsKind) (v : Nat) (s : State) : State :=
  s.setObs (s.obs.set k { value := v, st := .fresh, age := 0, source := .direct, ageAt := 96000 })

def State.paddled (s : State) : State := s.setInputs { s.inputs with paddle := true }

def State.binned (s : State) : State := s.setInputs { s.inputs with binfull := true }

def State.unhomed (s : State) : State := s.setInputs { s.inputs with home := false }

/-- A receiver at the check of a frame. -/
def State.hearing (p : Port) (f : Frame) (s : State) : State :=
  s.setLink (s.link.setPort p { rx := .atCheck f.lead f.kind f.payload, tx := .idle, lastChar := some 0 })

/-- A receiver, with the driver idle and a last character. -/
def State.mid (p : Port) (rx : Rx) (s : State) : State :=
  s.setLink (s.link.setPort p { rx := rx, tx := .idle, lastChar := some 5 })

/-- A port's driver. -/
def State.driving (p : Port) (tx : Tx) (s : State) : State :=
  s.setLink (s.link.setPort p { rx := .waiting, tx := tx, lastChar := some 5 })

/-- A request to door node 1, and a reply to it. -/
def Frame.asked : Frame := Frame.build 1 0x10 [7]
def Frame.answered : Frame := Frame.build 1 0x90 [7, 7]

/-- The relay queue holds the request, at the given point of its exchange. -/
def State.exchanging (side : DoorSide) (s : State) : State :=
  s.setLink { s.link with relay := [{ frame := Frame.asked, expectsReply := true }], doorSide := side }

/-- The uplink queue holds `n` frames. -/
def State.queued (n : Nat) (restart : Bool) (s : State) : State :=
  s.setLink { s.link with uplink := List.replicate n { frame := Frame.answered, isRestartReply := restart } }

def State.finishing (s : State) : State := s.setRestartPending true

/-- EM runs under supervision, with the left mark as given. -/
def State.raked (left : Bool) (s : State) : State :=
  (s.granting .em).setIce { s.ice with
    st := .harvestRake, rakeBegun := true, leftMark := left, rakeleaveAt := some 10, rakemaxAt := some 20 }

/-- IV has opened at the moment 0, with the FLOWK in use as given. -/
def State.filling (flowk : Nat) (s : State) : State :=
  (s.setLine { s.line with st := .fill, flowk := flowk, noflowAt := some 9 }).setIce
    { s.ice with st := .fill .flowing, opened := true }

/-- An entry of the route table that matches the request from TRUNK, or the reply from DOOR, and lifts `kind`. -/
def RouteEntry.lifting (d : Port) (action : RouteAction) (kind : Option ObsKind) : RouteEntry :=
  { RouteEntry.powerOn with
    valid := true, direction := d, address := some 1, kindLow := 0x10, kindHigh := 0x90, action := action, kind := kind
    mask := 0xFF }

/-- The entry stands at the given place of the route table. -/
def State.routed (i : Nat) (e : RouteEntry) (s : State) : State :=
  s.setTables { s.tables with route := List.replicate i RouteEntry.powerOn ++ e :: List.replicate (15 - i) .powerOn }

/-- Two entries, at the first and at the last place of the route table. -/
def State.routedTwo (a b : RouteEntry) (s : State) : State :=
  s.setTables { s.tables with route := [] ++ a :: (List.replicate 14 RouteEntry.powerOn ++ b :: []) }

def State.defaulting (trunk door : Nat) (s : State) : State :=
  s.setTables { s.tables with general := { s.tables.general with trunkdefault := trunk, doordefault := door } }

/-- A pour with WV open since the moment 0. -/
def State.pouring (s : State) : State := ((s.paddled).dispensing .pour).lining .pour

/-- A measured fill of 250 mL with the tally as given. -/
def State.measuring (m : MeasuredState) (tally : Nat) (s : State) : State :=
  (s.setDisp { s.disp with measured := m, target := 250 }).setLine { s.line with pourTally := tally }

/-- A fill waits for the line. -/
def State.awaited (s : State) : State := s.setLine { s.line with fillWaiting := true }

/-- A fill is suspended. -/
def State.suspended (s : State) : State :=
  (s.setLine { s.line with fillSuspended := true }).setIce { s.ice with st := .fill .suspended }

/-- The resume timer runs to the given moment. -/
def State.resuming (e : Nat) (s : State) : State := s.setIce { s.ice with st := .fill .suspended, resumeAt := some e }

/-- The pour's longest time runs to the given moment. -/
def State.timed (e : Nat) (s : State) : State := s.setDisp { s.disp with pourAt := some e }

/-- The valve closed last, at the moment 0, with the changeover's end. -/
def State.closed (v : Valve) (e : Nat) (s : State) : State :=
  s.setLine { s.line with lastClosed := some v, changeoverEnd := some e }

end Sys2Proof.Machine

namespace Sys2Proof.Tests

open Sys2Proof Sys2Proof.Machine

-- One test after another: each waits for the kernel, and in parallel they would hold a thread each.
set_option Elab.async false

def ready : State := State.reset

def running : State := ready.setMode .running

abbrev request : Frame := Frame.asked
abbrev reply : Frame := Frame.answered
abbrev rising : List CurvePoint := CurvePoint.rising

/-- A record of a cycle. -/
def record : HistoryRecord :=
  { seq := 1, trigger := .estimate, cause := .temp, compHeld := false, startEstimate := 5, thrBefore := 6,
    thrAfter := 7, heaterOn := 8, cycleSeconds := 9, unread := true }

def entry (o : Gated) (cls : Nat) (ageAt : Option Nat) : WaitEntry := { out := o, cls := cls, since := 0, ageAt := ageAt }

/-- The next state, or the same state where there is none. -/
def after (c : Instr) (s : State) : State :=
  match exec c s with
  | .next t => t
  | .fault _ | .refused _ => s

/-- The state after one step. -/
def stepped (s : State) : State :=
  match step s with
  | .next t => t
  | .fault _ | .refused _ => s

/-! ### WellFormed: what the link cannot carry is refused -/

theorem test_wf_payload_too_long : (Instr.statusRead 0 (List.replicate 25 0)).wellFormed = false := by decide +kernel
theorem test_wf_payload_longest : (Instr.tableWrite 0 (List.replicate 24 0)).wellFormed = true := by decide +kernel
theorem test_wf_job_too_long : (Instr.restore 0 (List.replicate 24 0)).wellFormed = false := by decide +kernel
theorem test_wf_job_longest : (Instr.restore 0 (List.replicate 23 0)).wellFormed = true := by decide +kernel
theorem test_wf_known_kind : (Instr.unknownCommand 0 0x0A []).wellFormed = false := by decide +kernel
theorem test_wf_reply_kind : (Instr.unknownCommand 0 0x80 []).wellFormed = false := by decide +kernel
theorem test_wf_notice_kind : (Instr.unknownCommand 0 0x7F []).wellFormed = false := by decide +kernel
theorem test_wf_unknown_kind : (Instr.unknownCommand 0 0x0B []).wellFormed = true := by decide +kernel
theorem test_wf_unknown_too_long : (Instr.unknownCommand 0 0x0B (List.replicate 25 0)).wellFormed = false := by decide +kernel
theorem test_wf_length_fits : (Instr.frameAbandonedLong 0 .trunk 24).wellFormed = false := by decide +kernel
theorem test_wf_length_long : (Instr.frameAbandonedLong 0 .trunk 25).wellFormed = true := by decide +kernel

/-! ### No word spells a command -/

theorem test_no_word_decodes : decodeTableWord 8 1 = none := by decide
theorem test_word_places_nothing : ready.withFetchWord 8 1 = ready := by decide +kernel

/-! ### Figures -/

/-- The check of one byte 00h is that of R162's register, stepped by hand: FFh, then eight shifts. -/
theorem test_crc_byte : crcByte 0xFF 0x00 = 0xF3 := by decide

/-- A frame with its own check is good, and one bit changed is not (R162). -/
theorem test_frame_good : request.good = true ∧ ({ request with kind := 0x11 } : Frame).good = false := by decide +kernel

/-- 600 seconds of heat double the target: THR grows by a quarter (R9, R10). -/
theorem test_thr_grows : proportionalThr DefrostParams.powerOn 1382400 600 = 1728000 := by decide

/-- 2,400 seconds halve it: THR shrinks by a quarter at most (R9). -/
theorem test_thr_shrinks : proportionalThr DefrostParams.powerOn 1382400 2400 = 1036800 := by decide

/-- On the target THR stands (R9). -/
theorem test_thr_stands : proportionalThr DefrostParams.powerOn 1382400 1200 = 1382400 := by decide

/-- Half-way between two points, and at the ends (R141). -/
theorem test_convert : convert 150 rising = some (-65) ∧ convert 0 rising = some (-80) ∧ convert 4000 rising = some 70 := by
  decide

/-- 1,380 pulses a litre: 100 pulses are 72 mL (R54). -/
theorem test_volume : ((ready.filling 1380).setLine { ready.line with flowk := 1380, fillTally := 100 }).fillVolume = 72 := by
  decide +kernel

/-- The default drives and the attention set at power-on (R198, R200). -/
theorem test_power_on_idle : ready.drives = .allOff ∧ attentionSet ready.attention = 0 := by decide +kernel

/-- Negative parameters are two's complement (R187). -/
theorem test_signed_parameter : paramBytes (-120) = [0xFF, 0xFF, 0x88] ∧ paramOfBytes 8 4 [0xFF, 0xFF, 0x88] = -120 := by
  decide

/-! ### One step of each kind -/

theorem test_idle_step : stepped ready = ready := by decide +kernel

theorem test_first_in_first_out :
    stepped (ready.setPending [.press 1, .release 1]) =
      { ready with
        now := 1, inputs := { ready.inputs with paddle := true }, disp := { ready.disp with press := .spent }
        pending := [.release 1] } := by decide +kernel

theorem test_reset_is_power_on : after (.powerOn false) running = ready := by decide +kernel

theorem test_status_page_0 :
    (after (.statusRead 10 [0]) ready).link.uplink.map (·.frame.kind) = [0x81] ∧
      (after (.statusRead 10 [0]) ready).link.uplink.map (·.frame.payload.length) = [16] := by decide +kernel

theorem test_request_needs_idle_trunk :
    after (.statusRead 10 [0]) (ready.driving .trunk (.sending 0)) =
      { ready.driving .trunk (.sending 0) with now := 10 } := by decide +kernel

theorem test_arm_disarm_keeps_thr :
    (after (.disarm 5 []) (after (.arm 5 []) ready)).defrost.thr = 1382400 ∧
      (after (.arm 5 []) ready).mode = .running ∧ (after (.arm 5 []) ready).ice.st = .freeze := by decide +kernel

theorem test_restart_while_pending_ignored :
    (after (.arm 5 []) (ready.finishing)).mode = .loading ∧
      (after (.arm 5 []) (ready.finishing)).link.uplink = [] := by decide +kernel

theorem test_table_write_clamps :
    (after (.tableWrite 5 [7, 7, 0, 0, 1]) ready).tables.defrost.heatmax = 1200 ∧
      (after (.tableWrite 5 [7, 7, 0, 0, 1]) ready).link.uplink.map (·.frame.payload) = [[0, 1]] := by decide +kernel

theorem test_table_write_route :
    ((after (.tableWrite 5 [1, 15, 1, 0, 0xFF, 0, 0x7E, 0x21, 0, 0xFF]) ready).tables.route.getD 15 .powerOn).action =
      .discard := by decide +kernel

theorem test_load_clamped :
    (after (.tableWrite 5 [5, 0, 99, 9, 9]) ready).tables.load.dh = { weight := 15, cls := 2, aging := 9 } := by
  decide +kernel

theorem test_observation_out_of_range :
    (after (.observationWrite 5 [4, 0, 3]) ready).link.uplink.map (·.frame.payload) = [[4]] := by decide +kernel

theorem test_door_opening_ends_a_pour :
    (after (.observationWrite 5 [1, 0, 1]) (running.paddled.dispensing .pour |>.lining .pour)).disp.st = .idle ∧
      (after (.observationWrite 5 [1, 0, 1]) (running.paddled.dispensing .pour |>.lining .pour)).disp.press = .spent ∧
      (after (.observationWrite 5 [1, 0, 1]) (running.paddled.dispensing .pour |>.lining .pour)).line.st = .idle := by
  decide +kernel

theorem test_forwarded :
    (after (.trunkFrameReceived 55 request.check) (ready.hearing .trunk request)).link.relay.map (·.frame) = [request] := by
  decide +kernel

theorem test_reply_passes_up :
    (after (.doorFrameReceived 55 reply.check) ((ready.exchanging .taking).hearing .door reply)).link.uplink.map (·.frame) =
      [reply] := by decide +kernel

theorem test_awaited_lead_begins :
    (after (.awaitedLead 55) (ready.exchanging (.awaiting 99))).link.doorSide = .taking := by decide +kernel

theorem test_gap_at_door :
    (after (.frameAbandonedGap .door) (ready.mid .door (.atKind 1))).link.doorCount.gap = 1 := by decide +kernel

theorem test_sample_settles :
    (after (.sampleCompletion 1 .evap 500) (after (.sampleCompletion 1 .evap 500) (after (.sampleCompletion 1 .evap 500)
      (after (.sampleCompletion 1 .evap 500)
        ((ready.feeling .evap 0).setTemps .reset))))).usable .evap = some (-30) := by decide +kernel

theorem test_heater_waits_for_hm :
    (requestOutput .dh running).gate.hm = .hmClosing 9600 ∧ (requestOutput .dh running).drives.dh = false ∧
      (after .hmsettleExpiry (requestOutput .dh running)).drives.dh = true := by decide +kernel

theorem test_second_heater_waits :
    (requestOutput .th (requestOutput .dh running)).gate.wait.map (·.out) = [.th] ∧
      (giveUpOutput .dh (requestOutput .th (requestOutput .dh running))).gate.granted.th = true := by decide +kernel

theorem test_rake_begins :
    (requestOutput .em ((running.granting .th).icing .harvestRake)).gate.granted =
      { GrantSet.empty with em := true } := by decide +kernel

theorem test_full_rake :
    (after (.homeReadingChange 1) (after (.homeReadingChange 1) (running.raked false))).ice.st = .park ∧
      (after (.homeReadingChange 1) (after (.homeReadingChange 1) (running.raked false))).ice.cycles = 1 := by
  decide +kernel

theorem test_pulse_without_owner_leaks :
    (after (.flowPulse 1) (running.setLine { running.line with unclaimed := 49 })).line.leak = true ∧
      (after (.flowPulse 1) (running.setLine { running.line with unclaimed := 48 })).line.leak = false := by
  decide +kernel

theorem test_unmetered_fill_ends :
    (after .unmeteredVolumeReached (running.filling 0)).ice.st = .freeze ∧
      (after .unmeteredVolumeReached (running.filling 0)).now = 441600 := by decide +kernel

theorem test_capped_cycle_starts :
    (after .capReached (running.setDefrost { running.defrost with capElapsed := 259199 })).defrost.trigger = .cap ∧
      (after .capReached (running.setDefrost { running.defrost with capElapsed := 259198 })) =
        running.setDefrost { running.defrost with capElapsed := 259198 } := by decide +kernel

/-! ### A state for every statement with hypotheses -/

theorem test_witness_TableReadAnswers :
    ready.hears ∧ ready.restartPending = false ∧ 9 < (10#8).toNat ∧ tableEntries 9 ≤ (15#8).toNat ∧
      (14#8).toNat < tableEntries 9 ∧
      (let t := ready.tables
       t.route[15]? = some RouteEntry.powerOn ∧ t.curveA[15]? = some CurvePoint.powerOn ∧
         t.curveB[15]? = some CurvePoint.powerOn ∧ t.curveA.length = 16 ∧
         [t.chanMap.evap, t.chanMap.fzair, t.chanMap.tray, t.chanMap.tank][3]? = some t.chanMap.tank ∧
         [t.load.dh, t.load.th, t.load.ft, t.load.am, t.load.em][4]? = some t.load.em ∧
         t.general.staleFastice < 16777216) := by decide +kernel

/-- A negative parameter, a load, a channel's limits and a curve point as Table Read gives them (R187). -/
theorem test_entry_bytes :
    ready.tables.entryAt 8 3 = [0xFF, 0xFF, 0xB0] ∧ ready.tables.entryAt 5 1 = [6, 1, 120] ∧
      ready.tables.entryAt 4 0 = [0, 0, 0, 0x0F, 0xFF] ∧ ready.tables.entryAt 3 31 = [0, 0, 0, 0] ∧
      ready.tables.entryAt 2 0 = [0x7F, 0xFE, 0xFF, 0xFF, 0xFF, 0xFF, 0xFF, 0xFE] := by decide +kernel

theorem test_witness_StatusReadAnswers :
    (ready.hears ∧ (4#8).toNat ≤ 4 ∧ 4 < (5#8).toNat) ∧
      (let u := (running.setLine { running.line with leak := true }).setDefrost { running.defrost with ring := [record] }
       u.line.leak = true ∧ u.ice.st ≠ .fault ∧ (∃ x ∈ u.defrost.ring, x.unread = true) ∧
         u.line.filterState = .good ∧ u.gate.hm = .hmOpen ∧ (∀ c, u.status c = .notFitted) ∧
         (∀ n ∈ u.link.trunkCount.values ++ u.link.doorCount.values, n < 32768) ∧
         pageBytes u 0 = some [1, 1, 9, 0, 0, 0, 0, 0, 0, 0, 8, 0, 1, 0]) ∧
      (ready.usable .tank = none ∧ (ready.feeling .tank 60).usable .tank = some 60 ∧
        (ready.feeling .tank 61).usable .tank = some 61 ∧ ready.tables.water.chilltemp = 60) ∧
      ((ready.obs.get .lock).source = .nothing ∧ ((ready.seeing .lock 1).obs.get .lock).source = .direct) := by
  refine ⟨by decide +kernel, ⟨rfl, by decide +kernel, by decide +kernel, rfl, rfl, ?_, by decide +kernel, by decide +kernel⟩,
    by decide +kernel, by decide +kernel⟩
  intro c; cases c <;> decide +kernel

theorem test_witness_HistoryReadAnswers :
    ready.hears ∧ ready.restartPending = false ∧ ready.defrost.ring.length ≤ (0#8).toNat ∧
      (ready.setDefrost { ready.defrost with ring := [record] }).hears ∧
      (0#8).toNat < (ready.setDefrost { ready.defrost with ring := [record] }).defrost.ring.length := by decide +kernel

theorem test_witness_CounterReadAnswers :
    ready.hears ∧ ready.restartPending = false ∧ (1 < (0#8).toNat ∨ 1 < (2#8).toNat) := by decide +kernel

theorem test_witness_ObservationWriteUpdates :
    ready.hears ∧ ready.restartPending = false ∧ ready.disp.st ≠ .pour ∧ ready.disp.st ≠ .deliver ∧
      (0#8).toNat * 256 + (2#8).toNat ≤ 2 ∧ 2 < (0#8).toNat * 256 + (3#8).toNat ∧ ready.disp.measured = .inactive ∧
      (ready.setDisp { ready.disp with measured := .paused }).hears ∧
      (ready.setDisp { ready.disp with measured := .paused }).disp.measured ≠ .inactive ∧
      7 < (8#8).toNat ∧ ((0#8 ≠ 0#8) ∨ (1#8 ≠ 0#8)) ∧
      (let s := running.pouring.measuring .active 0
       s.hears ∧ s.disp.st = .pour ∧ s.line.st = .pour ∧ s.line.fillWaiting = false ∧ s.line.fillSuspended = false ∧
         s.line.flowk ≠ 0 ∧ s.line.filterTotal ≤ Config.max32) ∧
      (let s := (running.paddled.icing .binfull).setDisp { running.disp with st := .deliver, flap := true, delivered := true }
       s.hears ∧ s.restartPending = false ∧ s.disp.st = .deliver ∧ s.apart .am ∧ s.disp.delivered = true ∧
         s.ice.st = .binfull ∧ s.inputs.binfull = false) := by decide +kernel

theorem test_witness_UnknownCommandAnswered :
    ready.hears ∧ ready.restartPending = false ∧ (11 ≤ (126#8).toNat ∧ (126#8).toNat ≤ 126) ∧
      (List.replicate 24 0#8).length ≤ 24 ∧
      (let s := (ready.queued 3 false).mid .trunk .waiting
       s.link.trunk.tx = .idle ∧ s.link.trunk.rx = .waiting ∧ s.link.uplink.length = 3 ∧ s.restartPending = false) ∧
      (([] : List Byte).length ≠ 1 ∧ ([9] : List Byte).length < 2 ∧ ([1, 2] : List Byte).length ≠ 3 ∧
        (List.replicate 23 0#8).length ≠ 14 ∧ (List.replicate 23 0#8).length ≤ 23) ∧
      (let s := (ready.queued 2 false).hearing .trunk (Frame.build ready.ownAddress 4 [9])
       s.link.trunk.tx = .idle ∧ s.link.trunk.rx = .atCheck s.ownAddress 4 [9] ∧ s.link.uplink.length ≤ 2 ∧
         8 < (9#8).toNat) ∧
      (let s := (ready.queued 2 false).hearing .trunk (Frame.build ready.ownAddress 4 [])
       s.link.trunk.rx = .atCheck s.ownAddress 4 []) := by decide +kernel

/-- A wrong length is BAD_LENGTH in either mode; a reply that finds three frames waiting is dropped (R179, R185). -/
theorem test_wrong_lengths_and_full_queue :
    (after (.arm 5 [0]) running).link.uplink.map (·.frame.payload) = [[1]] ∧
      (after (.iceOn 5 [0]) ready).link.uplink.map (·.frame.payload) = [[1]] ∧
      (after (.restore 5 (List.replicate 13 0)) running).link.uplink.map (·.frame.payload) = [[1]] ∧
      (after (.unknownCommand 5 11 []) (ready.queued 3 false)).link.uplink.length = 3 ∧
      (after (.unknownCommand 5 11 []) (ready.queued 3 false)).link.trunkCount.dropped = 1 := by decide +kernel

/-- The four ways Arm finds the ice maker. -/
def armable (enabled home tray : Bool) : State :=
  (ready.setIce { ready.ice with enabled := enabled, trayLoaded := tray }).setInputs { ready.inputs with home := home }

theorem test_witness_ArmStartsJobs :
    ∀ enabled home tray : Bool, (armable enabled home tray).hears ∧ (armable enabled home tray).restartPending = false ∧
      (armable enabled home tray).mode = .loading ∧ (armable enabled home tray).ice.st = .off ∧
      (armable enabled home tray).defrost.st = .accrue ∧
      (∀ c, ((armable enabled home tray).tables.chanMap.get c).sel = .noCurve) := by
  intro enabled home tray
  refine ⟨by cases enabled <;> cases home <;> cases tray <;> decide +kernel, rfl, rfl, rfl, rfl, ?_⟩
  intro c; cases c <;> rfl

theorem test_witness_ArmRefused :
    running.hears ∧ running.restartPending = false ∧ running.mode = .running ∧
      (let s := ready.setTables { ready.tables with
        chanMap := ready.tables.chanMap.set .evap { sel := .curveA, below := 0, above := 4095 } }
       s.hears ∧ s.mode = .loading ∧ [Chan.evap, .fzair, .tray, .tank] = [] ++ .evap :: [.fzair, .tray, .tank] ∧
         (s.tables.chanMap.get .evap).sel = .curveA ∧ firstFailing s.tables.curveA = some 1) ∧
      (let u := ready.feeling .evap 0
       let s := u.setTables { u.tables with
         chanMap := u.tables.chanMap.set .tank { sel := .curveB, below := 0, above := 4095 } }
       [Chan.evap, .fzair, .tray, .tank] = [.evap, .fzair, .tray] ++ .tank :: [] ∧
         (∀ x ∈ [Chan.evap, .fzair, .tray], (s.tables.chanMap.get x).sel = .noCurve ∨
           curveValid (s.tables.curve (s.tables.chanMap.get x).sel) = true) ∧
         (s.tables.chanMap.get .tank).sel = .curveB ∧ firstFailing s.tables.curveB = some 1) ∧
      firstFailing (rising.set 15 { count := 1400, temp := 70 }) = some 15 := by decide +kernel

/-- Curve A valid for EVAP, curve B invalid for TANK: the answer names point 17 (R140, R192). -/
theorem test_arm_names_later_curve :
    let u := ready.feeling .evap 0
    (after (.arm 5 []) (u.setTables { u.tables with
      chanMap := u.tables.chanMap.set .tank { sel := .curveB, below := 0, above := 4095 } })).link.uplink.map
        (·.frame.payload) = [[7, 3, 17]] ∧
      curveValid rising = true ∧ firstFailing (rising.set 1 { count := 100, temp := -80 }) = some 1 := by decide +kernel

theorem test_witness_DisarmStopsEverything :
    ready.hears ∧ ready.restartPending = false ∧ ready.mode = .loading ∧ running.hears ∧ running.mode = .running ∧
      running.defrost.st = .accrue ∧ (running.frosting .drip).hears ∧ (running.frosting .recover).hears ∧
      (running.lining .fill).line.st = .fill ∧ (running.lining .pour).line.st = .pour ∧
      ((running.frosting .heat).hears ∧ (running.frosting .heat).defrost.st = .heat ∧
        (running.frosting .heat).defrost.heatBegun = false) ∧
      ((running.frosting .heat).setDefrost { running.defrost with st := .heat, heatBegun := true }).defrost.heatBegun =
        true := by decide +kernel

theorem test_witness_RestartWaitsForReply :
    ((ready.queued 2 false).hears ∧ (ready.queued 2 false).restartPending = false) ∧
      (ready.finishing.restartPending = true ∧ ready.finishing.hears ∧ List.replicate 23 0#8 ≠ [] ∧
        (List.replicate 23 0#8).length ≤ 23 ∧ (11 ≤ (11#8).toNat ∧ (11#8).toNat ≤ 126)) := by decide +kernel

/-- While Restart is pending a job command is lost and Status Read is answered (R195). -/
theorem test_job_while_restart_pending :
    let s := running.finishing.frosting .hold
    (after (.iceOff 5 []) s).ice.enabled = true ∧ (after (.iceOff 5 []) s).link.uplink = [] ∧
      (after (.statusRead 5 [0]) s).link.uplink.length = 1 := by decide +kernel

/-- A DEFROST ABORT taken while Restart is pending abandons the cycle and answers DONE (R39, R37), or is lost (R195). -/
theorem test_abort_while_restart_pending :
    let t := after (.defrostAbort 5 []) (running.finishing.frosting .hold)
    (t.defrost.st, t.link.uplink.map (·.frame.payload), t.restartPending) =
      if Config.abortActsWhilePending [] = true then (.accrue, [[0]], true) else (.hold, [], true) := by
  have h : after (.defrostAbort 5 []) (running.finishing.frosting .hold) = _ :=
    requestArrives_abort_pending (running.finishing.frosting .hold) 5 [] (by decide +kernel) (by decide) rfl
  simp only [h]
  split <;> decide +kernel

theorem test_witness_RestartTakesEffect :
    ((ready.queued 3 false).link.trunk.tx = .idle ∧ (ready.queued 3 false).link.trunk.rx = .waiting ∧
      (ready.queued 3 false).restartPending = false ∧ (ready.queued 3 false).link.uplink.length = 3) ∧
      (let s := ((ready.queued 1 true).driving .trunk (.sending 0)).finishing
       s.link.trunk.tx = .sending 0 ∧ s.link.uplink = [{ frame := reply, isRestartReply := true }] ∧
         s.restartPending = true) ∧
      (ready.mode = .loading ∧ running.mode = .running ∧ running.defrost.st = .accrue ∧
        (running.frosting .heat).defrost.heatBegun = false ∧ (running.frosting .recover).defrost.st = .recover ∧
        (running.setDefrost { running.defrost with st := .heat, heatBegun := true }).defrost.heatBegun = true ∧
        running.line.st ≠ .fill ∧ (running.filling 1380).line.flowk ≠ 0 ∧ running.line.filterTotal ≤ Config.max32) := by
  decide +kernel

theorem test_witness_DefrostNowForcesCycle :
    ready.hears ∧ ready.restartPending = false ∧ ready.mode = .loading ∧ (running.frosting .due).hears ∧
      (running.frosting .due).defrost.st ≠ .accrue ∧ running.mode = .running ∧ running.defrost.st = .accrue ∧
      running.hears ∧ running.defrost.secondAt ≤ running.now + 1 := by decide +kernel

theorem test_witness_DefrostAbortEndsCycleOrHeat :
    ready.hears ∧ ready.restartPending = false ∧ ready.mode = .loading ∧ (running.frosting .recover).hears ∧
      (running.frosting .hold).hears ∧
      (running.frosting .heat).defrost.heatBegun = false ∧ (running.frosting .heat).apart .dh ∧
      (running.frosting .heat).noneWaitsBut .dh ∧
      (running.setDefrost { running.defrost with st := .heat, heatBegun := true }).hears ∧
      (running.finishing.frosting .heat).hears ∧ (running.finishing.frosting .heat).restartPending = true ∧
      (running.finishing.frosting .heat).apart .dh ∧ (running.finishing.frosting .heat).noneWaitsBut .dh := by
  decide +kernel

theorem test_witness_IceOnAndOff :
    ready.hears ∧ ready.restartPending = false ∧ (running.icing (.fill .suspended)).ice.st.inRound = true ∧
      (running.icing .fault).ice.st = .fault ∧ (running.icing .fault).hears ∧ (running.icing .fault).apart .ft ∧
      (running.icing .fault).noneWaitsBut .ft ∧ running.ice.st = .off ∧ running.inputs.home = true ∧
      running.unhomed.inputs.home = false ∧ running.unhomed.hears := by decide +kernel

theorem test_witness_IceHarvestNowBegins :
    ready.hears ∧ ready.mode = .loading ∧ (running.icing (.fill .lineWait)).ice.st.inFill = true ∧
      (running.icing (.fill .lineWait)).hears ∧ (running.icing .park).hears ∧ (running.icing .binfull).hears ∧
      (running.icing .freeze).ice.st = .freeze := by decide +kernel

theorem test_witness_FaultClearClears :
    ready.hears ∧ ready.restartPending = false ∧ ready.ice.st ≠ .fault ∧ (running.icing .fault).ice.enabled = true ∧
      (running.icing .fault).inputs.home = true ∧ (running.unhomed.icing .fault).inputs.home = false ∧
      (running.setIce { running.ice with st := .fault, enabled := false }).hears := by decide +kernel

theorem test_witness_FilterResetAndRestore :
    ready.hears ∧ ready.restartPending = false ∧ (List.replicate 14 255#8).length = 14 ∧ ready.mode = .loading ∧
      running.hears ∧ running.mode = .running := by decide +kernel

theorem test_witness_ThresholdWriteOrders :
    ready.hears ∧ ready.restartPending = false ∧
      (ready.tables.defrost.set 2 (clampInt 57600 8294400 (numberOf [0, 0, 0]))).orderThr =
        { ready.tables.defrost with thrstart := 460800, thrmax := 460800 } ∧
      (([0, 0, 0, 0xFF, 0xFF, 0xFF] : List Byte).length = 3 * 2 ∧ 1 ≤ 2 ∧ 1 + 2 ≤ 3) ∧
      ((List.replicate 9 0#8).length = 3 * 3 ∧ 0 + 3 ≤ 3) := by decide +kernel

/-- THRMIN above THRMAX in one write: THRMAX is raised to it, THRSTART and the live THR follow, and two count (R14). -/
theorem test_write_two_thresholds :
    let t := after (.tableWrite 5 [7, 1, 0x1E, 0x84, 0x80, 0x0F, 0x42, 0x40]) ready
    (t.tables.defrost.thrmin, t.tables.defrost.thrmax, t.tables.defrost.thrstart) = (2000000, 2000000, 2000000) ∧
      t.defrost.thr = 2000000 ∧ t.link.uplink.map (·.frame.payload) = [[0, 2]] := by decide +kernel

theorem test_witness_TableWriteRefusals :
    ready.hears ∧ ready.restartPending = false ∧ 9 < (10#8).toNat ∧
      (List.replicate 22 0#8).length % entryBytes 9 ≠ 0 ∧
      (List.replicate 21 0#8).length % entryBytes 9 = 0 ∧
      tableEntries 9 < (9#8).toNat + (List.replicate 21 0#8).length / entryBytes 9 ∧
      running.hears ∧ running.mode = .running ∧
      (27#8).toNat + (List.replicate 20 0#8).length / entryBytes 3 ≤ tableEntries 3 ∧
      RouteEntry.ofBytes [0, 2, 0, 0, 0, 0, 0, 0] = none ∧ 2 < (([3, 0, 0, 0, 0] : List Byte).getD 0 0).toNat ∧
      ((List.replicate 9 0#8 ++ 2 :: List.replicate 6 0#8).length = 16 ∧ (14#8).toNat < 15 ∧
        RouteEntry.ofBytes ((List.replicate 9 0#8 ++ 2 :: List.replicate 6 0#8).drop 8) = none) ∧
      ((List.replicate 15 0#8 ++ 3 :: List.replicate 4 0#8).length = 5 * 4 ∧ (0#8).toNat + 4 ≤ 4 ∧
        2 < ((List.replicate 15 0#8 ++ 3 :: List.replicate 4 0#8).getD (5 * 3) 0).toNat) := by decide +kernel

theorem test_witness_TableWriteStores :
    ready.hears ∧ ready.restartPending = false ∧ ready.mode = .loading ∧
      (15 < 16 ∧ ready.tables.route.length = 16 ∧
        RouteEntry.ofBytes [1, 1, 0, 0, 0x7F, 0, 23, 0xFF] ≠ none) ∧
      ((BitVec.ofNat 64 (numberOf (List.replicate 8 0xFF))).getLsbD 63 = true) ∧
      (31 < 32 ∧ ready.tables.curveA.length = 16 ∧ ready.tables.curveB.length = 16 ∧
        32768 ≤ (0x80#8).toNat * 256 + (0#8).toNat) ∧
      (3 < 4 ∧ (2#8).toNat = CurveSel.curveB.code ∧
        max 4095 (min 4095 ((0#8).toNat * 256 + (0#8).toNat)) = 4095) ∧
      ((9, 14, 10, 1000) ∈ ([(6, 0, 1, 60), (9, 14, 10, 1000)] : List (Nat × Nat × Nat × Nat)) ∧
        numberOf [0, 3, 0xE8] = 1000) ∧
      (8388608 ≤ numberOf [0xFF, 0xFE, 0xD4] ∧ (numberOf [0xFF, 0xFE, 0xD4] : Int) - 16777216 = -300) ∧
      (let s := ready.setLink { ready.link with relay := [{ frame := request, expectsReply := true }] }
       s.hears ∧ s.link.flow = .flowOpen ∧ max 1 (min 4 0) ≤ s.link.relay.length) ∧
      (let s := ready.setLink { ready.link with flow := .flowBusy }
       s.hears ∧ s.link.flow = .flowBusy ∧ s.link.relay.length ≤ min 0 (s.tables.general.relayhigh - 1)) ∧
      (let s := ready.setObs (ready.obs.set .fastice { value := 1, st := .fresh, age := 5, source := .direct, ageAt := 0 })
       s.hears ∧ 14 = ObsKind.fastice.code + 7 ∧ (s.obs.get .fastice).st = .fresh ∧ min 255 5 ≤ (s.obs.get .fastice).age) ∧
      ((4 = 3 ∨ 4 = 4 ∨ 4 = 8) ∧ 8388608 ≤ numberOf [0xFF, 0xFF, 0x88]) ∧ ready.ice.st.inFill = false ∧
      (let s := (running.filling 1380).setLine { (running.filling 1380).line with fillTally := 69 }
       s.hears ∧ s.restartPending = false ∧ s.ice.st = .fill .flowing ∧ s.ice.opened = true ∧ s.line.st = .fill ∧
         s.line.flowk ≠ 0 ∧ max 50 (min 250 0) ≤ s.line.fillTally * 1000 / s.line.flowk ∧
         s.tables.ice.fillvol / 4 ≤ s.line.fillTally * 1000 / s.line.flowk ∧
         max 2 (min 30 0) * 1000 ≤ s.ice.elapsed + (s.now + 192000 - s.line.openedAt) / Config.tickMs) := by
  decide +kernel

theorem test_witness_TableWriteStores_places :
    15 < tableEntries 7 ∧ 13 < tableEntries 9 ∧ (9, 13) ∈ [(7, 8), (9, 13)] ∧ 14 < tableEntries 9 ∧
      (9, 14) ≠ (9, 13) := by decide +kernel

theorem test_witness_TableWriteStores_manyEntries :
    (∃ R : List RouteEntry, (List.replicate 16 0#8).length = 8 * 2 ∧ 14 + 2 ≤ 16 ∧ R.length = 16 ∧
      ∀ j, j < 16 → R[j]? = if 14 ≤ j ∧ j < 14 + 2
        then RouteEntry.ofBytes (((List.replicate 16 0#8).drop (8 * (j - 14))).take 8)
        else ready.tables.route[j]?) ∧
      ((List.replicate 20 0#8).length = 4 * 5 ∧ 27 + 5 ≤ 32) ∧ ((List.replicate 20 0#8).length = 5 * 4 ∧ 0 + 4 ≤ 4) ∧
      ((List.replicate 15 0#8).length = 3 * 5 ∧ 0 + 5 ≤ 5) ∧
      ((List.replicate 21 0#8).length = 3 * 7 ∧ 8 + 7 ≤ tableEntries 9 ∧ 9 + 7 ≤ tableEntries 7) ∧
      (ready.mode = .loading ∧ ready.ice.st.inFill = false ∧ 1 ≤ ready.tables.general.relayhigh) :=
  ⟨⟨List.replicate 14 .powerOn ++ List.replicate 2 { RouteEntry.powerOn with address := some 0 }, by decide +kernel⟩,
    by decide +kernel⟩

/-- Writes of two entries: all values first, then the orderings of R40 and R181; and two route entries (R188). -/
theorem test_write_two_entries :
    let heat := after (.tableWrite 5 [7, 6, 0, 0x0E, 0x10, 0, 0x02, 0x58]) ready
    let relay := after (.tableWrite 5 [6, 4, 0, 0, 2, 0, 0, 3]) ready
    let route := after (.tableWrite 5 ([1, 14] ++ (RouteEntry.lifting .door .forward none).toBytes ++
      (RouteEntry.lifting .trunk .discard (some .lock)).toBytes)) ready
    (heat.tables.defrost.targetheat, heat.tables.defrost.heatmax) = (3600, 3600) ∧
      heat.link.uplink.map (·.frame.payload) = [[0, 1]] ∧
      (relay.tables.general.relayhigh, relay.tables.general.relaylow) = (2, 1) ∧
      relay.link.uplink.map (·.frame.payload) = [[0, 1]] ∧
      route.tables.route = List.replicate 14 .powerOn ++
        [RouteEntry.lifting .door .forward none, RouteEntry.lifting .trunk .discard (some .lock)] := by decide +kernel

/-- HARVTEMP written 0 is stored as -50, and RETRIES written 4 as 3 (R70, R188). -/
theorem test_ice_ranges :
    (after (.tableWrite 5 [8, 4, 0, 0, 0]) ready).tables.ice.harvtemp = -50 ∧
      (after (.tableWrite 5 [8, 13, 0, 0, 4]) ready).tables.ice.retries = 3 ∧
      (after (.tableWrite 5 [8, 4, 0xFF, 0xFF, 0x38]) ready).link.uplink.map (·.frame.payload) = [[0, 0]] := by
  decide +kernel

/-- RELAYHIGH written 1 with one frame waiting closes the flow and draws RELAYLOW below it (R173, R181). -/
theorem test_relayhigh_draws_relaylow :
    let t := after (.tableWrite 5 [6, 4, 0, 0, 0])
      (ready.setLink { ready.link with relay := [{ frame := request, expectsReply := true }] })
    t.tables.general.relayhigh = 1 ∧ t.tables.general.relaylow = 0 ∧ t.link.flow = .flowBusy ∧
      t.link.uplink.map (·.frame.payload) = [[0, 2]] := by decide +kernel

theorem test_witness_TrunkFrameForwarded :
    (let s := ready.hearing .trunk request
     s.link.trunk.tx = .idle ∧ s.link.trunk.rx = .atCheck request.lead request.kind request.payload ∧
       request.check = frameCheck request.lead request.kind request.payload ∧ request.kind ≠ 0x7F#8 ∧
       request.lead ≠ s.ownAddress ∧ (∀ e ∈ s.tables.route, e.hits .trunk request = false) ∧
       s.tables.general.trunkdefault = 0 ∧ s.tables.doorSet.getLsbD request.lead.toNat = true ∧
       s.link.flow = .flowOpen ∧ s.link.relay.length ≤ 3) ∧
      (let s := (ready.hearing .trunk request).setLink { (ready.hearing .trunk request).link with flow := .flowBusy }
       s.link.flow = .flowBusy ∧ s.link.uplink.length ≤ 2) ∧
      ready.tables.doorSet.getLsbD 0 = false ∧ (0#8 ≠ 63#8) ∧ (0#8 ≠ ready.ownAddress) ∧
      ((ready.defaulting 2 0).hearing .trunk request).tables.general.trunkdefault = 2 ∧
      (let s := (ready.defaulting 1 0).hearing .trunk request
       s.tables.general.trunkdefault = 1 ∧ (∀ e ∈ s.tables.route, e.hits .trunk request = false) ∧
         s.link.flow = .flowOpen ∧ s.link.relay.length ≤ 3) := by decide +kernel

theorem test_witness_TrunkFrameForwarded_oneEntry :
    ∀ kind : Option ObsKind, kind = none ∨ kind = some .measure →
    let e := RouteEntry.lifting .trunk .discard kind
    let s := (ready.routed 15 e).hearing .trunk request
    s.tables.route = List.replicate 15 RouteEntry.powerOn ++ e :: [] ∧
      (∀ x ∈ List.replicate 15 RouteEntry.powerOn ++ [], x.hits .trunk request = false) ∧ e.valid = true ∧
      e.direction = .trunk ∧ e.address = some request.lead ∧ e.kindLow.toNat ≤ request.kind.toNat ∧
      request.kind.toNat ≤ e.kindHigh.toNat ∧ decodeValue e request.payload .measure = none ∧
      decodeValue e request.payload .lock = some 1 ∧ s.disp.measured = .inactive ∧ s.disp.st ≠ .pour ∧
      s.disp.st ≠ .deliver ∧ s.link.flow = .flowOpen ∧ s.link.relay.length ≤ 3 := by
  rintro kind (rfl | rfl) <;> decide +kernel

theorem test_witness_TrunkFrameForwarded_manyEntries :
    (let a := RouteEntry.lifting .trunk .noteOnly none
     let b := RouteEntry.lifting .trunk .discard none
     let s := (ready.routedTwo a b).hearing .trunk request
     (∀ x ∈ s.tables.route, x.hits .trunk request = true → x.kind = none) ∧
       s.tables.route = (a :: List.replicate 14 RouteEntry.powerOn) ++ b :: [] ∧
       (∀ x ∈ a :: List.replicate 14 RouteEntry.powerOn, x.hits .trunk request = true → x.action = .noteOnly) ∧
       b.hits .trunk request = true ∧ s.link.flow = .flowOpen ∧ s.link.relay.length ≤ 3) ∧
      (let a := RouteEntry.lifting .trunk .noteOnly none
       let s := ((ready.defaulting 2 0).routedTwo a a).hearing .trunk request
       (∀ x ∈ s.tables.route, x.hits .trunk request = true → x.action = .noteOnly) ∧
         s.tables.general.trunkdefault = 2) ∧
      (let a := RouteEntry.lifting .trunk .noteOnly (some .lock)
       let b := RouteEntry.lifting .trunk .discard (some .fzdoor)
       let s := (ready.routedTwo a b).hearing .trunk request
       s.tables.route = [] ++ a :: (List.replicate 14 RouteEntry.powerOn ++ b :: []) ∧
         (∀ x ∈ [] ++ List.replicate 14 RouteEntry.powerOn ++ [], x.hits .trunk request = false) ∧
         a.hits .trunk request = true ∧ b.hits .trunk request = true ∧
         decodeValue a request.payload .lock = some 1 ∧ decodeValue b request.payload .fzdoor = some 1 ∧
         decodeValue b request.payload .measure = none ∧ s.disp.measured = .inactive ∧ s.disp.st ≠ .pour ∧
         s.disp.st ≠ .deliver) := by decide +kernel

/-- A frame is forwarded by an entry, by TRUNKDEFAULT 1, and by the door set where the matching entries only note. -/
theorem test_witness_TrunkFrameForwarded_sendsOn :
    let note := RouteEntry.lifting .trunk .noteOnly (some .lock)
    let pass := RouteEntry.lifting .trunk .forward (some .fzdoor)
    ((ready.routedTwo note pass).hearing .trunk request).sendsOn request ∧
      (((ready.defaulting 1 0).routedTwo note note).hearing .trunk request).sendsOn request ∧
      ((ready.routedTwo note note).hearing .trunk request).sendsOn request :=
  ⟨.inl ⟨by decide, RouteEntry.lifting .trunk .noteOnly (some .lock) :: List.replicate 14 .powerOn, [], _, rfl,
      by decide +kernel, by decide +kernel, rfl⟩,
    .inr ⟨by decide +kernel, .inl rfl⟩, .inr ⟨by decide +kernel, .inr ⟨rfl, .inr (by decide +kernel)⟩⟩⟩

/-- A frame is discarded by an entry, by TRUNKDEFAULT 2, and by TRUNKDEFAULT 0 for the address 0. -/
theorem test_witness_TrunkFrameForwarded_keepsBack :
    let drop := RouteEntry.lifting .trunk .discard (some .lock)
    (ready.routedTwo drop drop).keepsBack request ∧ (ready.defaulting 2 0).keepsBack request ∧
      ready.keepsBack (Frame.build 0 0x10 []) :=
  ⟨.inl ⟨by decide, [], _, _, rfl, by decide, by decide +kernel, rfl⟩, .inr ⟨by decide +kernel, .inl rfl⟩,
    .inr ⟨by decide +kernel, .inr ⟨rfl, by decide, by decide +kernel⟩⟩⟩

theorem test_witness_TrunkFrameForwarded_lifting :
    let note := RouteEntry.lifting .trunk .noteOnly (some .fzdoor)
    let s := (ready.routedTwo note note).hearing .trunk request
    let u := (running.pouring.routedTwo note note).hearing .trunk request
    s.pourStands (s.liftedObs .trunk request 55) ∧ s.link.flow = .flowOpen ∧ s.link.relay.length ≤ 3 ∧
      s.link.uplink.length ≤ 3 ∧ (s.link.doorSide = .free ∧ s.link.door.quietAt 55) ∧
      (u.disp.st = .pour ∧ u.liftsDoor .trunk request ∧ (u.liftedObs .trunk request 55).fzdoor.value ≠ 0 ∧
        u.link.doorSide = .free) ∧
      ((ready.exchanging .taking).hearing .trunk request).link.doorSide ≠ .free := by decide +kernel

/-- A frame forwarded by the door set, and one refused BUSY, lift what the NOTE ONLY entries name; DOOR sends at once
(R151, R166, R172). In a pour the freezer door's opening ends it (R106). -/
theorem test_forwarded_frame_lifts :
    let note := RouteEntry.lifting .trunk .noteOnly (some .lock)
    let door := RouteEntry.lifting .trunk .noteOnly (some .fzdoor)
    let t := after (.trunkFrameReceived 55 request.check) ((ready.routedTwo note door).hearing .trunk request)
    let busy := (ready.routedTwo note door).hearing .trunk request
    let u := after (.trunkFrameReceived 55 request.check) (busy.setLink { busy.link with flow := .flowBusy })
    let v := after (.trunkFrameReceived 55 request.check) ((running.pouring.routedTwo note door).hearing .trunk request)
    t.link.relay.length = 1 ∧ t.link.doorSide = .sending ∧ t.link.door.tx = .sending 55 ∧
      t.obs.lock.source = .route 0 ∧ t.obs.fzdoor.source = .route 15 ∧ u.link.doorCount.busy = 1 ∧
      u.obs.lock.value = 1 ∧ v.disp.st = .idle ∧ v.line.lastClosed = some .wv ∧ v.link.relay.length = 1 := by
  decide +kernel

/-- The lowest entry that decides has its way, and both lift their observations (R151, R166). -/
theorem test_lowest_entry_decides :
    let note := RouteEntry.lifting .trunk .noteOnly (some .lock)
    let drop := RouteEntry.lifting .trunk .discard (some .fzdoor)
    let pass := RouteEntry.lifting .trunk .forward (some .fzdoor)
    let t := after (.trunkFrameReceived 55 request.check) ((ready.routedTwo note drop).hearing .trunk request)
    let u := after (.trunkFrameReceived 55 request.check) ((ready.routedTwo drop pass).hearing .trunk request)
    t.link.relay = [] ∧ t.obs.lock.source = .route 0 ∧ t.obs.fzdoor.source = .route 15 ∧ u.link.relay = [] ∧
      u.obs.fzdoor.source = .route 15 ∧
      (after (.trunkFrameReceived 55 request.check)
        ((ready.routedTwo pass drop).hearing .trunk request)).link.relay.length = 1 := by decide +kernel

theorem test_witness_FramesDiscarded :
    (let s := ready.hearing .trunk request
     s.link.trunk.tx = .idle ∧ s.link.trunk.rx = .atCheck request.lead request.kind request.payload ∧
       request.check + 1 ≠ frameCheck request.lead request.kind request.payload) ∧
      (let f := Frame.build 1 0x7F []
       (ready.hearing .trunk f).link.trunk.rx = .atCheck f.lead f.kind f.payload ∧
         f.check = frameCheck f.lead f.kind f.payload ∧ f.kind = 0x7F#8) ∧
      (let s := ready.hearing .door request
       s.link.door.tx = .idle ∧ s.link.door.rx = .atCheck request.lead request.kind request.payload ∧
         s.link.doorSide ≠ .taking) := by decide +kernel

theorem test_witness_DoorCandidateEnds :
    (let s := (ready.exchanging .taking).hearing .door reply
    s.link.door.tx = .idle ∧ s.link.door.rx = .atCheck reply.lead reply.kind reply.payload ∧
      s.link.doorSide = .taking ∧ s.link.relay = [{ frame := request, expectsReply := true }] ∧
      request.kind.toNat ≤ 126 ∧ s.link.uplink.length ≤ 2 ∧ (∀ e ∈ s.tables.route, e.hits .door reply = false) ∧
      reply.check = frameCheck reply.lead reply.kind reply.payload ∧ reply.kind = request.kind + 0x80#8 ∧
      (0x91#8 ≠ request.kind + 0x80#8) ∧ reply.check + 1 ≠ frameCheck reply.lead reply.kind reply.payload) ∧
      (let s := ready.hearing .door request
       s.link.door.rx = .atCheck request.lead request.kind request.payload ∧
         request.check = frameCheck request.lead request.kind request.payload ∧ s.link.doorSide ≠ .taking ∧
         request.kind.toNat ≤ 127) ∧
      (let s := (ready.defaulting 0 1).hearing .door reply
       128 ≤ reply.kind.toNat ∧ (∀ e ∈ s.tables.route, e.hits .door reply = false) ∧
         s.tables.general.doordefault = 1 ∧ s.link.uplink.length ≤ 2) ∧
      (let e := RouteEntry.lifting .door .discard (some .measure)
       let s := (ready.routed 0 e).hearing .door reply
       s.tables.route = [] ++ e :: List.replicate 15 RouteEntry.powerOn ∧
         (∀ x ∈ [] ++ List.replicate 15 RouteEntry.powerOn, x.hits .door reply = false) ∧ e.valid = true ∧
         e.direction = .door ∧ e.address = some reply.lead ∧ e.kindLow.toNat ≤ reply.kind.toNat ∧
         reply.kind.toNat ≤ e.kindHigh.toNat ∧ decodeValue e reply.payload .measure = some 1799 ∧
         s.disp.measured = .inactive ∧ s.disp.st ≠ .pour ∧ s.disp.st ≠ .deliver) := by decide +kernel

theorem test_witness_DoorCandidateEnds_manyEntries :
    (let a := RouteEntry.lifting .door .noteOnly none
     let b := RouteEntry.lifting .door .forward none
     let s := ((ready.queued 3 false).routedTwo a b).hearing .door reply
     s.link.door.tx = .idle ∧ s.link.door.rx = .atCheck reply.lead reply.kind reply.payload ∧
       s.link.doorSide ≠ .taking ∧ 128 ≤ reply.kind.toNat ∧
       (∀ x ∈ s.tables.route, x.hits .door reply = true → x.kind = none) ∧
       s.tables.route = (a :: List.replicate 14 RouteEntry.powerOn) ++ b :: [] ∧
       (∀ x ∈ a :: List.replicate 14 RouteEntry.powerOn, x.hits .door reply = true → x.action = .noteOnly) ∧
       b.hits .door reply = true ∧ s.link.uplink.length = 3 ∧
       ((ready.queued 2 false).routedTwo a b).link.uplink.length ≤ 2) ∧
      (let a := RouteEntry.lifting .door .noteOnly none
       let s := (((ready.queued 3 false).defaulting 0 1).routedTwo a a).hearing .door reply
       (∀ x ∈ s.tables.route, x.hits .door reply = true → x.action = .noteOnly) ∧
         s.tables.general.doordefault = 1 ∧ s.link.uplink.length = 3) ∧
      (let s := ((ready.queued 3 false).exchanging .taking).hearing .door reply
       s.link.door.tx = .idle ∧ s.link.doorSide = .taking ∧ s.link.uplink.length = 3 ∧
         s.link.relay = [{ frame := request, expectsReply := true }] ∧ request.kind.toNat ≤ 126 ∧
         (∀ e ∈ s.tables.route, e.hits .door reply = false)) := by decide +kernel

theorem test_witness_DoorCandidateEnds_lifting :
    let drop := RouteEntry.lifting .door .discard (some .measure)
    let note := RouteEntry.lifting .door .noteOnly (some .fzdoor)
    let s := (((running.exchanging .taking).defaulting 0 2).routedTwo drop note).hearing .door reply
    let u := ((running.pouring.exchanging .taking).routedTwo drop note).hearing .door reply
    s.link.door.tx = .idle ∧ s.link.doorSide = .taking ∧
      s.link.relay = [{ frame := request, expectsReply := true }] ∧ request.kind.toNat ≤ 126 ∧
      128 ≤ reply.kind.toNat ∧ reply.kind = request.kind + 0x80#8 ∧ (0x91#8 ≠ request.kind + 0x80#8) ∧
      s.pourStands (s.liftedObs .door reply 55) ∧ s.link.uplink.length ≤ 2 ∧
      (s.queued 3 false).link.uplink.length = 3 ∧ u.disp.st = .pour ∧ u.liftsDoor .door reply ∧
      (u.liftedObs .door reply 55).fzdoor.value ≠ 0 := by decide +kernel

/-- A reply not awaited: discarded, or forwarded, by an entry; and left to DOORDEFAULT by entries that only note. -/
theorem test_witness_DoorCandidateEnds_notAwaited :
    let drop := RouteEntry.lifting .door .discard (some .lock)
    let pass := RouteEntry.lifting .door .forward (some .lock)
    let note := RouteEntry.lifting .door .noteOnly (some .lock)
    ((ready.routedTwo drop note).hearing .door reply).decidedBy .door reply .discard ∧
      ((ready.routedTwo pass note).hearing .door reply).decidedBy .door reply .forward ∧
      ((ready.routedTwo note note).hearing .door reply).onlyNoted .door reply ∧
      ((ready.routedTwo note note).hearing .door reply).link.doorSide ≠ .taking :=
  ⟨⟨by decide, [], _, _, rfl, by decide, by decide +kernel, rfl⟩,
    ⟨by decide, [], _, _, rfl, by decide, by decide +kernel, rfl⟩, by decide +kernel, by decide +kernel⟩

/-- The awaited reply is forwarded against a DISCARD entry and DOORDEFAULT 2, and both entries lift (R151, R177); so
they do from a reply of another kind, whose exchange ends with a BAD_FRAME notice. -/
theorem test_awaited_reply_lifts :
    let drop := RouteEntry.lifting .door .discard (some .measure)
    let note := { RouteEntry.lifting .door .noteOnly (some .lock) with kindHigh := 0x91 }
    let wrong := Frame.build 1 0x91 [7]
    let s := ((ready.exchanging .taking).defaulting 0 2).routedTwo drop note
    let t := after (.doorFrameReceived 55 reply.check) (s.hearing .door reply)
    let u := after (.doorFrameReceived 55 wrong.check) (s.hearing .door wrong)
    t.link.uplink.map (·.frame) = [reply] ∧ t.obs.measure.value = 1799 ∧ t.obs.measure.source = .route 0 ∧
      t.obs.lock.source = .route 15 ∧ t.link.trunk.tx = .sending 55 ∧
      u.link.uplink.map (·.frame.payload) = [[1, 0x10, 3]] ∧ u.obs.lock.source = .route 15 ∧
      u.obs.measure.st = .never := by decide +kernel

/-- A reply that finds three frames waiting is dropped and counted, and its exchange ends all the same (R177, R179). -/
theorem test_full_queue_drops_reply :
    let t := after (.doorFrameReceived 55 reply.check) (((ready.queued 3 false).exchanging .taking).hearing .door reply)
    t.link.uplink.length = 3 ∧ t.link.trunkCount.dropped = 1 ∧ t.link.relay = [] ∧ t.link.doorSide = .free := by
  decide +kernel

/-- The reply not awaited is stray with DOORDEFAULT 0, and its observation is lifted all the same (R151, R168). -/
theorem test_stray_reply_lifts :
    let t := after (.doorFrameReceived 55 reply.check)
      ((ready.routed 0 (.lifting .door .noteOnly (some .measure))).hearing .door reply)
    t.link.doorCount.stray = 1 ∧ t.obs.measure.value = 1799 ∧ t.obs.measure.source = .route 0 := by decide +kernel

theorem test_witness_FramesAbandoned :
    (let s := ready.mid .trunk (.atLength 1 1)
     s.link.trunk.tx = .idle ∧ s.link.trunk.rx ≠ .waiting ∧ 24 < (25#8).toNat ∧ s.link.trunk.lastChar = some 5 ∧
       (s.queued 1 false).link.uplink ≠ [] ∧ s.link.uplink = []) ∧
      (let s := ready.mid .door (.atLength 1 1)
       s.link.door.tx = .idle ∧ s.link.door.rx = .atLength 1 1 ∧ s.link.door.rx ≠ .waiting ∧ s.link.doorSide = .free ∧
         s.link.door.lastChar = some 5 ∧ s.link.relay = []) ∧
      (let s := (ready.exchanging .free).mid .door (.atLength 1 1)
       s.link.doorSide = .free ∧ s.link.relay ≠ []) ∧
      (let s := (ready.exchanging (.awaiting 9)).mid .door (.atLength 1 1)
       s.link.door.tx = .idle ∧ s.link.doorSide = .awaiting 9 ∧
         s.link.relay = [{ frame := request, expectsReply := true }] ∧ (1#8 = request.lead ∧ (1#8).toNat ≤ 63)) ∧
      (let s := (ready.exchanging .taking).mid .door (.atLength 1 1)
       s.link.door.tx = .idle ∧ s.link.door.rx = .atLength 1 1 ∧ s.link.doorSide = .taking ∧
         s.link.relay = [{ frame := request, expectsReply := true }] ∧ s.link.uplink.length ≤ 2 ∧
         (s.queued 3 false).link.uplink.length = 3 ∧ s.link.door.lastChar = some 5) := by decide +kernel

/-- A pause with a frame waiting counts GAP and begins its sending, at its own port alone (R161, R163). In AWAITING the
window runs on (R176). -/
theorem test_pause_sends_waiting_frame :
    let t := after (.frameAbandonedGap .trunk) ((ready.queued 1 false).mid .trunk (.atKind 1))
    let d := after (.frameAbandonedGap .door) ((ready.exchanging .free).mid .door (.atKind 1))
    let w := after (.frameAbandonedGap .door) ((ready.exchanging (.awaiting 9)).mid .door (.atKind 2))
    let m := after (.frameAbandonedMark 9 .door 1) ((ready.exchanging (.awaiting 9)).mid .door (.atKind 2))
    t.link.trunkCount.gap = 1 ∧ t.link.trunk.tx = .sending 170 ∧ t.now = 170 ∧ d.link.doorCount.gap = 1 ∧
      d.link.door.tx = .sending 170 ∧ d.link.doorSide = .sending ∧ w.link.doorCount.gap = 1 ∧
      w.link.doorSide = .awaiting 9 ∧ w.link.door.tx = .idle ∧ m.link.doorSide = .taking ∧
      m.link.doorCount.mark = 1 := by decide +kernel

/-- A mark, and a pause, in TAKING end the exchange; after the pause the next request goes out at once (R177). -/
theorem test_abandoned_in_taking :
    let s := ((ready.exchanging .taking).mid .door (.atLength 1 1))
    let two := s.setLink { s.link with relay := List.replicate 2 { frame := request, expectsReply := true } }
    (after (.frameAbandonedMark 9 .door 64) s).link.doorSide = .free ∧
      (after (.frameAbandonedMark 9 .door 64) two).link.doorSide = .free ∧
      (after (.frameAbandonedGap .door) s).link.doorSide = .free ∧
      (after (.frameAbandonedGap .door) two).link.doorSide = .sending ∧
      (after (.frameAbandonedGap .door) two).link.door.tx = .sending 170 ∧
      (after (.frameAbandonedGap .door) s).link.uplink.map (·.frame.payload) = [[1, 0x10, 3]] := by decide +kernel

theorem test_witness_FrameReassembled :
    ready.link.trunk.tx = .idle ∧ ready.link.trunk.rx = .waiting ∧ (63#8).toNat ≤ 63 ∧
      (List.replicate 24 0#8).length ≤ 24 := by decide +kernel

theorem test_witness_SendingBegins :
    (let s := (ready.queued 1 false).driving .trunk .idle
     s.link.trunk.rx = .waiting ∧ s.link.trunk.tx = .idle ∧ s.link.uplink ≠ [] ∧ s.link.trunk.lastChar = some 5) ∧
      (let s := (ready.exchanging .free).driving .door .idle
       s.link.door.rx = .waiting ∧ s.link.door.tx = .idle ∧ s.link.doorSide = .free ∧ s.link.relay ≠ [] ∧
         s.link.door.lastChar = some 5) := by decide +kernel

theorem test_witness_FramesSent :
    (let s := (ready.queued 1 false).driving .trunk (.sending 0)
     s.link.trunk.tx = .sending 0 ∧ s.link.uplink = [{ frame := reply, isRestartReply := false }]) ∧
      (let s := (ready.exchanging .sending).driving .door (.sending 0)
       s.link.door.tx = .sending 0 ∧ s.link.relay = [{ frame := request, expectsReply := true }]) ∧
      (let s := (ready.driving .door (.sending 0)).setLink { (ready.driving .door (.sending 0)).link with
         doorSide := .sending, relay := [{ frame := request, expectsReply := false }] }
       s.link.door.tx = .sending 0 ∧ s.link.relay = [{ frame := request, expectsReply := false }]) ∧
      (ready.driving .trunk (.trailing 0)).link.trunk.tx = .trailing 0 ∧
      (ready.driving .door (.trailing 0)).link.door.tx = .trailing 0 := by decide +kernel

theorem test_witness_CollisionLosesFrame :
    let s := (ready.queued 1 false).driving .trunk (.sending 0)
    s.link.trunk.tx = .sending 0 ∧ s.link.uplink = [{ frame := reply, isRestartReply := false }] := by decide +kernel

theorem test_witness_ReplyWindowRunsOut :
    let s := ready.exchanging (.awaiting 7)
    s.link.doorSide = .awaiting 7 ∧ s.link.relay = [{ frame := request, expectsReply := true }] ∧
      s.link.uplink.length ≤ 2 ∧ (s.queued 3 false).link.doorSide = .awaiting 7 ∧
      (s.queued 3 false).link.uplink.length = 3 ∧
      (after .replyWindowExpiry (s.queued 3 false)).link.trunkCount.dropped = 1 ∧ s.link.door.quietAt 7 ∧
      s.link.trunk.quietAt 7 ∧ (after .replyWindowExpiry s).link.trunk.tx = .sending 7 := by decide +kernel

theorem test_witness_AwaitedLeadTakes :
    let s := ready.exchanging (.awaiting 7)
    s.link.doorSide = .awaiting 7 ∧ s.link.relay = [{ frame := request, expectsReply := true }] ∧
      request.lead.toNat ≤ 63 ∧ s.link.door.tx = .idle := by decide +kernel

theorem test_witness_ObservationAges :
    (ready.obs.get .fzdoor).st = .never ∧ ((ready.seeing .fzdoor 1).obs.get .fzdoor).st ≠ .never ∧
      (let s := ready.setObs (ready.obs.set .fzdoor { value := 1, st := .fresh, age := 4, source := .direct, ageAt := 0 })
       (s.obs.get .fzdoor).st = .fresh ∧ s.tables.general.staleLimit .fzdoor = (s.obs.get .fzdoor).age + 1 ∧
         s.tables.general.staleLimit .fzdoor ≤ 255) := by decide +kernel

theorem test_witness_SampleMovesChannel :
    (ready.tables.chanMap.get .evap).sel = .noCurve ∧ curveValid (ready.tables.curve .curveA) = false ∧
      (let s := ready.feeling .evap 0
       (s.tables.chanMap.get .evap).sel ≠ .noCurve ∧ (9#12).toNat < (s.tables.chanMap.get .evap).below ∧
         (s.tables.chanMap.get .evap).above < (4001#12).toNat ∧
         (s.tables.chanMap.get .evap).below ≤ (10#12).toNat ∧ (10#12).toNat ≤ (s.tables.chanMap.get .evap).above ∧
         curveValid (s.tables.curve (s.tables.chanMap.get .evap).sel) = true ∧
         ((after (.sampleCompletion 1 .evap 10) s).temps.get .evap).range = .settled ∧
         ((after (.sampleCompletion 1 .evap 10) s).temps.get .evap).value = some (-80) ∧
         ((after (.sampleCompletion 1 .evap 9)
           (s.setTemps (s.temps.set .evap { s.temps.get .evap with lowRun := 3 }))).temps.get .evap).range = .low ∧
         ((after (.sampleCompletion 1 .evap 9)
           (s.setTemps (s.temps.set .evap { s.temps.get .evap with lowRun := 3 }))).temps.get .evap).value = some 0) := by
  decide +kernel

theorem test_witness_DefrostSecondAccrues :
    running.mode = .running ∧ running.defrost.st = .accrue ∧
      min 16777215 (running.defrost.estimate + 16) < running.defrost.thr ∧
      min 3932100 (running.defrost.capElapsed + 1) < running.tables.defrost.cap * 3600 ∧
      (let s := (running.frosting .due).seeing .fzdoor 1
       s.defrost.st = .due ∧ min 65535 (s.defrost.timeInDue + 1) < s.tables.defrost.defermax ∧
         s.obs.fzdoor.st = .fresh ∧ s.obs.fzdoor.value ≠ 0) := by decide +kernel

theorem test_witness_TriggersEnterDue :
    (let s := running.setDefrost { running.defrost with estimate := 1382384 }
     s.mode = .running ∧ s.defrost.st = .accrue ∧ s.defrost.thr ≤ min 16777215 (s.defrost.estimate + s.accrual)) ∧
      (let s := running.setDefrost { running.defrost with capElapsed := 259199 }
       min 16777215 (s.defrost.estimate + s.accrual) < s.defrost.thr ∧
         s.tables.defrost.cap * 3600 ≤ min 3932100 (s.defrost.capElapsed + 1)) ∧
      (let s := running.setDefrost { running.defrost with estimate := 1382384, capElapsed := 259199 }
       s.defrost.thr ≤ min 16777215 (s.defrost.estimate + s.accrual) ∧
         s.tables.defrost.cap * 3600 ≤ min 3932100 (s.defrost.capElapsed + 1)) := by decide +kernel

/-- With E at THR in the second of the cap the trigger is ESTIMATE (R6). -/
theorem test_cap_with_estimate :
    let t := after .capReached (running.setDefrost { running.defrost with estimate := 1382384, capElapsed := 259199 })
    t.defrost.st = .due ∧ t.defrost.trigger = .estimate ∧ t.defrost.capElapsed = 259200 := by decide +kernel

theorem test_witness_DueAndHoldEnd :
    (let s := running.setDefrost { running.defrost with st := .due, timeInDue := 899 }
     s.mode = .running ∧ s.defrost.st = .due ∧ s.tables.defrost.defermax ≤ min 65535 (s.defrost.timeInDue + 1)) ∧
      (let s := running.setDefrost { running.defrost with st := .hold, stateTime := 179 }
       s.defrost.st = .hold ∧ ¬(s.obs.compressor.st = .fresh ∧ s.obs.compressor.value = 0) ∧
         s.tables.defrost.compwait ≤ min 65535 (s.defrost.stateTime + 1) ∧ s.gate.reqState .dh = .noRequest ∧
         s.forcedTogether = false ∧ s.gate.wait = [] ∧ s.gate.weightInUse .dh ≤ s.gate.budgetFree) ∧
      (let s := ((running.frosting .hold).granting .am).seeing .compressor 0
       s.gate.reqState .dh = .noRequest ∧ s.gate.wait = [] ∧ s.gate.weightInUse .dh ≤ s.gate.budgetFree) ∧
      (let s := (running.frosting .hold).seeing .compressor 0
       s.defrost.st = .hold ∧ s.forcedTogether = false ∧ s.obs.compressor.st = .fresh ∧
         s.obs.compressor.value = 0) ∧
      (running.setDefrost { running.defrost with st := .hold, trigger := .forced }).forcedTogether = true ∧
      (let s := running.frosting .due
       s.defrost.st = .due ∧ ¬(s.obs.fzdoor.st = .fresh ∧ s.obs.fzdoor.value ≠ 0) ∧ s.disp.st ≠ .pour ∧
         s.disp.st ≠ .deliver ∧ s.ice.st ≠ .harvestHeat ∧ s.ice.st ≠ .harvestRake) := by decide +kernel

/-- The second that falls together with a DEFROST NOW taken first tests nothing; the next one does (R7; log 40). -/
theorem test_second_together_with_defrost_now :
    let s := (running.seeing .compressor 0).setDefrost { running.defrost with secondAt := 5 }
    let t := after .defrostSecond (after (.defrostNow 5 []) s)
    t.defrost.st = .hold ∧ t.defrost.stateTime = 1 ∧ (after .defrostSecond t).defrost.st = .heat := by decide +kernel

/-- A second that completes later than the DEFROST NOW makes HOLD's test (R27, R30). -/
theorem test_second_after_defrost_now :
    let s := (running.seeing .compressor 0).setDefrost { running.defrost with secondAt := 5 }
    (after .defrostSecond (after (.defrostNow 4 []) s)).defrost.st = .heat := by decide +kernel

theorem test_witness_HeatTimeEnds :
    (let s := (running.granting .dh).setDefrost { running.defrost with st := .heat, heatBegun := true, heaterOn := 2699 }
     s.mode = .running ∧ s.defrost.st = .heat ∧ s.gate.heaterOn .dh = true ∧ s.usable .evap = none ∧
       s.tables.defrost.fixedheat ≤ s.defrost.heaterOn + 1 ∧ s.apart .dh ∧ s.noneWaitsBut .dh) ∧
      (let s := ((running.granting .dh).setDefrost
         { running.defrost with st := .heat, heatBegun := true, heaterOn := 2699 }).feeling .evap 79
       s.usable .evap = some 79 ∧ 79 < s.tables.defrost.termtemp ∧
         s.tables.defrost.heatmax ≤ s.defrost.heaterOn + 1 ∧ s.gate.wait = []) ∧
      (let s := (running.granting .dh).setDefrost { running.defrost with st := .heat, heatBegun := true, heaterOn := 2699 }
       let g := { s.gate with granted := { s.gate.granted with dh := false } }
       g.weightInUse .th ≤ g.budgetFree ∧ (entry .th 1 (some 7)).out = .th) := by decide +kernel

/-- DH's release with TH waiting leaves HM closed and TH on; with none waiting HM holds for 10 s (R126, R131). -/
theorem test_release_hands_on :
    let s := (running.granting .dh).setDefrost { running.defrost with st := .heat, heatBegun := true, heaterOn := 2699 }
    let w := s.setGate { s.gate with wait := [entry .th 1 (some 7)] }
    (after .fixedheatExpiry w).drives.th = true ∧ (after .fixedheatExpiry w).gate.wait = [] ∧
      (after .fixedheatExpiry s).gate.hm = .hmHolding 960000 ∧ (after .fixedheatExpiry s).drives.dh = false := by
  decide +kernel

theorem test_witness_TempEndAdapts :
    let s := ((running.granting .dh).frosting .heat).feeling .evap 80
    s.mode = .running ∧ s.defrost.st = .heat ∧ s.gate.heaterOn .dh = true ∧ s.usable .evap = some 80 ∧
      s.tables.defrost.termtemp ≤ 80 := by decide +kernel

theorem test_witness_DripAndFanDelayEnd :
    (let s := running.setDefrost { running.defrost with st := .drip, stateTime := 299 }
     s.mode = .running ∧ s.defrost.st = .drip ∧ s.tables.defrost.driptime ≤ min 65535 (s.defrost.stateTime + 1)) ∧
      (let s := (running.setDefrost { running.defrost with st := .recover, stateTime := 419 }).feeling .evap (-99)
       s.defrost.st = .recover ∧ s.tables.defrost.fanmax ≤ min 65535 (s.defrost.stateTime + 1) ∧
         s.usable .evap = some (-99) ∧ s.tables.defrost.fantemp < -99) ∧
      (let s := (running.frosting .recover).feeling .evap (-100)
       s.defrost.st = .recover ∧ s.usable .evap = some (-100) ∧ (-100 : Int) ≤ s.tables.defrost.fantemp) := by
  decide +kernel

theorem test_witness_IceSecondCompletes :
    (running.mode = .running ∧ running.ice.st = .off ∧ (running.icing (.fill .suspended)).ice.st.inFill = true ∧
      (running.setIce { running.ice with st := .fault, retry := 1 }).ice.retry = 1) ∧
      (let s := running.setIce { running.ice with st := .freeze, freezetime := 5398 }
       s.usable .tray = none ∧ min 65535 (s.ice.freezetime + 1) < s.tables.ice.freezefixed) ∧
      (let s := running.setIce { running.ice with st := .freeze, freezetime := 5399 }
       s.usable .tray = none ∧ s.tables.ice.freezefixed ≤ min 65535 (s.ice.freezetime + 1)) ∧
      (let s := (running.setIce { running.ice with st := .freeze, belowtime := 598, freezetime := 7198 }).feeling .tray (-120)
       s.usable .tray = some (-120) ∧ (-120 : Int) ≤ s.tables.ice.harvtemp ∧
         min 65535 (s.ice.freezetime + 1) < s.tables.ice.freezemax ∧
         min 65535 (s.ice.belowtime + 1) < s.tables.ice.freezehold) ∧
      (let s := (running.setIce { running.ice with st := .freeze, belowtime := 599, freezetime := 7199 }).feeling .tray (-120)
       s.usable .tray = some (-120) ∧ s.tables.ice.freezehold ≤ min 65535 (s.ice.belowtime + 1) ∧
         s.tables.ice.freezemax ≤ min 65535 (s.ice.freezetime + 1)) ∧
      (running.icing .harvestHeat).gate.heaterOn .th = false ∧
      (let s := ((running.granting .th).setIce { running.ice with st := .harvestHeat, heatTime := 238 }).feeling .tray 19
       s.ice.st = .harvestHeat ∧ s.gate.heaterOn .th = true ∧ s.ice.heatTime + 1 < s.tables.ice.harvheatmax ∧
         s.usable .tray = some 19 ∧ 19 < s.tables.ice.releasetemp) ∧
      (let s := running.setIce { running.ice with st := .park, disablePending := true }
       s.mode = .running ∧ s.ice.st = .park ∧ s.ice.disablePending = true) ∧
      (running.binned.icing .park).inputs.binfull = true ∧
      (1 < (running.setIce { running.ice with st := .park, retry := 2 }).ice.retry) ∧
      (let s := (running.icing .park).feeling .fzair (-79)
       s.usable .fzair = some (-79) ∧ s.tables.ice.icemaxair < -79) ∧
      (let s := (running.setIce { running.ice with st := .park, retry := 1 }).feeling .fzair (-80)
       s.ice.disablePending = false ∧ s.inputs.binfull = false ∧ s.ice.retry = 1 ∧ s.usable .fzair = some (-80) ∧
         (-80 : Int) ≤ s.tables.ice.icemaxair ∧ s.line.st = .idle ∧ s.line.lastClosed ≠ some .wv) ∧
      (let s := (running.icing .park).closed .wv 0
       s.ice.retry = 0 ∧ s.usable .fzair = none ∧ s.line.st = .idle ∧ s.line.lastClosed = some .wv ∧
         s.line.changeoverEnd = some 0 ∧ 0 ≤ max s.now s.ice.secondAt) ∧
      (let s := (running.icing .park).closed .wv 1
       s.line.st = .idle ∧ s.line.changeoverEnd = some 1 ∧ max s.now s.ice.secondAt < 1) ∧
      (let s := (running.icing .park).lining .pour
       s.line.st = .pour ∧ s.line.fillWaiting = false) := by decide +kernel

theorem test_witness_FreezeEnds :
    (let s := (running.setIce { running.ice with st := .freeze, belowtime := 599, freezetime := 7199 }).feeling .tray (-120)
     s.mode = .running ∧ s.ice.st = .freeze ∧ s.usable .tray = some (-120) ∧ (-120 : Int) ≤ s.tables.ice.harvtemp ∧
       s.tables.ice.freezehold ≤ min 65535 (s.ice.belowtime + 1) ∧
       s.tables.ice.freezemax ≤ min 65535 (s.ice.freezetime + 1)) ∧
      (let s := running.setIce { running.ice with st := .freeze, freezetime := 5399 }
       s.usable .tray = none ∧ s.tables.ice.freezefixed ≤ min 65535 (s.ice.freezetime + 1)) ∧
      (let s := ((running.setIce { running.ice with st := .freeze, belowtime := 299 }).feeling .tray (-120)).seeing .fastice 1
       s.obs.fastice.st = .fresh ∧ s.obs.fastice.value ≠ 0 ∧
         s.tables.ice.freezehold / 2 ≤ min 65535 (s.ice.belowtime + 1)) := by decide +kernel

theorem test_witness_HarvestHeatEnds :
    (let s := (running.granting .th).setIce { running.ice with st := .harvestHeat, heatTime := 239 }
    s.mode = .running ∧ s.ice.st = .harvestHeat ∧ s.gate.heaterOn .th = true ∧
      s.tables.ice.harvheatmax ≤ s.ice.heatTime + 1) ∧
      (let s := ((running.granting .th).icing .harvestHeat).feeling .tray 20
       s.mode = .running ∧ s.ice.st = .harvestHeat ∧ s.gate.heaterOn .th = true ∧ s.usable .tray = some 20 ∧
         s.tables.ice.releasetemp ≤ 20 ∧ s.gate.reqState .em = .noRequest ∧ s.gate.wait = [] ∧
         s.gate.weightInUse .em ≤ s.gate.budgetFree) := by decide +kernel

theorem test_witness_HarvestHeatEnds_relay :
    (((running.granting .th).icing .harvestHeat).feeling .tray 20).heaterInv :=
  ⟨fun _ => .inl rfl, by decide +kernel⟩

/-- The rake begins in the second that ends the harvest heat, TH released (R86). -/
theorem test_rake_begins_at_once :
    let t := after .iceSecond (((running.granting .th).icing .harvestHeat).feeling .tray 20)
    t.gate.granted = { GrantSet.empty with em := true } ∧ t.gate.hm = .hmHolding 960000 ∧ t.ice.rakeBegun = true ∧
      t.ice.rakeleaveAt = some 288000 ∧ t.ice.rakemaxAt = some 1920000 ∧ t.drives.em = true := by decide +kernel

theorem test_witness_RakeSupervised :
    ¬(ready.ice.st = .harvestRake ∧ ready.ice.rakeBegun = true) ∧
      ((running.raked false).ice.st = .harvestRake ∧ (running.raked false).ice.rakeBegun = true ∧
        (running.raked false).inputs.home = true ∧ (running.raked false).ice.leftMark = false ∧
        (running.raked false).ice.rakeleaveAt = some 10 ∧ (running.raked false).ice.rakemaxAt = some 20 ∧
        (running.raked false).apart .em) ∧
      ((running.unhomed.raked true).inputs.home = false ∧ (running.unhomed.raked true).ice.leftMark = true ∧
        (running.unhomed.raked true).apart .em) := by decide +kernel

theorem test_witness_BinLookedAt :
    (running.setIce { running.ice with st := .binfull, binwaitAt := some 3 }).inputs.binfull = false ∧
      (running.binned.setIce { running.ice with st := .binfull, binwaitAt := some 3 }).inputs.binfull = true := by
  decide +kernel

theorem test_witness_LineOpens :
    (let s := running.setLine { running.line with st := .changeover .dispenser, changeoverEnd := some 4 }
     s.line.st = .changeover .dispenser ∧ s.line.changeoverEnd = some 4) ∧
      (let s := running.setLine { running.line with st := .changeover .iceMaker, changeoverEnd := some 4 }
       s.line.st = .changeover .iceMaker ∧ s.line.changeoverEnd = some 4) ∧
      (let s := (running.setLine { running.line with lastClosed := some .iv }).setIce
         { running.ice with st := .fill .suspended, resumeAt := some 4 }
       s.ice.resumeAt = some 4 ∧ s.line.st = .idle ∧ s.line.lastClosed = some .iv) ∧
      (let s := (running.closed .wv 4).resuming 4
       s.ice.resumeAt = some 4 ∧ s.line.st = .idle ∧ s.line.lastClosed = some .wv ∧ s.line.changeoverEnd = some 4 ∧
         max s.now 3 < 4) ∧
      (let s := (running.lining .pour).setIce { running.ice with st := .fill .suspended, resumeAt := some 4 }
       s.ice.resumeAt = some 4 ∧ s.line.st = .pour ∧ s.line.fillWaiting = false) := by decide +kernel

/-- After a pour the suspended fill resumes at the changeover's end, not before (R46, R47, R78). -/
theorem test_resume_after_pour :
    (after .resumeTimerExpiry ((running.closed .wv 4).resuming 4)).line.st = .fill ∧
      (after .resumeTimerExpiry ((running.closed .wv 5).resuming 4)).line.st = .changeover .iceMaker ∧
      (after .resumeTimerExpiry ((running.closed .wv 5).resuming 4)).ice.st = .fill .lineWait := by decide +kernel

theorem test_parameters_in_range : ∀ own : Byte, own = 48 ∨ own = 49 → Tables.inRange (Tables.powerOn own) := by
  intro own ho table i h1 h2 h3
  rcases ho with rfl | rfl <;> interval_cases table <;> simp only [tableEntries] at h3 <;> interval_cases i <;> decide

theorem test_witness_FillEnds :
    (let s := (running.filling 1380).setLine { (running.filling 1380).line with fillTally := 39 }
     s.ice.st = .fill .flowing ∧ s.line.st = .fill ∧ s.line.flowk ≠ 0 ∧
       s.tables.ice.fillvol / 4 ≤ s.line.fillTally * 1000 / s.line.flowk ∧ s.line.filterTotal ≤ Config.max32) ∧
      (let s := running.filling 1380
       s.line.fillTally * 1000 / s.line.flowk < s.tables.ice.fillvol / 4 ∧
         min 255 (s.ice.faultCount + 1) ≤ s.tables.ice.retries) ∧
      (let s := (running.filling 1380).setIce { (running.filling 1380).ice with faultCount := 2 }
       s.ice.st = .fill .flowing ∧ s.tables.ice.retries < min 255 (s.ice.faultCount + 1) ∧ s.apart .ft) ∧
      (let s := running.filling 0
       s.ice.st = .fill .flowing ∧ s.line.st = .fill ∧ s.line.flowk = 0 ∧ s.ice.opened = true ∧
         s.line.fillOpen ≤ Config.max32 ∧ s.tables = Tables.powerOn 48) ∧
      (let s := (running.pouring.measuring .active 0).setLine { running.pouring.line with flowk := 0 }
       s.line.st = .pour ∧ s.line.flowk = 0 ∧ s.disp.measured = .active ∧ s.tables = Tables.powerOn 48 ∧
         s.disp.target ≤ 2000 ∧ s.line.pourOpen ≤ Config.max32 ∧ s.line.fillWaiting = false ∧
         s.line.fillSuspended = false) ∧
      (let s := running.setIce { running.ice with trailAt := some 6 }
       s.ice.trailAt = some 6 ∧ s.apart .ft ∧ s.noneWaitsBut .ft) := by decide +kernel

/-- 250 mL at 30.0 mL/s take 8,334 ms; a fill without a meter lasts FILLMAX at most. -/
theorem test_unmetered_ends :
    let t := after .unmeteredVolumeReached ((running.pouring.measuring .active 0).setLine { running.pouring.line with flowk := 0 })
    t.disp.st = .lockout ∧ t.disp.poured = 250 ∧ t.now = 8334 * Config.tickMs ∧
      (after .fillmaxExpiry (running.filling 0)).ice.st = .freeze ∧
      (after .fillmaxExpiry (running.filling 0)).ice.elapsed = 10000 := by decide +kernel

/-- The coast after a completed measured fill is counted in poured until WV opens again; a plain pour's is not
(R113; log 34). -/
theorem test_coast_after_completion :
    let s := after (.flowPulse 1) (running.pouring.measuring .active 344)
    let t := after (.flowPulse 1) (after (.flowPulse 1) s)
    s.disp.measured = .inactive ∧ s.disp.poured = 250 ∧ t.disp.poured = 251 ∧ t.disp.measured = .inactive ∧
      (after (.flowPulse 1) (after (.press 1) (after (.release 1) t))).disp.poured = 251 := by decide +kernel

theorem test_witness_PulseCounted :
    ((ready.setLine { ready.line with flowk := 0 }).line.flowk = 0 ∧ ready.line.flowk ≠ 0 ∧
      ready.line.lastClosed = none ∧ ready.line.st ≠ .fill ∧ ready.line.st ≠ .pour) ∧
      (let s := running.setLine { (running.closed .iv 19200).line with st := .changeover .dispenser }
       s.line.st ≠ .fill ∧ s.line.st ≠ .pour ∧ s.line.lastClosed = some .iv ∧
         s.now + 143999 < s.line.closeAt + s.tables.water.coast * Config.tickMs ∧
         s.line.closeAt + s.tables.water.coast * Config.tickMs ≤ s.now + 144000) ∧
      (let s := (running.filling 1380).setLine { (running.filling 1380).line with fillTally := 157 }
       s.line.st = .fill ∧ s.ice.st.inFill = true ∧
         min 65535 (s.line.fillTally + 1) * 1000 / s.line.flowk < s.tables.ice.fillvol) ∧
      (let s := (running.filling 1380).setLine { (running.filling 1380).line with fillTally := 158 }
       s.line.st = .fill ∧ s.ice.st.inFill = true ∧ s.ice.opened = true ∧
         s.tables.ice.fillvol ≤ min 65535 (s.line.fillTally + 1) * 1000 / s.line.flowk) ∧
      (let s := ((running.closed .iv 19200).setIce { running.ice with st := .fill .suspended, opened := true }).setLine
         { (running.closed .iv 19200).line with st := .changeover .dispenser, fillTally := 158 }
       s.ice.st.inFill = true ∧ s.line.lastClosed = some .iv ∧
         s.now + 1 < s.line.closeAt + s.tables.water.coast * Config.tickMs ∧
         s.tables.ice.fillvol ≤ min 65535 (s.line.fillTally + 1) * 1000 / s.line.flowk) ∧
      (let s := running.pouring.measuring .active 343
       s.line.st = .pour ∧ s.disp.measured ≠ .inactive ∧
         s.disp.pouredBase + min 65535 (s.line.pourTally + 1) * 1000 / s.line.flowk < s.disp.target) ∧
      (let s := running.pouring.measuring .active 344
       s.line.st = .pour ∧ s.disp.measured = .active ∧ s.line.fillWaiting = false ∧ s.line.fillSuspended = false ∧
         s.disp.target ≤ s.disp.pouredBase + min 65535 (s.line.pourTally + 1) * 1000 / s.line.flowk) ∧
      (let s := running.closed .wv 19200
       s.line.st ≠ .fill ∧ s.line.lastClosed = some .wv ∧ s.disp.measured = .inactive ∧
         s.now + 1 < s.line.closeAt + s.tables.water.coast * Config.tickMs) ∧
      (let s := (running.closed .wv 19200).measuring .paused 344
       s.line.st ≠ .fill ∧ s.line.lastClosed = some .wv ∧ s.disp.measured = .paused ∧
         s.now + 1 < s.line.closeAt + s.tables.water.coast * Config.tickMs ∧
         s.disp.target ≤ s.disp.pouredBase + min 65535 (s.line.pourTally + 1) * 1000 / s.line.flowk) := by
  decide +kernel

/-- The pulse at which the fill reaches FILLVOL ends it; the one at which poured reaches the target completes it. -/
theorem test_pulse_ends :
    (after (.flowPulse 1) ((running.filling 1380).setLine { (running.filling 1380).line with fillTally := 158 })).ice.st =
        .freeze ∧
      (after (.flowPulse 1) (running.pouring.measuring .active 344)).disp.st = .lockout ∧
      (after (.flowPulse 1) (running.pouring.measuring .active 344)).disp.poured = 250 := by decide +kernel

theorem test_witness_NoFlowFound :
    (let s := (running.setLine { running.line with st := .pour, noflowAt := some 9 })
     s.line.noflowAt = some 9 ∧ s.line.noflowSeen = false ∧ s.line.st = .pour) ∧
      (let s := running.filling 1380
       s.line.noflowAt = some 9 ∧ s.line.noflowSeen = false ∧ s.line.st = .fill ∧
         min 255 (s.ice.faultCount + 1) ≤ s.tables.ice.retries) ∧
      (let s := (running.filling 1380).setIce { (running.filling 1380).ice with faultCount := 2 }
       s.tables.ice.retries < min 255 (s.ice.faultCount + 1)) := by decide +kernel

theorem test_witness_PressAndRelease :
    (ready.inputs.paddle = false ∧ ready.mode = .loading) ∧
      (running.inputs.paddle = false ∧ running.mode = .running ∧ running.disp.st = .idle ∧
        running.obs.lock.st = .never ∧ running.obs.fzdoor.st ≠ .fresh ∧ running.obs.select.st = .never ∧
        running.obs.measure.st = .never ∧ running.disp.measured = .inactive ∧ running.line.st = .idle ∧
        running.line.lastClosed ≠ some .iv) ∧
      ((running.seeing .select 2).obs.select.st ≠ .never ∧ (running.seeing .select 2).obs.select.value = 2) ∧
      ((running.dispensing .flaphold).disp.st = .flaphold ∧ (running.dispensing .flaphold).inputs.paddle = false ∧
        ((running.closed .iv 7).line.changeoverEnd = some 7 ∧ 7 ≤ (running.closed .iv 7).now + 7)) ∧
      ((running.seeing .measure 250).obs.measure.st ≠ .never ∧ (running.seeing .measure 250).obs.measure.value ≠ 0 ∧
        (running.seeing .measure 250).disp.measured = .inactive) ∧
      ((running.measuring .paused 0).disp.measured = .paused ∧ (running.measuring .paused 0).line.st = .idle) ∧
      (let s := running.filling 1380
       s.line.st = .fill ∧ s.ice.st = .fill .flowing ∧ s.line.flowk ≠ 0 ∧ s.line.filterTotal ≤ Config.max32 ∧
         s.disp.st = .idle ∧ s.obs.select.st = .never ∧ s.obs.measure.st = .never) ∧
      (running.lining (.changeover .iceMaker)).line.st = .changeover .iceMaker ∧
      ((running.closed .iv 7).line.st = .idle ∧ (running.closed .iv 7).line.lastClosed = some .iv ∧
        (running.closed .iv 7).now + 6 < 7) ∧
      (let s := running.seeing .select 1
       s.gate.reqState .am = .noRequest ∧ s.gate.wait = [] ∧ s.gate.weightInUse .am ≤ s.gate.budgetFree) := by decide +kernel

theorem test_witness_PressAndRelease_relay : (running.seeing .select 1).heaterInv :=
  ⟨fun h => absurd h (by decide +kernel), by decide +kernel⟩

theorem test_witness_PressAndRelease_releases :
    ((running.paddled.dispensing .lockout).inputs.paddle = true ∧
        (running.paddled.dispensing .lockout).disp.st = .lockout) ∧
      (let s := (running.paddled.dispensing .pour).lining .pour
       s.disp.st = .pour ∧ s.line.st = .pour ∧ s.line.fillWaiting = false ∧ s.line.fillSuspended = false ∧
         s.line.flowk ≠ 0 ∧ s.line.filterTotal ≤ Config.max32) ∧
      (let s := (running.paddled.icing .binfull).setDisp { running.disp with st := .deliver, flap := true, delivered := true }
       s.inputs.paddle = true ∧ s.disp.st = .deliver ∧ s.apart .am ∧ s.disp.delivered = true ∧ s.ice.st = .binfull ∧
         s.inputs.binfull = false) ∧
      (let s := running.pouring.awaited
       s.inputs.paddle = true ∧ s.disp.st = .pour ∧ s.line.st = .pour ∧ s.line.flowk ≠ 0 ∧
         s.line.filterTotal ≤ Config.max32 ∧ s.line.fillWaiting = true ∧ s.tables.water.changeover ≠ 0) ∧
      (let s := running.pouring.suspended
       s.line.fillWaiting = false ∧ s.line.fillSuspended = true) ∧
      (let s := (running.closed .iv 7).paddled.suspended.dispensing .pour |>.lining (.changeover .dispenser)
       s.line.st = .changeover .dispenser ∧ s.line.fillWaiting = false ∧ s.awaited.line.fillWaiting = true ∧
         s.awaited.line.lastClosed = some .iv ∧ s.awaited.disp.st = .pour ∧ s.awaited.inputs.paddle = true) := by decide +kernel

/-- A press for cubes has AM on at once; a release hands the line to the fill that waits, and tells the suspended one. -/
theorem test_press_and_release :
    let t := after (.press 1) (running.seeing .select 1)
    t.drives.am = true ∧ t.disp.delivered = true ∧ t.disp.augerAt = some (1 + 60 * Config.tickSecond) ∧
      (after (.release 1) running.pouring.awaited).line.st = .changeover .iceMaker ∧
      (after (.release 1) running.pouring.suspended).line.st = .idle ∧
      (after (.release 1) running.pouring.suspended).ice.resumeAt = some (1 + 2 * Config.tickSecond) ∧
      (after (.press 6) (running.closed .iv 7)).line.st = .changeover .dispenser ∧
      (after (.press 7) (running.closed .iv 7)).line.st = .pour := by decide +kernel

theorem test_witness_DispenserTimers :
    (let s := ((running.lining .pour).setDisp { running.disp with st := .pour, pourAt := some 8 })
     s.disp.pourAt = some 8 ∧ s.line.st = .pour) ∧
      (let s := (running.granting .am).setDisp { running.disp with st := .deliver, flap := true, augerAt := some 8 }
       s.disp.augerAt = some 8 ∧ s.apart .am) ∧
      (let s := (running.icing .binfull).setDisp { running.disp with st := .deliver, delivered := true, augerAt := some 8 }
       s.disp.augerAt = some 8 ∧ s.disp.delivered = true ∧ s.ice.st = .binfull ∧ s.inputs.binfull = false) ∧
      (let s := running.pouring.timed 8
       s.disp.pourAt = some 8 ∧ s.line.st = .pour ∧ s.line.flowk ≠ 0 ∧ s.line.filterTotal ≤ Config.max32 ∧
         s.line.fillWaiting = false ∧ s.awaited.line.fillWaiting = true ∧ s.tables.water.changeover ≠ 0) ∧
      (let s := ((running.closed .iv 9).paddled.dispensing .pour |>.lining (.changeover .dispenser)).timed 8
       s.disp.pourAt = some 8 ∧ s.disp.st = .pour ∧ s.line.st = .changeover .dispenser ∧ s.line.fillWaiting = false ∧
         s.awaited.line.fillWaiting = true ∧ s.awaited.line.lastClosed = some .iv) ∧
      (running.setDisp { running.disp with st := .flaphold, flap := true, flapAt := some 8 }).disp.flapAt = some 8 ∧
      (running.setDisp { running.disp with measured := .paused, pauseAt := some 8 }).disp.pauseAt = some 8 := by
  decide +kernel

/-- POURMAX hands the line on as a release does; AUGERMAX reports the delivery (R51, R75, R107, R111). -/
theorem test_timers_hand_on :
    (after .pourmaxExpiry (running.pouring.awaited.timed 8)).line.st = .changeover .iceMaker ∧
      (after .pourmaxExpiry (running.pouring.suspended.timed 8)).ice.resumeAt = some (8 + 2 * Config.tickSecond) ∧
      (after .pourmaxExpiry (running.pouring.timed 8)).disp.st = .lockout ∧
      (after .augermaxExpiry ((running.icing .binfull).setDisp
        { running.disp with st := .deliver, delivered := true, augerAt := some 8 })).ice.st = .park := by decide +kernel

/-- DH is on and TH waits behind it, with its aging timer running. -/
def contended : State :=
  (running.setGate { running.gate with
      granted := { GrantSet.empty with dh := true }, hm := .hmClosed, wait := [entry .th 1 (some 7)] }).setDefrost
    { running.defrost with st := .heat, heatBegun := true }

theorem test_contended_in_order : contended.loadInv := by
  refine ⟨⟨by decide +kernel, fun o => by cases o <;> decide +kernel, by decide +kernel, fun _ => .inl rfl, ?_⟩, ?_⟩
  · decide +kernel
  · intro h; exact absurd h (by decide +kernel)

/-- One output alone waits, with an owner that takes any grant. -/
def promotable (o : Gated) : State :=
  (((running.setGate { running.gate with wait := [entry o 1 (some 7)] }).frosting .heat).dispensing .deliver).icing
    .harvestRake

theorem test_promotable_in_order : ∀ o : Gated, (promotable o).loadInv := by
  intro o
  refine ⟨⟨by cases o <;> decide +kernel, fun p => by cases o <;> cases p <;> decide +kernel,
    by cases o <;> decide +kernel, fun h => ?_, by cases o <;> decide +kernel, by cases o <;> decide +kernel,
    by cases o <;> decide +kernel⟩, fun h => ?_⟩
  all_goals exact absurd h (by cases o <;> decide +kernel)

theorem test_promoted_head_fits : ∀ o : Gated,
    (promotable o).gate.wait = [] ++ entry o 1 (some 7) :: [] ∧
      (promotable o).gate.weightInUse o ≤ (promotable o).gate.budgetFree ∧
      (promotable o).disp.st = .deliver ∧ (promotable o).ice.st = .harvestRake ∧
      (after (.agingTimerExpiry o) (promotable o)).gate.granted.get o = true ∧
      (after (.agingTimerExpiry o) (promotable o)).gate.wait = [] := by
  intro o; cases o <;> decide +kernel

theorem test_witness_GateTimers :
    (contended.gate.wait = [] ++ entry .th 1 (some 7) :: [] ∧ (entry .th 1 (some 7)).cls ≠ 0 ∧
      (∀ x ∈ contended.gate.wait, contended.gate.budgetFree < contended.gate.weightInUse x.out)) ∧
      (let s := running.setGate { running.gate with hm := .hmClosing 7 }
       s.gate.hm = .hmClosing 7 ∧ s.defrost.st ≠ .heat) ∧
      (let s := (running.frosting .heat).setGate
         { running.gate with hm := .hmClosing 7, granted := { GrantSet.empty with dh := true } }
       s.gate.hm = .hmClosing 7 ∧ s.defrost.st = .heat ∧ s.gate.granted.dh = true) ∧
      (running.setGate { running.gate with hm := .hmHolding 7 }).gate.hm = .hmHolding 7 := by decide +kernel

theorem test_witness_LoadingDrivesOff : (State.powerOn true).mode = .loading ∧ (State.powerOn true).loadInv := by
  refine ⟨rfl, ⟨by decide +kernel, fun o => by cases o <;> decide +kernel, by decide +kernel, ?_, ?_⟩, ?_⟩
  · intro h; exact absurd h (by decide +kernel)
  · decide +kernel
  · intro _; decide +kernel

theorem test_witness_StepKeepsLoadGate :
    (contended.setPending [.agingTimerExpiry .th]).loadInv ∧
      ∃ t, step (contended.setPending [.agingTimerExpiry .th]) = .next t :=
  ⟨test_contended_in_order, _, rfl⟩

theorem test_witness_StepKeepsParameters :
    ((State.powerOn true).setPending [.tableWrite 1 [7, 0, 0, 0, 0]]).paramInv ∧
      ∃ t, step ((State.powerOn true).setPending [.tableWrite 1 [7, 0, 0, 0, 0]]) = .next t :=
  ⟨⟨test_parameters_in_range _ (.inr rfl), by decide +kernel, by decide +kernel, by decide +kernel⟩, _, rfl⟩

theorem test_witness_StepKeepsSizes :
    ((State.powerOn true).setPending [.press 1]).sizeInv ∧
      ∃ t, step ((State.powerOn true).setPending [.press 1]) = .next t :=
  ⟨by decide +kernel, _, rfl⟩

theorem test_witness_ConversionFollowsCurve :
    rising ≠ [] ∧ rising.Pairwise (fun p q => p.count < q.count) ∧ rising.length = 16 ∧
      (0 : Nat) ≤ (rising.getD 0 .powerOn).count ∧ (rising.getD 15 .powerOn).count ≤ 1500 ∧
      (rising.getD 14 .powerOn).count ≤ 1499 ∧ 1499 < (rising.getD 15 .powerOn).count := by decide +kernel

theorem test_witness_DecodingRules :
    (let e : RouteEntry := { RouteEntry.powerOn with offset := 1, mask := 0xC0 }
     e.offset < ([0, 0x80, 5] : List Byte).length ∧ e.offset + 1 < ([0, 0x80, 5] : List Byte).length ∧
       e.mask.getLsbD 6 = true ∧ (∀ j, j < 6 → e.mask.getLsbD j = false) ∧
       decodeValue e [0, 0x80, 5] .select = some 2 ∧ decodeValue e [0, 0x80, 5] .measure = some 2000 ∧
       ([0] : List Byte).length ≤ e.offset) ∧
      (RouteEntry.powerOn.mask = 0#8) := by decide +kernel

theorem test_witness_RouteEntryRoundTrip :
    let e : RouteEntry := { RouteEntry.powerOn with address := some 63, kindHigh := 0xFF, offset := 23 }
    (63#8).toNat ≤ 63 ∧ e.kindLow.toNat ≤ e.kindHigh.toNat ∧ e.offset ≤ 23 ∧ RouteEntry.ofBytes e.toBytes = some e ∧
      (RouteEntry.lifting .door .discard (some .measure)).toBytes = [1, 1, 1, 0x10, 0x90, 0x25, 0, 0xFF] := by
  decide +kernel

end Sys2Proof.Tests
end

section
/-! The conversion of a mean (R141): the walk through the curve, and the statement about it. -/

namespace Sys2Proof.Machine

/-- The temperature of a mean on the segment from `p` to `q` (R141). -/
def CurvePoint.segmentTemp (m : Nat) (p q : CurvePoint) : Int :=
  p.temp + Int.tdiv ((q.temp - p.temp) * ((m : Int) - p.count)) ((q.count : Int) - p.count)

/-- A mean that lands on the segment's first point has that point's temperature (R141). -/
@[simp] theorem CurvePoint.segmentTemp_start (p q : CurvePoint) : p.segmentTemp p.count q = p.temp := by
  simp [segmentTemp]

/-- The walk stops at the first segment whose end is above the mean. -/
theorem convertFrom_cons_of_lt {m : Nat} {q : CurvePoint} (p : CurvePoint) (qs : List CurvePoint) (h : m < q.count) :
    convertFrom m p (q :: qs) = p.segmentTemp m q := if_pos h

/-- The walk goes on from a point at or below the mean. -/
theorem convertFrom_cons_of_le {m : Nat} {q : CurvePoint} (p : CurvePoint) (qs : List CurvePoint) (h : q.count ≤ m) :
    convertFrom m p (q :: qs) = convertFrom m q qs := if_neg (Nat.not_lt.mpr h)

/-- Up to the first count the conversion is clamped to the first temperature. -/
theorem convert_cons_of_le {m : Nat} {p : CurvePoint} (ps : List CurvePoint) (h : m ≤ p.count) :
    convert m (p :: ps) = some p.temp := congrArg some (if_pos h)

/-- On a rising curve no count is below the first. -/
theorem head_count_le_of_mem {p x : CurvePoint} {ps : List CurvePoint}
    (rise : (p :: ps).Pairwise fun a b => a.count < b.count) (hx : x ∈ p :: ps) : p.count ≤ x.count :=
  (rise.imp Nat.le_of_lt).rel_head_of_rel_head_head hx (Nat.le_refl _)

/-- At or above the first count the conversion is the walk: on the first count itself both give its temperature. -/
theorem convert_cons_of_count_le {m : Nat} {p : CurvePoint} {ps : List CurvePoint}
    (rise : (p :: ps).Pairwise fun a b => a.count < b.count) (h : p.count ≤ m) :
    convert m (p :: ps) = some (convertFrom m p ps) := by
  rcases Nat.lt_or_eq_of_le h with above | rfl
  · exact congrArg some (if_neg (Nat.not_le.mpr above))
  · rw [convert_cons_of_le ps (Nat.le_refl _)]
    cases ps with
    | nil => rfl
    | cons q qs =>
      have hq : p.count < q.count := List.rel_of_pairwise_cons rise List.mem_cons_self
      rw [convertFrom_cons_of_lt p qs hq, CurvePoint.segmentTemp_start]

/-- Where no count is above the mean the walk ends at the last point. -/
theorem convertFrom_eq_getLast {m : Nat} (p : CurvePoint) (qs : List CurvePoint) (below : ∀ q ∈ qs, q.count ≤ m) :
    convertFrom m p qs = ((p :: qs).getLast (List.cons_ne_nil p qs)).temp := by
  induction qs generalizing p with
  | nil => rfl
  | cons q qs ih =>
    obtain ⟨hq, hqs⟩ := List.forall_mem_cons.mp below
    rw [convertFrom_cons_of_le p qs hq, ih q hqs, List.getLast_cons_cons]

/-- On a rising curve the walk stops at the segment that holds the mean. -/
theorem convertFrom_eq_segmentTemp {m : Nat} {p : CurvePoint} {qs : List CurvePoint}
    (rise : (p :: qs).Pairwise fun a b => a.count < b.count) (i : Nat) (hi : i < qs.length)
    (atOrBelow : ((p :: qs)[i]'(Nat.lt_succ_of_lt hi)).count ≤ m) (above : m < qs[i].count) :
    convertFrom m p qs = ((p :: qs)[i]'(Nat.lt_succ_of_lt hi)).segmentTemp m qs[i] := by
  induction qs generalizing p i with
  | nil => exact absurd hi (Nat.not_lt_zero i)
  | cons q qs ih =>
    cases i with
    | zero => exact convertFrom_cons_of_lt p qs above
    | succ i =>
      have hq : q.count ≤ m := Nat.le_trans (head_count_le_of_mem rise.of_cons (List.getElem_mem _)) atOrBelow
      rw [convertFrom_cons_of_le p qs hq]
      exact ih rise.of_cons i (Nat.lt_of_succ_lt_succ hi) atOrBelow above

/-- On a rising curve no count is above the last. -/
theorem count_le_getLast {pts : List CurvePoint} (rise : pts.Pairwise fun a b => a.count < b.count) {x : CurvePoint}
    (hx : x ∈ pts) : x.count ≤ (pts.getLast (List.ne_nil_of_mem hx)).count :=
  (rise.imp Nat.le_of_lt).rel_getLast_of_rel_getLast_getLast hx (Nat.le_refl _)

/-- Settles O8: the first count, the last count and the segments between, each by the walk's own rule. -/
theorem conversionFollowsCurve : Obligations.ConversionFollowsCurve := by
  unfold Obligations.ConversionFollowsCurve
  intro pts m h rise
  cases pts with
  | nil => exact absurd rfl h
  | cons p ps =>
    refine ⟨convert_cons_of_le ps, fun last_le => ?_, fun i h1 h2 atOrBelow above => ?_⟩
    · have below : ∀ q ∈ p :: ps, q.count ≤ m := fun q hq => Nat.le_trans (count_le_getLast rise hq) last_le
      obtain ⟨hp, hps⟩ := List.forall_mem_cons.mp below
      rw [convert_cons_of_count_le rise hp, convertFrom_eq_getLast p ps hps]
    · have hp : p.count ≤ m := Nat.le_trans (head_count_le_of_mem rise (List.getElem_mem h1)) atOrBelow
      rw [convert_cons_of_count_le rise hp,
        convertFrom_eq_segmentTemp rise i (Nat.lt_of_succ_lt_succ h2) atOrBelow above]
      rfl

end Sys2Proof.Machine
end

section
/-! The decoding of a payload (R152 to R155): one rule for a hit and one for a miss of each kind of value, and the
statement about them. -/

namespace Sys2Proof.Machine

section
variable {e : RouteEntry} {payload : List Byte}

/-! ### The flags (R152) -/

/-- Each kind the statement names a flag is decoded as one. -/
theorem decodeValue_of_flagKind {k : ObsKind}
    (hk : k = .fzdoor ∨ k = .ffdoor ∨ k = .compressor ∨ k = .lock ∨ k = .fastice) :
    decodeValue e payload k = decodeFlag e payload := by
  obtain rfl | rfl | rfl | rfl | rfl := hk <;> rfl

/-- "Not 0, reversed by the invert flag" is true just where "is 0" and "is inverted" agree. -/
theorem flagTest_iff (b : Byte) (invert : Bool) :
    (decide (b ≠ 0#8) != invert) = true ↔ (b = 0#8 ↔ invert = true) := by
  cases invert <;> simp

theorem decodeFlag_of_lt (h : e.offset < payload.length) :
    decodeFlag e payload = some (if payload[e.offset] &&& e.mask = 0#8 ↔ e.invert = true then 1 else 0) := by
  simp only [decodeFlag, List.getElem?_eq_getElem h, Option.map_some, flagTest_iff]

theorem decodeFlag_of_le (h : payload.length ≤ e.offset) : decodeFlag e payload = none := by
  simp only [decodeFlag, List.getElem?_eq_none h, Option.map_none]

/-! ### SELECT (R153) -/

/-- The lowest set bit is the one that is set with none set below it. -/
theorem lowestSetBit_eq_some {b : Byte} {i : Nat} :
    lowestSetBit b = some i ↔ i < 8 ∧ b.getLsbD i = true ∧ ∀ j, j < i → b.getLsbD j = false := by
  simp only [lowestSetBit, List.find?_range_eq_some, List.mem_range, Bool.not_eq_true']
  exact and_left_comm

@[simp] theorem lowestSetBit_zero : lowestSetBit 0#8 = none := by decide

theorem decodeSelect_of_lt {i : Nat} (h : e.offset < payload.length) (low : lowestSetBit e.mask = some i) :
    decodeSelect e payload =
      if (payload[e.offset] &&& e.mask).toNat / 2 ^ i ≤ 2
      then some ((payload[e.offset] &&& e.mask).toNat / 2 ^ i) else none := by
  simp only [decodeSelect, List.getElem?_eq_getElem h, low]

theorem decodeSelect_of_le (h : payload.length ≤ e.offset) : decodeSelect e payload = none := by
  simp only [decodeSelect, List.getElem?_eq_none h]

/-- A mask of 0 has no lowest set bit, so SELECT misses whether or not the byte is there. -/
theorem decodeSelect_of_mask_zero (h : e.mask = 0#8) : decodeSelect e payload = none := by
  cases hb : payload[e.offset]? <;> simp only [decodeSelect, hb, h, lowestSetBit_zero]

/-! ### MEASURE (R154) -/

theorem numberOf_pair (hi lo : Byte) : numberOf [hi, lo] = hi.toNat * 256 + lo.toNat := by
  simp [numberOf]

theorem decodeMeasure_of_lt (h : e.offset + 1 < payload.length) :
    decodeMeasure e payload = some (clampMeasure (payload[e.offset].toNat * 256 + payload[e.offset + 1].toNat)) := by
  have first : e.offset < payload.length := Nat.lt_of_succ_lt h
  simp only [decodeMeasure, List.getElem?_eq_getElem first, List.getElem?_eq_getElem h, numberOf_pair]

/-- Without the second byte MEASURE misses, the first byte there or not. -/
theorem decodeMeasure_of_le (h : payload.length ≤ e.offset + 1) : decodeMeasure e payload = none := by
  cases hb : payload[e.offset]? <;> simp only [decodeMeasure, hb, List.getElem?_eq_none h]

end

/-- Settles O9: the hit and the miss of a flag, of SELECT and of MEASURE. -/
theorem decodingRules : Obligations.DecodingRules := by
  unfold Obligations.DecodingRules
  intro e payload
  refine ⟨fun k hk => ?flag, fun h i hi set clear => ?select, ?selectMiss, fun h => ?measure, decodeMeasure_of_le⟩
  case flag =>
    rw [decodeValue_of_flagKind hk]
    exact ⟨decodeFlag_of_lt, decodeFlag_of_le⟩
  case select =>
    have low : lowestSetBit e.mask = some i := lowestSetBit_eq_some.mpr ⟨hi, set, clear⟩
    exact decodeSelect_of_lt h low
  case selectMiss =>
    rintro (noMask | noByte)
    · exact decodeSelect_of_mask_zero noMask
    · exact decodeSelect_of_le noByte
  case measure => exact decodeMeasure_of_lt h

end Sys2Proof.Machine
end


section
/-! What the jobs' operations leave of the parameters, the threshold, the link and the line's four-byte counts: the part
of the invariants that no job but the defrost controller moves. -/

namespace Sys2Proof.Machine

/-- The filter total and the open times fit their four bytes (03, section 3.1). -/
def Line.bounded (l : Line) : Prop :=
  l.filterTotal ≤ Config.max32 ∧ l.fillOpen ≤ Config.max32 ∧ l.pourOpen ≤ Config.max32

/-- What an operation of the water line, the ice maker, the dispenser or the gate leaves. -/
structure JobFrame (s t : State) : Prop where
  mode : t.mode = s.mode
  tables : t.tables = s.tables
  ownAddress : t.ownAddress = s.ownAddress
  link : t.link = s.link
  thr : t.defrost.thr = s.defrost.thr
  estimate : t.defrost.estimate = s.defrost.estimate
  ring : t.defrost.ring = s.defrost.ring
  bounded : s.line.bounded → t.line.bounded

theorem JobFrame.refl (s : State) : JobFrame s s := ⟨rfl, rfl, rfl, rfl, rfl, rfl, rfl, id⟩

theorem JobFrame.trans {s t u : State} (h : JobFrame s t) (k : JobFrame t u) : JobFrame s u where
  mode := k.mode.trans h.mode
  tables := k.tables.trans h.tables
  ownAddress := k.ownAddress.trans h.ownAddress
  link := k.link.trans h.link
  thr := k.thr.trans h.thr
  estimate := k.estimate.trans h.estimate
  ring := k.ring.trans h.ring
  bounded := k.bounded ∘ h.bounded

theorem GateFrame.jobFrame {s t : State} (h : GateFrame s t) : JobFrame s t where
  mode := h.mode
  tables := h.tables
  ownAddress := h.ownAddress
  link := h.link
  thr := by rw [h.defrost]
  estimate := by rw [h.defrost]
  ring := by rw [h.defrost]
  bounded := by rw [h.line]; exact id

/-! ### Storing one block -/

theorem setNow_frame (s : State) (n : Nat) : JobFrame s (s.setNow n) := ⟨rfl, rfl, rfl, rfl, rfl, rfl, rfl, id⟩
theorem setObs_frame (s : State) (o : ObsTable) : JobFrame s (s.setObs o) := ⟨rfl, rfl, rfl, rfl, rfl, rfl, rfl, id⟩
theorem setTemps_frame (s : State) (c : Channels) : JobFrame s (s.setTemps c) :=
  ⟨rfl, rfl, rfl, rfl, rfl, rfl, rfl, id⟩
theorem setIce_frame (s : State) (x : Ice) : JobFrame s (s.setIce x) := ⟨rfl, rfl, rfl, rfl, rfl, rfl, rfl, id⟩
theorem setDisp_frame (s : State) (d : Disp) : JobFrame s (s.setDisp d) := ⟨rfl, rfl, rfl, rfl, rfl, rfl, rfl, id⟩
theorem setInputs_frame (s : State) (x : Inputs) : JobFrame s (s.setInputs x) :=
  ⟨rfl, rfl, rfl, rfl, rfl, rfl, rfl, id⟩
theorem setLine_frame (s : State) (l : Line) (h : s.line.bounded → l.bounded := by exact id) : JobFrame s (s.setLine l) :=
  ⟨rfl, rfl, rfl, rfl, rfl, rfl, rfl, h⟩

theorem advance_frame (s : State) (dt : Nat) : JobFrame s (s.advance dt) := setNow_frame s _
theorem reach_frame (s : State) (t : Nat) : JobFrame s (s.reach t) := setNow_frame s _

/-! ### The water line -/

theorem satAdd_le (m x d : Nat) : satAdd m x d ≤ m := Nat.min_le_left _ _

theorem fillOpenTime_le (s : State) (h : s.line.bounded) : s.fillOpenTime ≤ Config.max32 := by
  unfold State.fillOpenTime
  split
  · exact satAdd_le _ _ _
  · exact h.2.1

theorem pourOpenTime_le (s : State) (h : s.line.bounded) : s.pourOpenTime ≤ Config.max32 := by
  unfold State.pourOpenTime
  split
  · exact satAdd_le _ _ _
  · exact h.2.2

theorem closeValve_frame (v : Valve) (s : State) : JobFrame s (closeValve v s) :=
  ⟨rfl, rfl, rfl, rfl, rfl, rfl, rfl, fun h => ⟨satAdd_le _ _ _, fillOpenTime_le s h, pourOpenTime_le s h⟩⟩

theorem lineFilling_bounded {s : State} (h : s.line.bounded) : (lineFilling s).bounded := by
  obtain ⟨total, fill, pour⟩ := h
  refine ⟨total, ?_, pour⟩
  show (if s.line.resumes then s.line.fillOpen else 0) ≤ _
  split
  · exact fill
  · exact Nat.zero_le _

theorem openIv_frame (s : State) : JobFrame s (openIv s) := by
  rw [openIv_eq]
  exact ((setLine_frame s _ lineFilling_bounded).trans (setIce_frame _ _)).trans (requestOutput_frame _ _).jobFrame

theorem openWv_frame (s : State) : JobFrame s (openWv s) :=
  ⟨rfl, rfl, rfl, rfl, rfl, rfl, rfl, fun ⟨total, fill, _⟩ => ⟨total, fill, Nat.zero_le _⟩⟩

theorem giveLineToIce_frame (s : State) : JobFrame s (giveLineToIce s) := by
  unfold giveLineToIce
  split
  · exact setLine_frame s _
  · exact openIv_frame s

theorem fillRequest_frame (b : Bool) (s : State) : JobFrame s (fillRequest b s) := by
  unfold fillRequest
  split
  · exact (setLine_frame s _).trans (giveLineToIce_frame _)
  iterate 2
    · split
      · exact .refl s
      · exact setLine_frame s _
  · exact .refl s
  · exact .refl s

theorem pourRequest_frame (s : State) : JobFrame s (pourRequest s) := by
  unfold pourRequest
  split
  · split
    · exact setLine_frame s _
    · exact openWv_frame s
  · exact (setLine_frame s _).trans (openWv_frame _)
  · exact ((closeValve_frame .iv s).trans (setIce_frame _ _)).trans (setLine_frame _ _)
  · exact .refl s
  · exact .refl s

theorem fillRelease_frame (s : State) : JobFrame s (fillRelease s) := by
  unfold fillRelease
  split
  · exact setLine_frame s _
  · exact setLine_frame s _
  · exact setLine_frame s _
  · exact setLine_frame s _
  · exact closeValve_frame .iv s

theorem handOn_frame (s : State) : JobFrame s (handOn s) := by
  unfold handOn
  split
  · exact giveLineToIce_frame s
  · split
    · exact (setLine_frame s _).trans (setIce_frame _ _)
    · exact .refl s

theorem pourRelease_frame (s : State) : JobFrame s (pourRelease s) := by
  unfold pourRelease
  split
  · exact .refl s
  · exact .refl s
  · exact .refl s
  · exact (setLine_frame s _).trans (handOn_frame _)
  · exact (closeValve_frame .wv s).trans (handOn_frame _)

/-! ### The ice maker -/

theorem enterOff_frame (s : State) : JobFrame s (enterOff s) :=
  (setIce_frame s _).trans (giveUpOutput_frame _ _).jobFrame

theorem enterFault_frame (c : IceCause) (s : State) : JobFrame s (enterFault c s) :=
  (setIce_frame s _).trans (giveUpOutput_frame _ _).jobFrame

theorem enterHarvestHeat_frame (s : State) : JobFrame s (enterHarvestHeat s) :=
  (setIce_frame s _).trans (requestOutput_frame _ _).jobFrame

theorem enterRake_frame (s : State) : JobFrame s (enterRake s) :=
  (setIce_frame s _).trans (requestOutput_frame _ _).jobFrame

theorem leaveOff_frame (s : State) : JobFrame s (leaveOff s) := by
  unfold leaveOff
  split
  · exact enterRake_frame s
  · split
    · exact setIce_frame s _
    · exact setIce_frame s _

theorem beginFill_frame (s : State) : JobFrame s (beginFill s) := (setIce_frame s _).trans (fillRequest_frame _ _)

theorem startTrail_frame (s : State) : JobFrame s (startTrail s) := by
  unfold startTrail
  split
  · exact (giveUpOutput_frame _ s).jobFrame
  · exact setIce_frame s _

theorem fillSuccess_frame (s : State) : JobFrame s (fillSuccess s) :=
  ((fillRelease_frame s).trans ((setIce_frame _ _).trans (setIce_frame _ _))).trans (startTrail_frame _)

theorem fillFault_frame (s : State) : JobFrame s (fillFault s) := by
  unfold fillFault
  dsimp only
  split
  · exact ((fillRelease_frame s).trans (setIce_frame _ _)).trans (startTrail_frame _)
  · exact ((fillRelease_frame s).trans (setIce_frame _ _)).trans (enterFault_frame _ _)

theorem fillVolumeTest_frame (s : State) : JobFrame s (fillVolumeTest s) := by
  unfold fillVolumeTest
  split
  · exact fillSuccess_frame s
  · exact .refl s

theorem endFillByTime_frame (s : State) : JobFrame s (endFillByTime s) := by
  unfold endFillByTime
  split
  · exact fillFault_frame s
  · exact fillSuccess_frame s

theorem fillTimeTest_frame (s : State) : JobFrame s (fillTimeTest s) := by
  unfold fillTimeTest
  split
  · exact endFillByTime_frame s
  · exact .refl s

theorem iceSecondCounts_frame (s : State) : JobFrame s (iceSecondCounts s) :=
  (reach_frame s _).trans (setIce_frame _ _)

theorem parkWork_frame (s : State) : JobFrame s (parkWork s) := by
  unfold parkWork
  split
  · exact enterOff_frame s
  · split
    · exact setIce_frame s _
    · split
      · exact .refl s
      · split
        · exact .refl s
        · exact beginFill_frame s

theorem freezeWork_frame (s : State) : JobFrame s (freezeWork s) := by
  unfold freezeWork
  dsimp only
  split
  · exact (setIce_frame s _).trans (enterHarvestHeat_frame _)
  · exact setIce_frame s _

theorem heatWork_frame (s : State) : JobFrame s (heatWork s) := by
  unfold heatWork
  split
  · dsimp only
    split
    · exact (setIce_frame s _).trans (enterRake_frame _)
    · exact setIce_frame s _
  · exact .refl s

theorem iceSecond_frame (s : State) : JobFrame s (iceSecond s) := by
  unfold iceSecond iceWork
  refine (iceSecondCounts_frame s).trans ?_
  split
  · exact parkWork_frame _
  · exact freezeWork_frame _
  · exact heatWork_frame _
  all_goals exact .refl _

theorem rakeDone_frame (s : State) : JobFrame s (rakeDone s) := by
  unfold rakeDone
  refine .trans ?_ (giveUpOutput_frame _ _).jobFrame
  split
  · exact ((setIce_frame s _).trans (setIce_frame _ _)).trans (enterOff_frame _)
  · exact ((setIce_frame s _).trans (setIce_frame _ _)).trans (setIce_frame _ _)

theorem stall_frame (s : State) : JobFrame s (stall s) :=
  ((setIce_frame s _).trans (enterFault_frame _ _)).trans (giveUpOutput_frame _ _).jobFrame

theorem deliveryReport_frame (s : State) : JobFrame s (deliveryReport s) := by
  unfold deliveryReport
  split
  · exact setIce_frame s _
  · exact .refl s

/-! ### The dispenser -/

theorem pauseMeasured_frame (s : State) : JobFrame s (pauseMeasured s) := by
  rw [pauseMeasured_eq]; exact setDisp_frame s _

theorem settleMeasured_frame (s : State) : JobFrame s (settleMeasured s) := by
  unfold settleMeasured
  split
  · split
    · exact .refl s
    · exact (setDisp_frame s _).trans (setObs_frame _ _)
  · exact setDisp_frame s _
  · exact .refl s

theorem measuredTest_frame (s : State) : JobFrame s (measuredTest s) := by
  unfold measuredTest
  split
  · split
    · exact (pourRelease_frame s).trans (setDisp_frame _ _)
    · exact (setDisp_frame s _).trans (setDisp_frame _ _)
    · exact .refl s
  · exact .refl s

theorem pourVolumeChanged_frame (s : State) : JobFrame s (pourVolumeChanged s) := by
  unfold pourVolumeChanged
  split
  · exact (setDisp_frame s _).trans (measuredTest_frame _)
  · exact .refl s

theorem startPour_frame (s : State) : JobFrame s (startPour s) :=
  ((settleMeasured_frame s).trans (setDisp_frame _ _)).trans (pourRequest_frame _)

theorem endPour_frame (d : DispState) (p : PressStanding) (s : State) : JobFrame s (endPour d p s) :=
  ((pourRelease_frame s).trans (pauseMeasured_frame _)).trans (setDisp_frame _ _)

theorem startDelivery_frame (s : State) : JobFrame s (startDelivery s) :=
  (setDisp_frame s _).trans (requestOutput_frame _ _).jobFrame

theorem endDelivery_frame (p : PressStanding) (s : State) : JobFrame s (endDelivery p s) := by
  unfold endDelivery
  dsimp only
  split
  · exact ((setDisp_frame s _).trans (giveUpOutput_frame _ _).jobFrame).trans (deliveryReport_frame _)
  · exact (setDisp_frame s _).trans (giveUpOutput_frame _ _).jobFrame

theorem doorOpened_frame (s : State) : JobFrame s (doorOpened s) := by
  unfold doorOpened
  split
  · exact endPour_frame _ _ s
  · exact endDelivery_frame _ s
  all_goals exact .refl s

theorem acceptPress_frame (s : State) : JobFrame s (acceptPress s) := by
  unfold acceptPress
  dsimp only
  split
  · exact (setDisp_frame s _).trans (startPour_frame _)
  · exact (setDisp_frame s _).trans (startDelivery_frame _)
  · exact (setDisp_frame s _).trans (startDelivery_frame _)

theorem judgePress_frame (s : State) : JobFrame s (judgePress s) := by
  unfold judgePress
  split
  · exact acceptPress_frame s
  · exact setDisp_frame s _

theorem paddleReleased_frame (s : State) : JobFrame s (paddleReleased s) := by
  unfold paddleReleased
  split
  · exact endPour_frame _ _ s
  · exact endDelivery_frame _ s
  all_goals exact setDisp_frame s _

/-! ### The water line's events -/

theorem advanceFilter_frame (s : State) : JobFrame s (advanceFilter s) :=
  setLine_frame s _ fun ⟨_, fill, pour⟩ => ⟨satAdd_le _ _ _, fill, pour⟩

theorem countPulse_frame (s : State) : JobFrame s (countPulse s) := by
  unfold countPulse
  split
  · refine (advanceFilter_frame s).trans (.trans ?_ (fillVolumeTest_frame _))
    exact setLine_frame _ _
  · refine (advanceFilter_frame s).trans (.trans ?_ (pourVolumeChanged_frame _))
    exact setLine_frame _ _
  · exact (advanceFilter_frame s).trans (setLine_frame _ _)

theorem noflowFound_frame (s : State) : JobFrame s (noflowFound s) := by
  unfold noflowFound
  split
  · exact fillFault_frame s
  · dsimp only
    split
    · exact (setLine_frame s _).trans (setDisp_frame _ _)
    · exact setLine_frame s _
  all_goals exact .refl s

end Sys2Proof.Machine
end


section
/-! What a step that is none of the modes', the defrost controller's or the tables' can do, row by row, and the walk through
the rows that carries a property from a state to the next one. -/

namespace Sys2Proof.Machine

/-! ### LOADING at rest, by name -/

/-- `State.atRest`, field by field. -/
structure Resting (s : State) : Prop where
  defrost : s.defrost.st = .accrue
  ice : s.ice.st = .off
  trailAt : s.ice.trailAt = none
  resumeAt : s.ice.resumeAt = none
  binwaitAt : s.ice.binwaitAt = none
  rakeleaveAt : s.ice.rakeleaveAt = none
  rakemaxAt : s.ice.rakemaxAt = none
  disp : s.disp.st = .idle
  pourAt : s.disp.pourAt = none
  augerAt : s.disp.augerAt = none
  flapAt : s.disp.flapAt = none
  pauseAt : s.disp.pauseAt = none
  measured : s.disp.measured = .inactive
  flap : s.disp.flap = false
  line : s.line.st = .idle
  fillWaiting : s.line.fillWaiting = false
  fillSuspended : s.line.fillSuspended = false
  granted : s.gate.granted = .empty
  wait : s.gate.wait = []
  hm : s.gate.hm = .hmOpen

theorem atRest_iff (s : State) : s.atRest ↔ Resting s := by
  constructor
  · rintro ⟨d, ⟨i1, i2, i3, i4, i5, i6⟩, ⟨p1, p2, p3, p4, p5, p6, p7⟩, ⟨l1, l2, l3⟩, g1, g2, g3⟩
    exact ⟨d, i1, i2, i3, i4, i5, i6, p1, p2, p3, p4, p5, p6, p7, l1, l2, l3, g1, g2, g3⟩
  · rintro ⟨d, i1, i2, i3, i4, i5, i6, p1, p2, p3, p4, p5, p6, p7, l1, l2, l3, g1, g2, g3⟩
    exact ⟨d, ⟨i1, i2, i3, i4, i5, i6⟩, ⟨p1, p2, p3, p4, p5, p6, p7⟩, ⟨l1, l2, l3⟩, g1, g2, g3⟩

/-! ### A step of the jobs -/

/-- A step of the water line, the ice maker, the dispenser, the gate or the senses: the jobs' frame, the gate kept in
order, and LOADING kept at rest. -/
structure JobStep (s t : State) : Prop where
  frame : JobFrame s t
  gate : s.gateInv → t.gateInv
  rest : s.mode = .loading → s.atRest → t.atRest

theorem JobStep.refl (s : State) : JobStep s s := ⟨.refl s, id, fun _ => id⟩

theorem JobStep.trans {s t u : State} (h : JobStep s t) (k : JobStep t u) : JobStep s u :=
  ⟨h.frame.trans k.frame, k.gate ∘ h.gate, fun m r => k.rest (h.frame.mode.trans m) (h.rest m r)⟩

/-- A step that RUNNING alone can take. -/
theorem JobStep.ofRunning {s t : State} (hm : s.mode = .running) (hf : JobFrame s t) (hg : s.gateInv → t.gateInv) :
    JobStep s t :=
  ⟨hf, hg, fun m => by rw [hm] at m; cases m⟩

/-- A step that a state at rest does not take. -/
theorem JobStep.ofBusy {s t : State} (hb : ¬Resting s) (hf : JobFrame s t) (hg : s.gateInv → t.gateInv) :
    JobStep s t :=
  ⟨hf, hg, fun _ r => absurd ((atRest_iff s).mp r) hb⟩

theorem advance_step (s : State) (dt : Nat) : JobStep s (s.advance dt) := ⟨advance_frame s dt, id, fun _ => id⟩
theorem reach_step (s : State) (t : Nat) : JobStep s (s.reach t) := ⟨reach_frame s t, id, fun _ => id⟩
theorem setObs_step (s : State) (o : ObsTable) : JobStep s (s.setObs o) := ⟨setObs_frame s o, id, fun _ => id⟩
theorem setTemps_step (s : State) (c : Channels) : JobStep s (s.setTemps c) := ⟨setTemps_frame s c, id, fun _ => id⟩
theorem setInputs_step (s : State) (x : Inputs) : JobStep s (s.setInputs x) := ⟨setInputs_frame s x, id, fun _ => id⟩

/-! ### The consumers of the observations -/

theorem consumersAct_step (u : List ObsKind) (s : State) : JobStep s (consumersAct u s) := by
  refine ⟨?_, fun h => ?_, fun _ r => ?_⟩
  · unfold consumersAct
    split
    · exact doorOpened_frame s
    · exact .refl s
  · unfold consumersAct
    split
    · exact doorOpened_gateInv h
    · exact h
  · have idle := ((atRest_iff s).mp r).disp
    rw [consumersAct_atRest u s (by simp [idle]) (by simp [idle])]
    exact r

theorem updateObs_step (k : ObsKind) (v : Nat) (src : ObsSource) (s : State) : JobStep s (updateObs k v src s) := by
  rw [updateObs_eq]; exact setObs_step s _

theorem takeObservations_step (p : Port) (f : Frame) (s : State) : JobStep s (takeObservations p f s) := by
  rw [takeObservations_lifted]
  exact (setObs_step s _).trans (consumersAct_step _ _)

theorem execObservationAgeSecond_step {k : ObsKind} {s t : State} (h : execObservationAgeSecond k s = .next t) :
    JobStep s t := by
  cases h
  split
  · exact .refl s
  · exact (reach_step s _).trans (setObs_step _ _)

theorem execObservationStale_step {k : ObsKind} {s t : State} (h : execObservationStale k s = .next t) :
    JobStep s t := by
  cases h
  split
  · exact (reach_step s _).trans (setObs_step _ _)
  · exact .refl s

/-! ### The ice maker's rows -/

theorem iceSecond_step {s : State} (hm : s.mode = .running) : JobStep s (iceSecond s) :=
  .ofRunning hm (iceSecond_frame s) iceSecond_gateInv

theorem execIceSecond_step {s t : State} (h : execIceSecond s = .next t) : JobStep s t := by
  cases h
  split
  · exact iceSecond_step ‹_›
  · exact .refl s

theorem execRetryTimerExpiry_step {s t : State} (h : execRetryTimerExpiry s = .next t) : JobStep s t := by
  cases h
  split
  · next c => exact iceSecond_step c.1
  · exact .refl s

theorem freezeEndingSecond_step (ended : State → Bool) (s : State) : JobStep s (freezeEndingSecond ended s) := by
  unfold freezeEndingSecond
  split
  · next c => exact iceSecond_step c.1
  · exact .refl s

theorem execHarvheatmaxExpiry_step {s t : State} (h : execHarvheatmaxExpiry s = .next t) : JobStep s t := by
  cases h
  split
  · next c => exact iceSecond_step c.1
  · exact .refl s

theorem raking_false_of_resting {s : State} (h : Resting s) : s.raking = false := by
  simp [State.raking, h.ice]

theorem execHomeReadingChange_step {dt : Nat} {s t : State} (h : execHomeReadingChange dt s = .next t) :
    JobStep s t := by
  cases h
  refine (advance_step s dt).trans (.trans (setInputs_step _ { s.inputs with home := !s.inputs.home }) ?_)
  split
  · next raking =>
    have busy : ∀ u : State, u.raking = true → ¬Resting u := fun u hu r => by
      rw [raking_false_of_resting r] at hu; cases hu
    split
    · split
      · exact .ofBusy (busy _ raking) (rakeDone_frame _) rakeDone_gateInv
      · exact .refl _
    · exact .ofBusy (busy _ raking) (setIce_frame _ _) fun g => gateInv_congr g rfl rfl rfl
  · exact .refl _

theorem execRakeleaveExpiry_step {s t : State} (h : execRakeleaveExpiry s = .next t) : JobStep s t := by
  unfold execRakeleaveExpiry at h
  split at h
  · cases h; exact .refl s
  · next m hm =>
    cases h
    refine .ofBusy (fun r => by simp [r.rakeleaveAt] at hm) ?_ fun g => ?_
    · split
      · exact ((reach_frame s m).trans (setIce_frame _ _)).trans (stall_frame _)
      · exact (reach_frame s m).trans (setIce_frame _ _)
    · split
      · exact stall_gateInv (gateInv_congr g rfl rfl rfl)
      · exact gateInv_congr g rfl rfl rfl

theorem execRakemaxExpiry_step {s t : State} (h : execRakemaxExpiry s = .next t) : JobStep s t := by
  unfold execRakemaxExpiry at h
  split at h
  · cases h; exact .refl s
  · next m hm =>
    cases h
    refine .ofBusy (fun r => by simp [r.rakemaxAt] at hm) ?_ fun g => ?_
    · split
      · exact ((reach_frame s m).trans (setIce_frame _ _)).trans (stall_frame _)
      · exact (reach_frame s m).trans (setIce_frame _ _)
    · split
      · exact stall_gateInv (gateInv_congr g rfl rfl rfl)
      · exact gateInv_congr g rfl rfl rfl

theorem execBinfullReadingChange_step {dt : Nat} {s t : State} (h : execBinfullReadingChange dt s = .next t) :
    JobStep s t := by
  cases h; exact (advance_step s dt).trans (setInputs_step _ _)

theorem execBinwaitExpiry_step {s t : State} (h : execBinwaitExpiry s = .next t) : JobStep s t := by
  unfold execBinwaitExpiry at h
  split at h
  · cases h; exact .refl s
  · next m hm =>
    cases h
    refine .ofBusy (fun r => by simp [r.binwaitAt] at hm) ?_ fun g => ?_
    · split
      · split
        · exact ((reach_frame s m).trans (setIce_frame _ _)).trans (setIce_frame _ _)
        · exact ((reach_frame s m).trans (setIce_frame _ _)).trans (setIce_frame _ _)
      · exact (reach_frame s m).trans (setIce_frame _ _)
    · split
      · split <;> exact gateInv_congr g rfl rfl rfl
      · exact gateInv_congr g rfl rfl rfl

theorem execFtTrailExpiry_step {s t : State} (h : execFtTrailExpiry s = .next t) : JobStep s t := by
  unfold execFtTrailExpiry at h
  split at h
  · cases h; exact .refl s
  · next m hm =>
    cases h
    exact .ofBusy (fun r => by simp [r.trailAt] at hm)
      ((reach_frame s m).trans ((setIce_frame _ _).trans (giveUpOutput_frame _ _).jobFrame))
      fun g => giveUpOutput_gateInv' .ft _ (gateInv_congr g rfl rfl rfl)

theorem execResumeTimerExpiry_step {s t : State} (h : execResumeTimerExpiry s = .next t) : JobStep s t := by
  unfold execResumeTimerExpiry at h
  split at h
  · cases h; exact .refl s
  · next m hm =>
    cases h
    exact .ofBusy (fun r => by simp [r.resumeAt] at hm)
      ((reach_frame s m).trans ((setIce_frame _ _).trans (fillRequest_frame _ _)))
      fun g => fillRequest_gateInv true (gateInv_congr g rfl rfl rfl)

theorem execFillmaxExpiry_step {s t : State} (h : execFillmaxExpiry s = .next t) : JobStep s t := by
  cases h
  split
  · next flowing =>
    exact .ofBusy (fun r => by simp [r.ice] at flowing) ((reach_frame s _).trans (endFillByTime_frame _))
      fun g => endFillByTime_gateInv (gateInv_congr g rfl rfl rfl)
  · exact .refl s

/-! ### The water line's rows -/

theorem fillVolumeTest_resting {s : State} (h : s.ice.st = .off) : fillVolumeTest s = s := by
  simp [fillVolumeTest, h, IceState.inFill]

theorem fillTimeTest_resting {s : State} (h : s.ice.st = .off) : fillTimeTest s = s := by
  simp [fillTimeTest, h, IceState.inFill]

/-- Without a measured fill under way the pour volume ends nothing: poured alone may move (R113). -/
theorem pourVolumeChanged_resting {s : State} (h : s.disp.measured = .inactive) :
    ∃ poured, pourVolumeChanged s = s.setDisp { s.disp with poured := poured } := by
  unfold pourVolumeChanged
  split
  · unfold measuredTest
    split
    · split
      · next c => rw [State.setDisp_disp, h] at c; cases c
      · next c => rw [State.setDisp_disp, h] at c; cases c
      · exact ⟨_, rfl⟩
    · exact ⟨_, rfl⟩
  · exact ⟨s.disp.poured, rfl⟩

theorem countPulse_rest {s : State} (r : s.atRest) : (countPulse s).atRest := by
  have h := (atRest_iff s).mp r
  unfold countPulse
  split
  · unfold creditFill
    rw [fillVolumeTest_resting]
    · exact r
    · exact h.ice
  · unfold creditPour
    obtain ⟨poured, e⟩ := pourVolumeChanged_resting
      (s := (advanceFilter s).setLine { (advanceFilter s).line with
        pourTally := satAdd Config.max16 (advanceFilter s).line.pourTally 1
        noflowAt := if (advanceFilter s).line.st = .pour then none else (advanceFilter s).line.noflowAt }) h.measured
    rw [e]
    exact r
  · exact r

theorem execFlowPulse_step {dt : Nat} {s t : State} (h : execFlowPulse dt s = .next t) : JobStep s t := by
  cases h
  refine (advance_step s dt).trans ?_
  split
  · exact .refl _
  · exact ⟨countPulse_frame _, countPulse_gateInv, fun _ => countPulse_rest⟩

theorem noflowFound_resting {s : State} (h : s.line.st = .idle) : noflowFound s = s := by
  unfold noflowFound; rw [h]

theorem execNoflowtimeExpiry_step {s t : State} (h : execNoflowtimeExpiry s = .next t) : JobStep s t := by
  unfold execNoflowtimeExpiry at h
  split at h
  · cases h; exact .refl s
  · next m _ =>
    cases h
    split
    · exact ⟨(reach_frame s m).trans (setLine_frame _ _), fun g => gateInv_congr g rfl rfl rfl, fun _ r => r⟩
    · refine ⟨(reach_frame s m).trans (.trans ?_ (noflowFound_frame _)),
        fun g => noflowFound_gateInv (gateInv_congr g rfl rfl rfl), fun _ r => ?_⟩
      · exact setLine_frame _ _
      · rw [noflowFound_resting]
        · exact r
        · exact ((atRest_iff s).mp r).line

theorem execChangeoverEnd_step {s t : State} (h : execChangeoverEnd s = .next t) : JobStep s t := by
  unfold execChangeoverEnd at h
  split at h
  · next m hl hm =>
    cases h
    exact .ofBusy (fun r => by simp [r.line] at hl) ((reach_frame s m).trans (openIv_frame _))
      fun g => openIv_gateInv (gateInv_congr g rfl rfl rfl)
  · next m hl hm =>
    cases h
    exact .ofBusy (fun r => by simp [r.line] at hl) ((reach_frame s m).trans (openWv_frame _))
      fun g => openWv_gateInv (gateInv_congr g rfl rfl rfl)
  · cases h; exact .refl s

theorem execUnmeteredVolumeReached_step {s t : State} (h : execUnmeteredVolumeReached s = .next t) : JobStep s t := by
  cases h
  split
  · exact .refl s
  · split
    · next hl =>
      split
      · exact .ofBusy (fun r => by simp [r.line] at hl) ((reach_frame s _).trans (fillVolumeTest_frame _))
          fun g => fillVolumeTest_gateInv (gateInv_congr g rfl rfl rfl)
      · exact .refl s
    · next hl =>
      split
      · exact .ofBusy (fun r => by simp [r.line] at hl) ((reach_frame s _).trans (pourVolumeChanged_frame _))
          fun g => pourVolumeChanged_gateInv (gateInv_congr g rfl rfl rfl)
      · exact .refl s
    all_goals exact .refl s

/-! ### The dispenser's rows -/

theorem judgePress_step (s : State) : JobStep s (judgePress s) := by
  refine ⟨judgePress_frame s, judgePress_gateInv, fun m r => ?_⟩
  unfold judgePress
  rw [if_neg (by simp [m])]
  exact r

theorem paddleReleased_step (s : State) : JobStep s (paddleReleased s) := by
  refine ⟨paddleReleased_frame s, paddleReleased_gateInv, fun _ r => ?_⟩
  unfold paddleReleased
  rw [((atRest_iff s).mp r).disp]
  exact r

theorem execPress_step {dt : Nat} {s t : State} (h : execPress dt s = .next t) : JobStep s t := by
  cases h
  refine (advance_step s dt).trans ?_
  split
  · exact .refl _
  · exact (setInputs_step _ _).trans (judgePress_step _)

theorem execRelease_step {dt : Nat} {s t : State} (h : execRelease dt s = .next t) : JobStep s t := by
  cases h
  refine (advance_step s dt).trans ?_
  split
  · exact (setInputs_step _ _).trans (paddleReleased_step _)
  · exact .refl _

theorem execPourmaxExpiry_step {s t : State} (h : execPourmaxExpiry s = .next t) : JobStep s t := by
  unfold execPourmaxExpiry at h
  split at h
  · cases h; exact .refl s
  · next m hm =>
    cases h
    exact .ofBusy (fun r => by simp [r.pourAt] at hm) ((reach_frame s m).trans (endPour_frame _ _ _))
      fun g => endPour_gateInv _ _ (gateInv_congr g rfl rfl rfl)

theorem execAugermaxExpiry_step {s t : State} (h : execAugermaxExpiry s = .next t) : JobStep s t := by
  unfold execAugermaxExpiry at h
  split at h
  · cases h; exact .refl s
  · next m hm =>
    cases h
    exact .ofBusy (fun r => by simp [r.augerAt] at hm) ((reach_frame s m).trans (endDelivery_frame _ _))
      fun g => endDelivery_gateInv _ (gateInv_congr g rfl rfl rfl)

theorem execFlapholdExpiry_step {s t : State} (h : execFlapholdExpiry s = .next t) : JobStep s t := by
  unfold execFlapholdExpiry at h
  split at h
  · cases h; exact .refl s
  · next m hm =>
    cases h
    exact .ofBusy (fun r => by simp [r.flapAt] at hm) ((reach_frame s m).trans (setDisp_frame _ _))
      fun g => gateInv_congr g rfl rfl rfl

theorem execMeasureholdExpiry_step {s t : State} (h : execMeasureholdExpiry s = .next t) : JobStep s t := by
  unfold execMeasureholdExpiry at h
  split at h
  · cases h; exact .refl s
  · next m hm =>
    cases h
    exact .ofBusy (fun r => by simp [r.pauseAt] at hm) ((reach_frame s m).trans (setDisp_frame _ _))
      fun g => gateInv_congr g rfl rfl rfl

/-! ### The gate's rows -/

theorem execAgingTimerExpiry_step {o : Gated} {s t : State} (h : execAgingTimerExpiry o s = .next t) : JobStep s t := by
  unfold execAgingTimerExpiry at h
  split at h
  · cases h; exact .refl s
  · next w hw =>
    have mem : w ∈ s.gate.wait := List.mem_of_find?_eq_some hw
    split at h
    · cases h; exact .refl s
    · next m _ =>
      cases h
      exact .ofBusy (fun r => by simp [r.wait] at mem) ((reach_frame s m).trans (promoteOutput_frame _ _).jobFrame)
        fun g => promoteOutput_gateInv w _ (gateInv_congr g rfl rfl rfl) mem

theorem execHmsettleExpiry_step {s t : State} (h : execHmsettleExpiry s = .next t) : JobStep s t := by
  unfold execHmsettleExpiry at h
  split at h
  · next m hm =>
    cases h
    exact .ofBusy (fun r => by simp [r.hm] at hm) ((reach_frame s m).trans (hmSettled_frame _).jobFrame)
      fun g => hmSettled_gateInv _ (gateInv_congr g rfl rfl rfl)
  · cases h; exact .refl s

/-- HM that runs out its hold holds no heater: the gate stays in order as it opens (R129, R131). -/
theorem openHm_gateInv {s : State} (h : s.gateInv) {m : Nat} (hm : s.gate.hm = .hmHolding m) :
    (s.setGate { s.gate with hm := .hmOpen }).gateInv := by
  obtain ⟨fits, apart, sorted, follows, _, dh, _⟩ := h
  refine ⟨fits, apart, sorted, fun g => ?_, fun k => (by cases k), dh, fun _ on => ?_⟩
  · rcases follows g with k | ⟨n, k⟩ <;> rw [hm] at k <;> cases k
  · simp [Gate.heaterOn] at on

theorem execHmholdExpiry_step {s t : State} (h : execHmholdExpiry s = .next t) : JobStep s t := by
  unfold execHmholdExpiry at h
  split at h
  · next m hm =>
    cases h
    refine .ofBusy (fun r => by simp [r.hm] at hm) ((reach_frame s m).trans ?_)
      fun g => openHm_gateInv (s := s.reach m) (gateInv_congr g rfl rfl rfl) hm
    exact (GateFrame.ofGate (s.reach m) { s.gate with hm := .hmOpen } rfl rfl).jobFrame
  · cases h; exact .refl s

end Sys2Proof.Machine
end


section
/-! The walk through the rows: a property that the power-on states have, that every job's step keeps, and that the modes,
the tables and the defrost controller keep, is kept by every step. -/

namespace Sys2Proof.Machine

/-- What carries a property through every row of the table. -/
structure Keeps (P : State → Prop) : Prop where
  powerOn : ∀ a p, P ((State.powerOn a).setPending p)
  queue : ∀ s p, P s → P (s.setPending p)
  link : ∀ s l, (s.link.sized → l.sized) → P s → P (s.setLink l)
  restartMark : ∀ s b, P s → P (s.setRestartPending b)
  job : ∀ s t, JobStep s t → P s → P t
  second : ∀ s, s.mode = .running → P s → P (defrostSecond s)
  forced : ∀ s, s.mode = .running → s.defrost.st = .accrue → P s → P (startCycle .forced .hold s)
  abandoned : ∀ s, s.mode = .running → P s → P (abandonCycle s)
  heatAborted : ∀ s, s.mode = .running → P s → P (terminateHeat .abort s)
  recordRead : ∀ s i, P s → P (s.setDefrost (s.defrost.markRead i))
  restored : ∀ args s, args.length = 14 → P s → P (restore args s).1
  written : ∀ payload s, P s → P (tableWrite payload s).1
  armed : ∀ s, s.mode = .loading → P s → P (armEffect s)
  disarmed : ∀ s, s.mode = .running → P s → P (disarmEffect s)
  restarted : ∀ s, P s → P (restartEffect s)

/-! ### What the walk needs of the link, the modes and the commands -/

theorem clearCounters_sized (p : Port) (l : Link) (h : l.sized) : (l.clearCounters p).sized := by
  cases p <;> exact h

theorem mode_running_of_ne_loading {s : State} (h : ¬s.mode = .loading) : s.mode = .running := by
  cases hm : s.mode
  · exact absurd hm h
  · rfl

theorem mode_loading_of_ne_running {s : State} (h : ¬s.mode = .running) : s.mode = .loading := by
  cases hm : s.mode
  · rfl
  · exact absurd hm h

/-- A change of the ice maker's fields that a state at rest has none of. -/
theorem setIce_step (s : State) (x : Ice) (h : Resting s → x.st = .off ∧ x.trailAt = none ∧ x.resumeAt = none ∧
    x.binwaitAt = none ∧ x.rakeleaveAt = none ∧ x.rakemaxAt = none) : JobStep s (s.setIce x) :=
  ⟨setIce_frame s x, fun g => gateInv_congr g rfl rfl rfl, fun _ r =>
    ⟨r.1, h ((atRest_iff s).mp r), r.2.2⟩⟩

theorem setLine_step (s : State) (l : Line) (hb : s.line.bounded → l.bounded)
    (h : Resting s → l.st = .idle ∧ l.fillWaiting = false ∧ l.fillSuspended = false) : JobStep s (s.setLine l) :=
  ⟨setLine_frame s l hb, fun g => gateInv_congr g rfl rfl rfl, fun _ r =>
    ⟨r.1, r.2.1, r.2.2.1, h ((atRest_iff s).mp r), r.2.2.2.2⟩⟩

theorem setEnabled_step (s : State) (b : Bool) : JobStep s (s.setIce { s.ice with enabled := b }) :=
  setIce_step s _ fun r => ⟨r.ice, r.trailAt, r.resumeAt, r.binwaitAt, r.rakeleaveAt, r.rakemaxAt⟩

theorem setPort_sized (p : Port) (x : PortState) (l : Link) (h : l.sized) : (l.setPort p x).sized := by
  cases p <;> exact h

theorem countCheck_sized (p : Port) (l : Link) (h : l.sized) : (l.countCheck p).sized := by cases p <;> exact h
theorem countGap_sized (p : Port) (l : Link) (h : l.sized) : (l.countGap p).sized := by cases p <;> exact h
theorem countLong_sized (p : Port) (l : Link) (h : l.sized) : (l.countLong p).sized := by cases p <;> exact h
theorem countMark_sized (p : Port) (l : Link) (h : l.sized) : (l.countMark p).sized := by cases p <;> exact h

/-- The awaited address finds its request at the head of the relay queue (R174). -/
theorem taking_sized {l : Link} (ha : l.doorSide.isAwaiting = true) (h : l.sized) :
    Link.sized { l with doorSide := .taking } := by
  obtain ⟨relay, uplink, head⟩ := h
  exact ⟨relay, uplink, fun _ => head fun free => by rw [free] at ha; cases ha⟩

/-- The uplink queue without its head, whatever becomes of TRUNK's port. -/
theorem uplinkTail_sized {l : Link} {e : UplinkEntry} {rest : List UplinkEntry} (hl : l.uplink = e :: rest)
    (x : PortState) (h : l.sized) : Link.sized { l with uplink := rest, trunk := x } := by
  obtain ⟨relay, uplink, head⟩ := h
  rw [hl] at uplink
  exact ⟨relay, (Nat.le_succ _).trans uplink, head⟩

@[simp] theorem statusRead_state (payload : List Byte) (s : State) : (statusRead payload s).1 = s := by
  unfold statusRead
  split
  · split <;> rfl
  · rfl

@[simp] theorem tableRead_state (payload : List Byte) (s : State) : (tableRead payload s).1 = s := by
  unfold tableRead
  split
  · split
    · rfl
    · split <;> rfl
  · rfl

/-- A job command without arguments, or its refusal. -/
theorem plain_keeps {P : State → Prop} {args : List Byte} {job : State → CommandResult} {s : State} (h : P s)
    (hj : P (job s).1) : P (if args = [] then job s else refuse resultBadLength s).1 := by
  split
  · exact hj
  · exact h

section
variable {P : State → Prop} (K : Keeps P)
include K

/-! ### The commands -/

theorem Keeps.answer {kind : Byte} {r : CommandResult} (h : P r.1) : P (answer kind r) :=
  K.link _ _ (offerUplink_sized _ _ _ _) h

theorem Keeps.historyRead {payload : List Byte} {s : State} (h : P s) : P (historyRead payload s).1 := by
  unfold Machine.historyRead
  split
  · split
    · exact K.recordRead s _ h
    · exact h
  · exact h

theorem Keeps.counterRead {payload : List Byte} {s : State} (h : P s) : P (counterRead payload s).1 := by
  unfold Machine.counterRead
  split
  · split
    · exact h
    · dsimp only [done]
      split
      · exact K.link s _ (clearCounters_sized _ _) h
      · exact h
  · exact h

theorem Keeps.observationWrite {payload : List Byte} {s : State} (h : P s) : P (observationWrite payload s).1 := by
  unfold Machine.observationWrite
  split
  · split
    · exact h
    · split
      · exact h
      · exact K.job s _ ((updateObs_step _ _ _ s).trans (consumersAct_step _ _)) h
  · exact h

theorem Keeps.arm {payload : List Byte} {s : State} (h : P s) : P (arm payload s).1 := by
  unfold Machine.arm
  split
  · exact h
  · split
    · exact h
    · next stopped =>
      split
      · exact h
      · exact K.armed s (mode_loading_of_ne_running stopped) h

theorem Keeps.disarm {payload : List Byte} {s : State} (h : P s) : P (disarm payload s).1 := by
  unfold Machine.disarm
  split
  · exact h
  · split
    · exact h
    · next runs => exact K.disarmed s (mode_running_of_ne_loading runs) h

/-! ### The job commands -/

theorem Keeps.defrostNow {s : State} (h : P s) : P (defrostNow s).1 := by
  unfold Machine.defrostNow
  split
  · exact h
  · next runs =>
    split
    · exact h
    · next accrues => exact K.forced s (mode_running_of_ne_loading runs) (not_not.mp accrues) h

theorem Keeps.defrostAbort {s : State} (h : P s) : P (defrostAbort s).1 := by
  unfold Machine.defrostAbort
  split
  · exact h
  · next runs =>
    have hm := mode_running_of_ne_loading runs
    split
    iterate 3 exact h
    iterate 2 exact K.abandoned s hm h
    dsimp only [done]
    split
    · exact K.heatAborted s hm h
    · exact K.abandoned s hm h

theorem Keeps.iceOn {s : State} (h : P s) : P (iceOn s).1 := by
  have on := setEnabled_step s true
  unfold Machine.iceOn
  dsimp only [done]
  split
  · exact K.job s _ on h
  · next runs =>
    have hm := mode_running_of_ne_loading runs
    refine K.job s _ (on.trans (.ofRunning hm ?_ fun g => ?_)) h
    · split
      · exact leaveOff_frame _
      · split
        · exact setIce_frame _ _
        · exact .refl _
    · split
      · exact leaveOff_gateInv g
      · split <;> exact g

theorem Keeps.iceOff {s : State} (h : P s) : P (iceOff s).1 := by
  have off := setEnabled_step s false
  unfold Machine.iceOff
  dsimp only [done]
  split
  · exact K.job s _ off h
  · next busy =>
    have hm := mode_running_of_ne_loading (fun e => busy (.inl e))
    refine K.job s _ (off.trans (.ofRunning hm ?_ fun g => ?_)) h
    · split
      · exact setIce_frame _ _
      · exact enterOff_frame _
    · split
      · exact g
      · exact enterOff_gateInv g

theorem Keeps.iceHarvestNow {s : State} (h : P s) : P (iceHarvestNow s).1 := by
  unfold Machine.iceHarvestNow
  split
  · exact h
  · next busy =>
    have hm := mode_running_of_ne_loading (fun e => busy (.inl e))
    split
    iterate 3 exact K.job s _ (.ofRunning hm (enterHarvestHeat_frame s) enterHarvestHeat_gateInv) h
    all_goals exact h

theorem Keeps.faultClear {s : State} (h : P s) : P (faultClear s).1 := by
  have cleared : JobStep s (s.setLine { s.line with leak := false, nosupply := false, unclaimed := 0 }) :=
    setLine_step s _ id fun r => ⟨r.line, r.fillWaiting, r.fillSuspended⟩
  unfold Machine.faultClear
  dsimp only [done]
  split
  · next faulty =>
    refine K.job s _ (cleared.trans (.ofBusy (fun r => ?_) ?_ fun g => ?_)) h
    · rw [r.ice] at faulty; cases faulty
    · split
      · exact (setIce_frame _ _).trans (leaveOff_frame _)
      · exact (setIce_frame _ _).trans (enterOff_frame _)
    · split
      · exact leaveOff_gateInv g
      · exact enterOff_gateInv g
  · exact K.job s _ cleared h

theorem Keeps.filterReset {s : State} (h : P s) : P (filterReset s).1 :=
  K.job s _ (setLine_step s _ (fun ⟨_, fill, pour⟩ => ⟨Nat.zero_le _, fill, pour⟩)
    fun r => ⟨r.line, r.fillWaiting, r.fillSuspended⟩) h

theorem Keeps.jobCommand {payload : List Byte} {s : State} (h : P s) : P (jobCommand payload s).1 := by
  unfold Machine.jobCommand
  split
  · exact h
  · dsimp only
    split
    · exact plain_keeps h (K.defrostNow h)
    · exact plain_keeps h (K.defrostAbort h)
    · exact plain_keeps h (K.iceOn h)
    · exact plain_keeps h (K.iceOff h)
    · exact plain_keeps h (K.iceHarvestNow h)
    · exact plain_keeps h (K.faultClear h)
    · exact plain_keeps h (K.filterReset h)
    · split
      · next hl => exact K.restored _ s hl h
      · exact h
    · exact h

/-! ### The command handler -/

theorem Keeps.restartCommand {kind : Byte} {payload : List Byte} {s : State} (h : P s) :
    P (restartCommand kind payload s) := by
  unfold Machine.restartCommand
  split
  · exact K.answer h
  · have pending := K.restartMark _ true (K.link s _ (offerUplink_sized s.now (s.reply kind [resultDone]) true s.link) h)
    dsimp only
    split
    · exact K.restarted _ pending
    · exact pending

theorem Keeps.runCommand {kind : Byte} {payload : List Byte} {s : State} (h : P s) : P (runCommand kind payload s) := by
  unfold Machine.runCommand
  split
  · exact h
  · split
    · exact K.answer (by rw [statusRead_state]; exact h)
    · exact K.answer (K.written payload s h)
    · exact K.answer (by rw [tableRead_state]; exact h)
    · exact K.answer (K.jobCommand h)
    · exact K.answer (K.historyRead h)
    · exact K.answer (K.counterRead h)
    · exact K.answer (K.arm h)
    · exact K.answer (K.disarm h)
    · exact K.restartCommand h
    · exact K.answer (K.observationWrite h)
    · exact K.answer h

theorem Keeps.handleCommand {kind : Byte} {payload : List Byte} {s : State} (h : P s) :
    P (handleCommand kind payload s) := by
  unfold Machine.handleCommand
  split
  · exact h
  · exact K.runCommand h

/-! ### Classification -/

theorem Keeps.takeObservations {p : Port} {f : Frame} {s : State} (h : P s) : P (takeObservations p f s) :=
  K.job s _ (takeObservations_step p f s) h

theorem Keeps.classifyTrunk {f : Frame} {s : State} (h : P s) : P (classifyTrunk f s) := by
  unfold Machine.classifyTrunk
  split
  · exact K.link s _ id h
  · split
    · exact K.handleCommand h
    · apply K.takeObservations
      split
      · exact K.link s _ (offerRelay_sized _ _ _ _) h
      · exact h

theorem Keeps.replyNotAwaited {f : Frame} {s : State} (h : P s) : P (replyNotAwaited f s) := by
  unfold Machine.replyNotAwaited
  split
  · exact K.link s _ (offerUplink_sized _ _ _ _) h
  · exact h
  · split
    · exact K.link s _ id h
    · exact K.link s _ (offerUplink_sized _ _ _ _) h
    · exact h

theorem Keeps.candidateBad {s : State} (h : P s) : P (candidateBad s) := by
  unfold Machine.candidateBad
  split
  · exact K.link s _ (endWithNotice_sized _ _ _ _) h
  · exact h

theorem Keeps.replyFate {f : Frame} {s : State} (h : P s) : P (replyFate f s) := by
  unfold Machine.replyFate
  split
  · split
    · exact K.link s _ (endExchange_sized _ _ _ _) h
    · exact K.candidateBad h
  · exact K.replyNotAwaited h

theorem Keeps.classifyDoor {f : Frame} {s : State} (h : P s) : P (classifyDoor f s) := by
  unfold Machine.classifyDoor
  split
  · exact K.takeObservations (K.replyFate h)
  · exact K.candidateBad (K.link s _ id h)

/-! ### The receiver -/

theorem Keeps.setRx {p : Port} {rx : Rx} {s : State} (h : P s) : P (s.setRx p rx) :=
  K.link s _ (setPort_sized p _ _) h

theorem Keeps.charEnded {p : Port} {s : State} (h : P s) : P (s.charEnded p) := K.link s _ (setPort_sized p _ _) h

theorem Keeps.frameLost {p : Port} {s : State} (h : P s) : P (frameLost p s) := by
  cases p
  · exact h
  · exact K.candidateBad h

theorem Keeps.frameComplete {p : Port} {f : Frame} {s : State} (h : P s) : P (frameComplete p f s) := by
  have heard : P (s.setRx p .waiting) := K.setRx h
  unfold Machine.frameComplete
  dsimp only
  split
  · cases p
    · exact K.classifyTrunk heard
    · exact K.classifyDoor heard
  · exact K.frameLost (K.link _ _ (countCheck_sized p _) heard)

theorem Keeps.leadArrives {p : Port} {data : Byte} {s : State} (h : P s) : P (leadArrives p data s) := by
  unfold Machine.leadArrives
  split
  · exact K.setRx h
  · cases p
    · exact K.setRx h
    · dsimp only
      split
      · next awaited =>
        rw [Bool.and_eq_true] at awaited
        exact K.link _ _ (taking_sized awaited.1) (K.setRx h)
      · exact K.setRx h

theorem Keeps.markInside {p : Port} {s : State} (h : P s) : P (markInside p s) :=
  K.frameLost (K.link _ _ (countMark_sized p _) (K.setRx h))

theorem Keeps.lengthTooLong {p : Port} {s : State} (h : P s) : P (lengthTooLong p s) :=
  K.frameLost (K.link _ _ (countLong_sized p _) (K.setRx h))

theorem Keeps.markedChar {p : Port} {data : Byte} {s : State} (h : P s) : P (markedChar p data s) := by
  unfold Machine.markedChar
  apply K.leadArrives
  split
  · exact K.markInside h
  · exact h

theorem Keeps.unmarkedChar {p : Port} {data : Byte} {s : State} (h : P s) : P (unmarkedChar p data s) := by
  unfold Machine.unmarkedChar
  split
  · exact h
  · exact K.setRx h
  · split
    · exact K.lengthTooLong h
    · split <;> exact K.setRx h
  · split <;> exact K.setRx h
  · exact K.frameComplete h

theorem Keeps.receiveChar {p : Port} {mark : Bool} {data : Byte} {s : State} (h : P s) :
    P (receiveChar p mark data s) := by
  have ended : P (s.charEnded p) := K.charEnded h
  unfold Machine.receiveChar
  dsimp only
  split
  · exact ended
  · split
    · exact K.markedChar ended
    · exact K.unmarkedChar ended

theorem Keeps.advance {dt : Nat} {s : State} (h : P s) : P (s.advance dt) := K.job s _ (advance_step s dt) h

theorem Keeps.reach {m : Nat} {s : State} (h : P s) : P (s.reach m) := K.job s _ (reach_step s m) h

theorem Keeps.requestArrives {dt : Nat} {kind : Byte} {payload : List Byte} {s : State} (h : P s) :
    P (requestArrives dt kind payload s) := by
  have later : P (s.advance dt) := K.advance h
  unfold Machine.requestArrives
  dsimp only
  split
  · exact later
  · apply K.classifyTrunk
    split
    · exact K.markInside (K.charEnded later)
    · exact K.charEnded later

/-! ### The rows of the link -/

theorem Keeps.execFrameAbandonedGap {p : Port} {s t : State} (h : P s) (e : execFrameAbandonedGap p s = .next t) :
    P t := by
  cases e
  split
  · have lost := K.frameLost (p := p) (K.link _ _ (countGap_sized p _)
      (K.setRx (p := p) (rx := .waiting) (K.reach (m := (s.link.port p).afterLast 3) h)))
    refine K.link _ _ (fun hs => ?_) lost
    cases p
    · exact kickTrunk_sized _ _ hs
    · exact kickDoor_sized _ _ hs
  · exact h

theorem Keeps.execAwaitedLead {dt : Nat} {s t : State} (h : P s) (e : execAwaitedLead dt s = .next t) : P t := by
  cases e
  split
  · split
    · exact K.receiveChar (K.advance h)
    · exact K.advance h
  · exact K.advance h

theorem Keeps.execTrunkSendBegin {s t : State} (h : P s) (e : execTrunkSendBegin s = .next t) : P t := by
  cases e
  split
  · exact K.link _ _ (kickTrunk_sized _ _) (K.reach h)
  · exact h

theorem Keeps.execDoorSendBegin {s t : State} (h : P s) (e : execDoorSendBegin s = .next t) : P t := by
  cases e
  split
  · exact K.link _ _ (kickDoor_sized _ _) (K.reach h)
  · exact h

theorem Keeps.uplinkLeft {e : UplinkEntry} {s : State} (h : P s) : P (uplinkLeft e s) := by
  unfold Machine.uplinkLeft
  split
  · exact K.restarted s h
  · exact h

theorem Keeps.execTrunkFrameSent {s t : State} (h : P s) (e : execTrunkFrameSent s = .next t) : P t := by
  unfold Machine.execTrunkFrameSent at e
  split at e
  · next entry rest _ hl =>
    cases e
    exact K.uplinkLeft (K.link _ _ (uplinkTail_sized (l := s.link) hl _) (K.reach h))
  · cases e; exact h

theorem Keeps.execDoorFrameSent {s t : State} (h : P s) (e : execDoorFrameSent s = .next t) : P t := by
  unfold Machine.execDoorFrameSent at e
  split at e
  · next entry rest _ hl =>
    cases e
    refine K.link _ _ (fun hs => ?_) (K.reach h)
    split
    · exact ⟨hs.1, hs.2.1, fun _ nil => by rw [State.reach_link, hl] at nil; cases nil⟩
    · exact freeDoor_sized _ _ _ hs
  · cases e; exact h

theorem Keeps.execDriverEnableRelease {p : Port} {s t : State} (h : P s) (e : execDriverEnableRelease p s = .next t) :
    P t := by
  unfold Machine.execDriverEnableRelease at e
  split at e
  · cases e; exact K.link _ _ (setPort_sized p _ _) (K.reach h)
  · cases e; exact h
  · cases e; exact h

theorem Keeps.execCollision {dt : Nat} {s t : State} (h : P s) (e : execCollision dt s = .next t) : P t := by
  unfold Machine.execCollision at e
  dsimp only at e
  split at e
  · next entry rest _ hl =>
    cases e
    exact K.uplinkLeft (K.link _ _ (uplinkTail_sized (l := s.link.countCollision) hl _) (K.advance h))
  · cases e; exact K.advance h

theorem Keeps.execReplyWindowExpiry {s t : State} (h : P s) (e : execReplyWindowExpiry s = .next t) : P t := by
  unfold Machine.execReplyWindowExpiry at e
  split at e
  · cases e; exact K.link _ _ (fun hs => endWithNotice_sized _ _ _ _ hs) (K.reach h)
  all_goals cases e; exact h

/-- A row of a character at a port that is taken only in its place (log 7). -/
theorem Keeps.receivedInPlace {p : Port} {mark : Bool} {data : Byte} {s : State} {c : Bool} (h : P s) :
    P (if c then Machine.receiveChar p mark data s else s) := by
  split
  · exact K.receiveChar h
  · exact h

/-! ### The defrost controller's rows -/

theorem Keeps.execDefrostSecond {s t : State} (h : P s) (e : execDefrostSecond s = .next t) : P t := by
  cases e
  split
  · next runs => exact K.second s runs h
  · exact h

theorem Keeps.defrostEndingSecond {st : DefrostState} {ended : State → Bool} {s : State} (h : P s) :
    P (defrostEndingSecond st ended s) := by
  unfold Machine.defrostEndingSecond
  split
  · next c => exact K.second s c.1 h
  · exact h

/-! ### Every row, and the step -/

theorem Keeps.exec {c : Instr} {s t : State} (h : P s) (e : exec c s = .next t) : P t := by
  cases c
  case powerOn a => cases e; exact K.powerOn a _
  case statusRead | tableWrite | tableRead | historyRead | counterRead | arm | disarm | restart | observationWrite
    | unknownCommand | defrostNow | defrostAbort | iceOn | iceOff | iceHarvestNow | faultClear | filterReset | restore =>
    cases e; exact K.requestArrives h
  case trunkFrameReceived | doorFrameReceived | frameAbandonedMark | frameAbandonedLong =>
    cases e; exact K.receivedInPlace (K.advance h)
  case characterReceived => cases e; exact K.receiveChar (K.advance h)
  case frameAbandonedGap => exact K.execFrameAbandonedGap h e
  case awaitedLead => exact K.execAwaitedLead h e
  case trunkSendBegin => exact K.execTrunkSendBegin h e
  case doorSendBegin => exact K.execDoorSendBegin h e
  case trunkFrameSent => exact K.execTrunkFrameSent h e
  case doorFrameSent => exact K.execDoorFrameSent h e
  case driverEnableRelease => exact K.execDriverEnableRelease h e
  case collision => exact K.execCollision h e
  case replyWindowExpiry => exact K.execReplyWindowExpiry h e
  case defrostSecond => exact K.execDefrostSecond h e
  case capReached | defermaxExpiry | compwaitExpiry | heatmaxExpiry | fixedheatExpiry | driptimeExpiry | fanmaxExpiry =>
    cases e; exact K.defrostEndingSecond h
  case observationStale => exact K.job s t (execObservationStale_step e) h
  case observationAgeSecond => exact K.job s t (execObservationAgeSecond_step e) h
  case sampleCompletion => cases e; exact K.job s _ ((advance_step s _).trans (setTemps_step _ _)) h
  case iceSecond => exact K.job s t (execIceSecond_step e) h
  case retryTimerExpiry => exact K.job s t (execRetryTimerExpiry_step e) h
  case freezeholdReached | freezemaxExpiry | freezefixedExpiry => cases e; exact K.job s _ (freezeEndingSecond_step _ s) h
  case harvheatmaxExpiry => exact K.job s t (execHarvheatmaxExpiry_step e) h
  case homeReadingChange => exact K.job s t (execHomeReadingChange_step e) h
  case rakeleaveExpiry => exact K.job s t (execRakeleaveExpiry_step e) h
  case rakemaxExpiry => exact K.job s t (execRakemaxExpiry_step e) h
  case binfullReadingChange => exact K.job s t (execBinfullReadingChange_step e) h
  case binwaitExpiry => exact K.job s t (execBinwaitExpiry_step e) h
  case ftTrailExpiry => exact K.job s t (execFtTrailExpiry_step e) h
  case resumeTimerExpiry => exact K.job s t (execResumeTimerExpiry_step e) h
  case fillmaxExpiry => exact K.job s t (execFillmaxExpiry_step e) h
  case changeoverEnd => exact K.job s t (execChangeoverEnd_step e) h
  case unmeteredVolumeReached => exact K.job s t (execUnmeteredVolumeReached_step e) h
  case flowPulse => exact K.job s t (execFlowPulse_step e) h
  case noflowtimeExpiry => exact K.job s t (execNoflowtimeExpiry_step e) h
  case press => exact K.job s t (execPress_step e) h
  case release => exact K.job s t (execRelease_step e) h
  case pourmaxExpiry => exact K.job s t (execPourmaxExpiry_step e) h
  case augermaxExpiry => exact K.job s t (execAugermaxExpiry_step e) h
  case flapholdExpiry => exact K.job s t (execFlapholdExpiry_step e) h
  case measureholdExpiry => exact K.job s t (execMeasureholdExpiry_step e) h
  case agingTimerExpiry => exact K.job s t (execAgingTimerExpiry_step e) h
  case hmsettleExpiry => exact K.job s t (execHmsettleExpiry_step e) h
  case hmholdExpiry => exact K.job s t (execHmholdExpiry_step e) h

/-- A property that is carried through every row is kept by every step. -/
theorem Keeps.step {s t : State} (h : P s) (e : step s = .next t) : P t := by
  unfold Machine.step at e
  split at e
  · cases e; exact h
  · next c rest _ => exact K.exec (K.queue s rest h) e

end

end Sys2Proof.Machine
end


section
/-! What a Table Write can do, and the size invariant through every step. -/

namespace Sys2Proof.Machine

/-! ### A Table Write (R188) -/

@[simp] theorem entriesOf_length (size n : Nat) (bs : List Byte) : (entriesOf size n bs).length = n := by
  induction n generalizing bs with
  | zero => rfl
  | succ n ih => simp [entriesOf, ih]

/-- A Table Write that is not refused stores its entries, which lie inside the table. -/
theorem tableWrite_cases (payload : List Byte) (s : State) :
    (tableWrite payload s).1 = s ∨ ∃ table start entries s1 count, start + entries.length ≤ tableEntries table ∧
      storeEntries table start entries s = some (s1, count) ∧ (tableWrite payload s).1 = s1 := by
  unfold tableWrite
  split
  · next id first data =>
    dsimp only
    split
    · exact .inl rfl
    · split
      · exact .inl rfl
      · split
        · exact .inl rfl
        · next inside =>
          split
          · exact .inl rfl
          · split
            · exact .inl rfl
            · next s1 count stored =>
              exact .inr ⟨_, _, _, s1, count, by rw [entriesOf_length]; exact Nat.not_lt.mp inside, stored, rfl⟩
  · exact .inl rfl

/-- A list that is decoded whole keeps its length. -/
theorem mapM_length {α β : Type} {f : α → Option β} {l : List α} {m : List β} (h : l.mapM f = some m) :
    m.length = l.length := by
  induction l generalizing m with
  | nil => cases h; rfl
  | cons a as ih =>
    simp only [List.mapM_cons, Option.bind_eq_bind, Option.bind_eq_some_iff, Option.pure_def, Option.some.injEq] at h
    obtain ⟨b, -, bs, hbs, rfl⟩ := h
    simp [ih hbs]

theorem replaceFrom_length {α : Type} {l xs : List α} {i : Nat} (h : i + xs.length ≤ l.length) :
    (replaceFrom l i xs).length = l.length := by
  simp [replaceFrom]; omega

/-- A write of the channel map moves the map and the channels alone (R145). -/
theorem storeChanMap_leaves (l : List (Nat × ChanMapEntry)) (s : State) :
    ∃ m c, l.foldl (fun t ie => resetChannel (.ofIndex ie.1)
        (t.setTables { t.tables with chanMap := t.tables.chanMap.set (.ofIndex ie.1) ie.2.clamped })) s =
      (s.setTables { s.tables with chanMap := m }).setTemps c := by
  induction l generalizing s with
  | nil => exact ⟨s.tables.chanMap, s.temps, rfl⟩
  | cons ie l ih =>
    obtain ⟨m, c, e⟩ := ih (resetChannel (.ofIndex ie.1)
      (s.setTables { s.tables with chanMap := s.tables.chanMap.set (.ofIndex ie.1) ie.2.clamped }))
    exact ⟨m, c, e⟩

/-! ### What the owners do at once (R188, step 3) -/

theorem flowAfterWrite_sized (g : GeneralParams) (l : Link) (h : l.sized) : (l.flowAfterWrite g).sized := by
  unfold Link.flowAfterWrite
  split
  · unfold Link.flowAfterAppend
    split <;> exact h
  · unfold Link.flowAfterRemoval
    split <;> exact h

theorem staleLimitsWritten_step (start n : Nat) (s : State) : JobStep s (staleLimitsWritten start n s) := by
  unfold staleLimitsWritten
  induction ObsKind.all generalizing s with
  | nil => exact .refl s
  | cons k ks ih =>
    rw [List.foldl_cons]
    refine .trans ?_ (ih _)
    split
    · exact setObs_step s _
    · exact .refl s

theorem fillVolumeTest_step (s : State) : JobStep s (fillVolumeTest s) :=
  ⟨fillVolumeTest_frame s, fillVolumeTest_gateInv, fun _ r => by
    rw [fillVolumeTest_resting ((atRest_iff s).mp r).ice]; exact r⟩

theorem fillTimeTest_step (s : State) : JobStep s (fillTimeTest s) :=
  ⟨fillTimeTest_frame s, fillTimeTest_gateInv, fun _ r => by
    rw [fillTimeTest_resting ((atRest_iff s).mp r).ice]; exact r⟩

theorem flowkWritten_step (s : State) : JobStep s (flowkWritten s) := by
  unfold flowkWritten
  split
  · exact setLine_step s _ id fun r => ⟨r.line, r.fillWaiting, r.fillSuspended⟩
  · exact .refl s

theorem resetFilterState_step (s : State) : JobStep s (resetFilterState s) :=
  setLine_step s _ id fun r => ⟨r.line, r.fillWaiting, r.fillSuspended⟩

/-- An owner that acts only under a condition. -/
theorem JobStep.ite {s t : State} {c : Bool} (h : JobStep s t) : JobStep s (if c then t else s) := by
  split
  · exact h
  · exact .refl s

/-- Of table 7 the live THR is brought into a range that has been written (R14). -/
theorem ownersAct_seven (start n : Nat) (s : State) :
    ownersAct 7 start n s = if covers start n 0 2 then bringThrIntoRange s else s := rfl

/-- The owners of tables 6, 8 and 9 settle the flow state and otherwise act as jobs; table 7's is THR's (R188). -/
theorem ownersAct_keeps {P : State → Prop} (link : ∀ s l, (s.link.sized → l.sized) → P s → P (s.setLink l))
    (job : ∀ s t, JobStep s t → P s → P t) {table start n : Nat} (h7 : table ≠ 7) {s : State} (h : P s) :
    P (ownersAct table start n s) := by
  unfold ownersAct
  split
  · refine job _ _ (staleLimitsWritten_step start n _) ?_
    split
    · exact link s _ (flowAfterWrite_sized _ _) h
    · exact h
  · exact absurd rfl h7
  · have one : JobStep s (if covers start n 0 0 then fillVolumeTest s else s) := (fillVolumeTest_step s).ite
    exact job s _ (one.trans (fillTimeTest_step _).ite) h
  · have one : JobStep s (if covers start n 0 0 then flowkWritten s else s) := (flowkWritten_step s).ite
    exact job s _ (one.trans (resetFilterState_step _).ite) h
  · exact h

/-! ### The sizes, by block -/

/-- The tables' sizes, and the door set without 0, 63 and the own address (R167, R187). -/
def Tables.sized (t : Tables) (own : Byte) : Prop :=
  t.route.length = 16 ∧ t.curveA.length = 16 ∧ t.curveB.length = 16 ∧
    t.doorSet.getLsbD 0 = false ∧ t.doorSet.getLsbD 63 = false ∧ t.doorSet.getLsbD own.toNat = false

/-- `State.sizeInv`, block by block. -/
structure Sized (s : State) : Prop where
  link : s.link.sized
  ring : s.defrost.ring.length ≤ Config.ringCapacity
  tables : s.tables.sized s.ownAddress
  line : s.line.bounded

theorem sizeInv_iff (s : State) : s.sizeInv ↔ Sized s := by
  constructor
  · rintro ⟨relay, uplink, ring, route, a, b, d0, d63, own, head, line⟩
    exact ⟨⟨relay, uplink, head⟩, ring, ⟨route, a, b, d0, d63, own⟩, line⟩
  · rintro ⟨⟨relay, uplink, head⟩, ring, ⟨route, a, b, d0, d63, own⟩, line⟩
    exact ⟨relay, uplink, ring, route, a, b, d0, d63, own, head, line⟩

theorem JobFrame.sized {s t : State} (h : JobFrame s t) (k : Sized s) : Sized t where
  link := by rw [h.link]; exact k.link
  ring := by rw [h.ring]; exact k.ring
  tables := by rw [h.tables, h.ownAddress]; exact k.tables
  line := h.bounded k.line

/-! ### The door set -/

/-- The members left out of a door set are not in it (R167). -/
theorem doorSetMembers_getLsbD (own : Byte) (bits : BitVec 64) (n : Nat) :
    (doorSetMembers own bits).getLsbD n = (bits.getLsbD n && decide (n ≠ 0 ∧ n ≠ 63 ∧ n ≠ own.toNat)) := by
  unfold doorSetMembers
  simp only [BitVec.getLsbD_and, BitVec.getLsbD_not, BitVec.getLsbD_or, BitVec.getLsbD_shiftLeft, BitVec.getLsbD_one]
  by_cases hn : n < 64
  · simp only [hn, decide_true, Bool.true_and]
    congr 1
    rw [Bool.eq_iff_iff]
    simp
    omega
  · rw [BitVec.getLsbD_of_ge _ _ (Nat.not_lt.mp hn)]
    rfl

theorem doorSetMembers_out (own : Byte) (bits : BitVec 64) (n : Nat) (h : n = 0 ∨ n = 63 ∨ n = own.toNat) :
    (doorSetMembers own bits).getLsbD n = false := by
  rw [doorSetMembers_getLsbD, Bool.and_eq_false_iff, decide_eq_false_iff_not]
  exact .inr (by tauto)

/-! ### The tables' sizes through a write -/

theorem setParam_sized {own : Byte} {t : Tables} (table i : Nat) (v : Int) (h : t.sized own) :
    (t.setParam table i v).sized own := by
  unfold Tables.setParam
  split <;> exact h

theorem clampInto_sized {own : Byte} {t : Tables} (table start : Nat) (raws : List Int) (h : t.sized own) :
    (clampInto table start raws t).sized own := by
  unfold clampInto
  induction indexedFrom start raws generalizing t with
  | nil => exact h
  | cons ie l ih => exact ih (setParam_sized table _ _ h)

theorem orderTables_sized {own : Byte} {t : Tables} (table start n : Nat) (h : t.sized own) :
    (orderTables table start n t).sized own := by
  unfold orderTables
  split
  · split <;> exact h
  · exact h
  · exact h

/-- The tables in use are replaced by others of the same sizes. -/
theorem setTables_sized {s : State} {t : Tables} (h : Sized s) (ht : t.sized s.ownAddress) : Sized (s.setTables t) :=
  ⟨h.link, h.ring, ht, h.line⟩

theorem storeParams_sized {table start : Nat} {entries : List (List Byte)} {s : State} (h : Sized s) :
    Sized (storeParams table start entries s).1 := by
  have stored := setTables_sized h (orderTables_sized table start entries.length (clampInto_sized table start
    ((indexedFrom start entries).map fun ie => paramOfBytes table ie.1 ie.2) h.tables))
  show Sized (ownersAct _ _ _ _)
  by_cases h7 : table = 7
  · subst h7
    rw [ownersAct_seven]
    split
    · exact ⟨stored.link, stored.ring, stored.tables, stored.line⟩
    · exact stored
  · exact ownersAct_keeps (P := Sized) (fun s l hl k => ⟨hl k.link, k.ring, k.tables, k.line⟩)
      (fun s t hj => hj.frame.sized) h7 stored

theorem storeEntries_sized {table start count : Nat} {entries : List (List Byte)} {s s1 : State}
    (inside : start + entries.length ≤ tableEntries table) (stored : storeEntries table start entries s = some (s1, count))
    (h : Sized s) : Sized s1 := by
  obtain ⟨route, curveA, curveB, d0, d63, own⟩ := h.tables
  unfold storeEntries at stored
  split at stored
  · simp only [storeRoute, Option.map_eq_some_iff, Prod.mk.injEq] at stored
    obtain ⟨es, decoded, rfl, rfl⟩ := stored
    rw [← mapM_length decoded] at inside
    refine setTables_sized h ⟨?_, curveA, curveB, d0, d63, own⟩
    rw [replaceFrom_length (by rw [route]; exact inside), route]
  · obtain rfl : _ = s1 := congrArg Prod.fst (Option.some.inj stored)
    exact setTables_sized h ⟨route, curveA, curveB, doorSetMembers_out _ _ _ (.inl rfl),
      doorSetMembers_out _ _ _ (.inr (.inl rfl)), doorSetMembers_out _ _ _ (.inr (.inr rfl))⟩
  · obtain rfl : _ = s1 := congrArg Prod.fst (Option.some.inj stored)
    have whole : (replaceFrom (s.tables.curveA ++ s.tables.curveB) start
        ((entries.map CurvePoint.rawOfBytes).map CurvePoint.clamped)).length = 32 := by
      rw [replaceFrom_length] <;> simp [curveA, curveB]
      exact inside
    refine ⟨h.link, h.ring, ⟨route, ?_, ?_, d0, d63, own⟩, h.line⟩
    · exact List.length_take.trans (by rw [whole]; rfl)
    · exact List.length_drop.trans (by rw [whole])
  · simp only [storeChanMap, Option.map_eq_some_iff, Prod.mk.injEq] at stored
    obtain ⟨raws, -, rfl, -⟩ := stored
    obtain ⟨m, c, e⟩ := storeChanMap_leaves (indexedFrom start raws) s
    rw [e]
    exact ⟨h.link, h.ring, h.tables, h.line⟩
  · obtain rfl : _ = s1 := congrArg Prod.fst (Option.some.inj stored)
    exact ⟨h.link, h.ring, h.tables, h.line⟩
  · obtain rfl : _ = s1 := congrArg Prod.fst (Option.some.inj stored)
    exact storeParams_sized h

/-! ### The defrost controller's ring and the modes -/

theorem Defrost.complete_ring (d : Defrost) : d.complete.ring.length ≤ Config.ringCapacity := List.length_take_le _ _

theorem Defrost.disarmed_ring {d : Defrost} (h : d.ring.length ≤ Config.ringCapacity) :
    d.disarmed.ring.length ≤ Config.ringCapacity := by
  unfold Defrost.disarmed
  split
  iterate 3 exact h
  · split
    · exact Defrost.complete_ring _
    · exact h
  iterate 2 exact Defrost.complete_ring _

theorem setDefrost_sized {s : State} {d : Defrost} (h : Sized s) (hd : d.ring.length ≤ Config.ringCapacity) :
    Sized (s.setDefrost d) := ⟨h.link, hd, h.tables, h.line⟩

theorem enterHeat_sized {s : State} {b : Bool} (h : Sized s) : Sized (enterHeat b s) :=
  (requestOutput_frame .dh _).jobFrame.sized (setDefrost_sized h h.ring)

theorem terminateHeat_sized {s : State} {c : Cause} (h : Sized s) : Sized (terminateHeat c s) :=
  (giveUpOutput_frame .dh _).jobFrame.sized (setDefrost_sized h h.ring)

theorem defrostTest_sized {s : State} (h : Sized s) : Sized (defrostTest s) := by
  have ring := h.ring
  unfold defrostTest
  split
  · unfold accrueTest
    split
    · exact setDefrost_sized h ring
    · split
      · exact setDefrost_sized h ring
      · exact h
  · unfold dueTest
    split
    · exact setDefrost_sized h ring
    · exact h
  · unfold holdTest
    split
    · exact enterHeat_sized h
    · split
      · exact enterHeat_sized h
      · exact h
  · unfold heatTest
    split
    · split
      · exact terminateHeat_sized h
      · exact h
    · exact h
  · unfold dripTest
    split
    · exact setDefrost_sized h ring
    · exact h
  · unfold recoverTest
    split
    · exact setDefrost_sized h (Defrost.complete_ring _)
    · exact h

theorem defrostSecond_sized {s : State} (h : Sized s) : Sized (defrostSecond s) := by
  have counted : Sized (defrostCounts s) := setDefrost_sized ((reach_frame s _).sized h) h.ring
  unfold defrostSecond
  split
  · exact counted
  · exact defrostTest_sized counted

theorem numberOf_append_singleton (bs : List Byte) (b : Byte) : numberOf (bs ++ [b]) = numberOf bs * 256 + b.toNat := by
  simp [numberOf, List.foldl_append]

/-- A number of `n` bytes is below 256 to the `n`. -/
theorem numberOf_lt (bs : List Byte) : numberOf bs < 256 ^ bs.length := by
  induction bs using List.reverseRecOn with
  | nil => decide
  | append_singleton bs b ih =>
    rw [numberOf_append_singleton, List.length_append, List.length_singleton, Nat.pow_succ]
    have := b.isLt
    omega

theorem restore_sized {args : List Byte} {s : State} (hl : args.length = 14) (h : Sized s) : Sized (restore args s).1 := by
  unfold restore
  split
  · exact h
  · refine ⟨h.link, h.ring, h.tables, ?_, h.line.2.1, h.line.2.2⟩
    have bound := numberOf_lt (args.drop 10)
    rw [List.length_drop, hl] at bound
    exact Nat.le_of_lt_succ bound

theorem closeOpenValve_bounded {s : State} (h : s.line.bounded) : (closeOpenValve s).line.bounded := by
  unfold closeOpenValve
  split
  · exact (closeValve_frame _ s).bounded h
  · exact (closeValve_frame _ s).bounded h
  all_goals exact h

theorem stopJobs_sized {s : State} (h : Sized s) : Sized (stopJobs s) where
  link := by rw [stopJobs_link]; exact h.link
  ring := by rw [stopJobs_defrost]; exact Defrost.disarmed_ring h.ring
  tables := by rw [stopJobs_tables, stopJobs_ownAddress]; exact h.tables
  line := by rw [stopJobs_line]; exact closeOpenValve_bounded h.line

/-- Restart keeps the filter total that the close of an open valve leaves (R68). -/
theorem restartEffect_filterTotal (s : State) :
    (restartEffect s).line.filterTotal = (closeOpenValve s).line.filterTotal := by
  unfold restartEffect restartJobs
  split <;>
    simp [restartDisp, restartIce, restartLine, restartDefrost, stopJobs_line, emptyGate, disarmDisp, disarmIce,
      disarmLine]

theorem restarted_sized (now : Nat) (l : Link) : (l.restarted now).sized :=
  ⟨Nat.zero_le _, Nat.zero_le _, fun k => absurd rfl k⟩

theorem restartEffect_sized {s : State} (h : Sized s) : Sized (restartEffect s) where
  link := restarted_sized s.now s.link
  ring := by
    rw [restartEffect_defrost]
    split
    · exact Defrost.disarmed_ring h.ring
    · exact h.ring
  tables := by
    obtain ⟨-, own, tables, -, -⟩ := restartEffect_keeps s
    rw [own, tables]
    exact h.tables
  line := by
    have total := restartEffect_filterTotal s
    obtain ⟨l, e⟩ := restartEffect_line s
    rw [e] at total ⊢
    refine ⟨?_, Nat.zero_le _, Nat.zero_le _⟩
    exact total.trans_le (closeOpenValve_bounded h.line).1

theorem armEffect_sized {s : State} (h : Sized s) : Sized (armEffect s) := by
  have started : Sized (armGate (armLine (armDefrost (s.setMode .running)))) := ⟨h.link, h.ring, h.tables, h.line⟩
  unfold armEffect armIce
  dsimp only
  split
  · exact (leaveOff_frame _).sized ((setIce_frame _ _).sized started)
  · exact (setIce_frame _ _).sized started

/-- The size invariant through every row. -/
theorem sized_keeps : Keeps Sized where
  powerOn a p := (sizeInv_iff ((State.powerOn a).setPending p)).mp (by
    show (State.powerOn a).sizeInv
    cases a <;> decide)
  queue s p h := ⟨h.link, h.ring, h.tables, h.line⟩
  link s l hl h := ⟨hl h.link, h.ring, h.tables, h.line⟩
  restartMark s b h := ⟨h.link, h.ring, h.tables, h.line⟩
  job s t hj := hj.frame.sized
  second s _ := defrostSecond_sized
  forced s _ _ h := setDefrost_sized h h.ring
  abandoned s _ h := (giveUpOutput_frame .dh _).jobFrame.sized (setDefrost_sized h h.ring)
  heatAborted s _ := terminateHeat_sized
  recordRead s i h := setDefrost_sized h (by simpa [Defrost.markRead] using h.ring)
  restored args s hl := restore_sized hl
  written payload s h := by
    obtain e | ⟨table, start, entries, s1, count, inside, stored, e⟩ := tableWrite_cases payload s
    · rw [e]; exact h
    · rw [e]; exact storeEntries_sized inside stored h
  armed s _ := armEffect_sized
  disarmed s _ h := by
    obtain ⟨link, ring, tables, line⟩ := stopJobs_sized h
    exact ⟨link, ring, tables, line⟩
  restarted s := restartEffect_sized

/-- Settles O6: the sizes are carried through every row. -/
theorem stepKeepsSizes : Obligations.StepKeepsSizes := by
  unfold Obligations.StepKeepsSizes
  intro s t h e
  rw [sizeInv_iff] at h ⊢
  exact sized_keeps.step h e

end Sys2Proof.Machine
end


section
/-! The load gate's invariant through every step, and the drive lines of a LOADING at rest. -/

namespace Sys2Proof.Machine

/-- In RUNNING the load gate's invariant is the gate's order alone. -/
theorem loadInv_of_running {s : State} (hm : s.mode = .running) (h : s.gateInv) : s.loadInv :=
  ⟨h, fun m => by rw [hm] at m; cases m⟩

/-- The invariant depends on the gate, the three jobs, the line and the mode alone. -/
theorem loadInv_congr {s t : State} (h : s.loadInv) (hm : t.mode = s.mode) (hg : t.gate = s.gate)
    (hd1 : t.defrost.st = s.defrost.st) (hd2 : t.defrost.heatBegun = s.defrost.heatBegun) (hi : t.ice = s.ice)
    (hp : t.disp = s.disp) (hl1 : t.line.st = s.line.st) (hl2 : t.line.fillWaiting = s.line.fillWaiting)
    (hl3 : t.line.fillSuspended = s.line.fillSuspended) : t.loadInv := by
  refine ⟨gateInv_congr h.1 hg hd1 hd2, fun m => ?_⟩
  have r := h.2 (hm.symm.trans m)
  unfold State.atRest at r ⊢
  rw [hg, hd1, hi, hp, hl1, hl2, hl3]
  exact r

theorem JobStep.loadInv {s t : State} (j : JobStep s t) (h : s.loadInv) : t.loadInv :=
  ⟨j.gate h.1, fun m => by
    have m : s.mode = .loading := j.frame.mode.symm.trans m
    exact j.rest m (h.2 m)⟩

/-! ### The defrost controller leaves the mode -/

@[simp] theorem terminateHeat_mode (c : Cause) (s : State) : (terminateHeat c s).mode = s.mode := by
  simp [terminateHeat]

@[simp] theorem enterHeat_mode (b : Bool) (s : State) : (enterHeat b s).mode = s.mode := by simp [enterHeat]

theorem defrostTest_mode (s : State) : (defrostTest s).mode = s.mode := by
  unfold defrostTest
  split
  · unfold accrueTest
    split
    · rfl
    · split <;> rfl
  · unfold dueTest
    split <;> rfl
  · unfold holdTest
    split
    · simp
    · split
      · simp
      · rfl
  · unfold heatTest
    split
    · split
      · simp
      · rfl
    · rfl
  · unfold dripTest
    split <;> rfl
  · unfold recoverTest
    split <;> rfl

theorem defrostSecond_mode (s : State) : (defrostSecond s).mode = s.mode := by
  unfold defrostSecond
  split
  · rfl
  · exact defrostTest_mode _

/-! ### The modes -/

theorem armEffect_mode (s : State) : (armEffect s).mode = .running := by
  unfold armEffect armIce
  dsimp only
  split
  · exact (leaveOff_frame _).mode
  · rfl

/-- Every job that has been stopped is at rest (R193). -/
theorem stopJobs_atRest (s : State) : (stopJobs s).atRest := by
  rw [atRest_iff]
  constructor
  · rw [stopJobs_defrost]; exact (Defrost.disarmed_keeps _).1
  iterate 6 rw [stopJobs_ice]
  iterate 7 rw [stopJobs_disp]
  iterate 3 rw [stopJobs_line]
  iterate 3 rw [stopJobs_gate]

/-- In LOADING a Restart finds ACCRUE, in RUNNING it brings it (R25, R39). -/
theorem restartEffect_accrue {s : State} (h : s.loadInv) : (restartEffect s).defrost.st = .accrue := by
  rw [restartEffect_defrost]
  split
  · exact (Defrost.disarmed_keeps _).1
  · next stopped => exact ((atRest_iff s).mp (h.2 (mode_loading_of_ne_running stopped))).defrost

theorem restartEffect_atRest {s : State} (h : s.loadInv) : (restartEffect s).atRest := by
  obtain ⟨l, line⟩ := restartEffect_line s
  obtain ⟨p, disp⟩ := restartEffect_disp s
  rw [atRest_iff]
  constructor
  · exact restartEffect_accrue h
  iterate 6 (rw [restartEffect_ice]; rfl)
  iterate 7 (rw [disp]; rfl)
  iterate 3 (rw [line]; rfl)
  iterate 3 rw [restartEffect_gate]

/-! ### A Table Write -/

theorem storeParams_loadInv {table start : Nat} {entries : List (List Byte)} {s : State} (h : s.loadInv) :
    (storeParams table start entries s).1.loadInv := by
  show (ownersAct _ _ _ _).loadInv
  by_cases h7 : table = 7
  · subst h7
    rw [ownersAct_seven]
    split
    · exact loadInv_congr h rfl rfl rfl rfl rfl rfl rfl rfl rfl
    · exact h
  · exact ownersAct_keeps (P := State.loadInv) (fun _ _ _ k => k) (fun _ _ j => j.loadInv) h7 h

theorem storeEntries_loadInv {table start count : Nat} {entries : List (List Byte)} {s s1 : State}
    (stored : storeEntries table start entries s = some (s1, count)) (h : s.loadInv) : s1.loadInv := by
  unfold storeEntries at stored
  split at stored
  · simp only [storeRoute, Option.map_eq_some_iff, Prod.mk.injEq] at stored
    obtain ⟨es, -, rfl, -⟩ := stored
    exact h
  · obtain rfl : _ = s1 := congrArg Prod.fst (Option.some.inj stored)
    exact h
  · obtain rfl : _ = s1 := congrArg Prod.fst (Option.some.inj stored)
    exact h
  · simp only [storeChanMap, Option.map_eq_some_iff, Prod.mk.injEq] at stored
    obtain ⟨raws, -, rfl, -⟩ := stored
    obtain ⟨m, c, e⟩ := storeChanMap_leaves (indexedFrom start raws) s
    rw [e]
    exact h
  · obtain rfl : _ = s1 := congrArg Prod.fst (Option.some.inj stored)
    exact h
  · obtain rfl : _ = s1 := congrArg Prod.fst (Option.some.inj stored)
    exact storeParams_loadInv h

theorem restore_loadInv {args : List Byte} {s : State} (h : s.loadInv) : (restore args s).1.loadInv := by
  unfold restore
  split
  · exact h
  · exact loadInv_congr h rfl rfl rfl rfl rfl rfl rfl rfl rfl

/-! ### Every row -/

/-- The load gate's invariant through every row. -/
theorem loadInv_keeps : Keeps State.loadInv where
  powerOn a p := ⟨gateInv_of_empty rfl rfl rfl, fun _ => by
    show (State.powerOn a).atRest
    cases a <;> decide⟩
  queue s p h := h
  link s l _ h := h
  restartMark s b h := h
  job s t j := j.loadInv
  second s hm h := loadInv_of_running ((defrostSecond_mode s).trans hm) (defrostSecond_gateInv h.1)
  forced s hm accrues h :=
    loadInv_of_running hm (setDefrost_gateInv _ h.1 (by simp) (by rw [accrues]; simp))
  abandoned s hm h :=
    loadInv_of_running ((giveUpOutput_mode .dh _).trans hm) (leaveHeat_gateInv _ h.1 (by simp [Defrost.toAccrue]))
  heatAborted s hm h :=
    loadInv_of_running ((terminateHeat_mode .abort s).trans hm) (leaveHeat_gateInv _ h.1 (by simp))
  recordRead s i h := loadInv_congr h rfl rfl rfl rfl rfl rfl rfl rfl rfl
  restored args s _ := restore_loadInv
  written payload s h := by
    obtain e | ⟨table, start, entries, s1, count, -, stored, e⟩ := tableWrite_cases payload s
    · rw [e]; exact h
    · rw [e]; exact storeEntries_loadInv stored h
  armed s hm h := by
    have r := (atRest_iff s).mp (h.2 hm)
    exact loadInv_of_running (armEffect_mode s) (armEffect_gateInv r.granted r.wait r.hm)
  disarmed s _ _ := ⟨stopJobs_gateInv s, fun _ => stopJobs_atRest s⟩
  restarted s h := ⟨restartEffect_gateInv s, fun _ => restartEffect_atRest h⟩

/-- Settles O5: the gate's order and the rest of LOADING are carried through every row. -/
theorem stepKeepsLoadGate : Obligations.StepKeepsLoadGate := by
  unfold Obligations.StepKeepsLoadGate
  intro s t h e
  exact loadInv_keeps.step h e

/-- Settles O7: every drive line follows a block that is at rest, EF and AD the mode. -/
theorem loadingDrivesOff : Obligations.LoadingDrivesOff := by
  unfold Obligations.LoadingDrivesOff
  intro s hm h
  have r := (atRest_iff s).mp (h.2 hm)
  simp [State.drives, Drives.allOff, Gate.heaterOn, GrantSet.get, GrantSet.empty, State.fanOn, hm, r.granted, r.hm,
    r.line, r.flap]

end Sys2Proof.Machine
end


section
/-! The parameter tables: reading what has been stored, what a write of several entries leaves of each, and the
parameters' invariant through every step. -/

namespace Sys2Proof.Machine

/-! ### One parameter stored and read back -/

/-- A number the parameter's field can hold: those that are not signed hold no number below 0 (R187). -/
def storable (table i : Nat) (v : Int) : Prop := (paramRange table i).signed = true ∨ 0 ≤ v

/-- The number a parameter's field holds of a number stored in it. -/
def fieldValue (table i : Nat) (v : Int) : Int := if (paramRange table i).signed then v else (v.toNat : Int)

theorem fieldValue_of_storable {table i : Nat} {v : Int} (h : storable table i v) : fieldValue table i v = v := by
  unfold fieldValue
  split
  · rfl
  · next unsigned => exact Int.toNat_of_nonneg (h.resolve_left unsigned)

theorem GeneralParams.get_set (p : GeneralParams) {i j : Nat} (v : Int) (hi : i < 15) (hj : j < 15) :
    (p.set i v).get j = if j = i then fieldValue 6 i v else p.get j := by
  interval_cases i <;> interval_cases j <;> rfl

theorem DefrostParams.get_set (p : DefrostParams) {i j : Nat} (v : Int) (hi : i < 16) (hj : j < 16) :
    (p.set i v).get j = if j = i then fieldValue 7 i v else p.get j := by
  interval_cases i <;> interval_cases j <;> rfl

theorem IceParams.get_set (p : IceParams) {i j : Nat} (v : Int) (hi : i < 15) (hj : j < 15) :
    (p.set i v).get j = if j = i then fieldValue 8 i v else p.get j := by
  interval_cases i <;> interval_cases j <;> rfl

theorem WaterParams.get_set (p : WaterParams) {i j : Nat} (v : Int) (hi : i < 15) (hj : j < 15) :
    (p.set i v).get j = if j = i then fieldValue 9 i v else p.get j := by
  interval_cases i <;> interval_cases j <;> rfl

/-- The four parameter tables, by number. -/
theorem paramTable_cases {table : Nat} (h6 : 6 ≤ table) (h9 : table ≤ 9) :
    table = 6 ∨ table = 7 ∨ table = 8 ∨ table = 9 := by omega

/-- A parameter reads as it was stored, the others of its table as before. -/
theorem param_setParam {table : Nat} (h6 : 6 ≤ table) (h9 : table ≤ 9) (t : Tables) {i j : Nat} {v : Int}
    (hi : i < tableEntries table) (hj : j < tableEntries table) (hv : storable table i v) :
    (t.setParam table i v).param table j = if j = i then v else t.param table j := by
  have same := fieldValue_of_storable hv
  obtain rfl | rfl | rfl | rfl := paramTable_cases h6 h9
  · exact (t.general.get_set v hi hj).trans (by rw [same]; rfl)
  · exact (t.defrost.get_set v hi hj).trans (by rw [same]; rfl)
  · exact (t.ice.get_set v hi hj).trans (by rw [same]; rfl)
  · exact (t.water.get_set v hi hj).trans (by rw [same]; rfl)

/-! ### What a write to one parameter table leaves -/

/-- Only the given parameter table differs. -/
def ParamFrame (table : Nat) (t u : Tables) : Prop :=
  u = { t with
    general := if table = 6 then u.general else t.general
    defrost := if table = 7 then u.defrost else t.defrost
    ice := if table = 8 then u.ice else t.ice
    water := if table = 9 then u.water else t.water }

theorem ParamFrame.refl (table : Nat) (t : Tables) : ParamFrame table t t := by simp [ParamFrame]

theorem ParamFrame.trans {table : Nat} {t u v : Tables} (h : ParamFrame table t u) (k : ParamFrame table u v) :
    ParamFrame table t v := by
  unfold ParamFrame at *
  rw [h] at k
  rw [k]
  simp only [Tables.mk.injEq, true_and]
  refine ⟨?_, ?_, ?_, ?_⟩ <;> split <;> rfl

theorem setParam_frame (table i : Nat) (v : Int) (t : Tables) : ParamFrame table t (t.setParam table i v) := by
  unfold Tables.setParam
  split
  iterate 4 simp [ParamFrame]
  exact .refl table t

theorem orderTables_frame (table start n : Nat) (t : Tables) : ParamFrame table t (orderTables table start n t) := by
  unfold orderTables
  split
  · split
    · simp [ParamFrame]
    · exact .refl 6 t
  · simp [ParamFrame]
  · exact .refl table t

@[simp] theorem indexedFrom_nil {α : Type} (i : Nat) : indexedFrom i ([] : List α) = [] := rfl

@[simp] theorem indexedFrom_cons {α : Type} (i : Nat) (x : α) (xs : List α) :
    indexedFrom i (x :: xs) = (i, x) :: indexedFrom (i + 1) xs := rfl

@[simp] theorem clampInto_nil (table start : Nat) (t : Tables) : clampInto table start [] t = t := rfl

theorem clampInto_cons (table start : Nat) (x : Int) (xs : List Int) (t : Tables) :
    clampInto table start (x :: xs) t =
      clampInto table (start + 1) xs (t.setParam table start (paramClamp table start x)) := rfl

theorem clampInto_frame (table start : Nat) (raws : List Int) (t : Tables) :
    ParamFrame table t (clampInto table start raws t) := by
  induction raws generalizing start t with
  | nil => exact .refl table t
  | cons x xs ih => exact (setParam_frame table start _ t).trans (ih _ _)

theorem ParamFrame.general {table : Nat} {t u : Tables} (h : ParamFrame table t u) (hne : table ≠ 6) :
    u.general = t.general := by rw [h]; exact if_neg hne
theorem ParamFrame.defrost {table : Nat} {t u : Tables} (h : ParamFrame table t u) (hne : table ≠ 7) :
    u.defrost = t.defrost := by rw [h]; exact if_neg hne
theorem ParamFrame.ice {table : Nat} {t u : Tables} (h : ParamFrame table t u) (hne : table ≠ 8) :
    u.ice = t.ice := by rw [h]; exact if_neg hne
theorem ParamFrame.water {table : Nat} {t u : Tables} (h : ParamFrame table t u) (hne : table ≠ 9) :
    u.water = t.water := by rw [h]; exact if_neg hne

/-- The parameters of the other tables read as before. -/
theorem ParamFrame.param {table tb : Nat} {t u : Tables} (h : ParamFrame table t u) (hne : tb ≠ table) (h6 : 6 ≤ tb)
    (h9 : tb ≤ 9) (j : Nat) : u.param tb j = t.param tb j := by
  obtain rfl | rfl | rfl | rfl := paramTable_cases h6 h9
  · exact congrArg (GeneralParams.get · j) (h.general hne.symm)
  · exact congrArg (DefrostParams.get · j) (h.defrost hne.symm)
  · exact congrArg (IceParams.get · j) (h.ice hne.symm)
  · exact congrArg (WaterParams.get · j) (h.water hne.symm)

/-! ### Ranges and clamping -/

/-- Each range is one, and holds no number its field does not. -/
theorem paramRanges_wf (table : Nat) : ∀ r ∈ paramRanges table, r.lo ≤ r.hi ∧ (r.signed = true ∨ 0 ≤ r.lo) := by
  unfold paramRanges
  split
  iterate 4 decide
  · simp

theorem paramRanges_length {table : Nat} (h6 : 6 ≤ table) (h9 : table ≤ 9) :
    (paramRanges table).length = tableEntries table := by
  obtain rfl | rfl | rfl | rfl := paramTable_cases h6 h9 <;> rfl

theorem paramRange_mem {table i : Nat} (h6 : 6 ≤ table) (h9 : table ≤ 9) (hi : i < tableEntries table) :
    paramRange table i ∈ paramRanges table := by
  rw [← paramRanges_length h6 h9] at hi
  unfold paramRange
  rw [List.getD_eq_getElem _ _ hi]
  exact List.getElem_mem hi

theorem clampInt_idem {lo hi : Int} (h : lo ≤ hi) (x : Int) : clampInt lo hi (clampInt lo hi x) = clampInt lo hi x := by
  unfold clampInt; omega

/-- Outside FLOWK's 0 a parameter is clamped into its range (R188, R66). -/
theorem paramClamp_eq {table i : Nat} {v : Int} (h : ¬(table = 9 ∧ i = 0 ∧ v = 0)) :
    paramClamp table i v = clampInt (paramRange table i).lo (paramRange table i).hi v := if_neg h

theorem paramClamp_flowk : paramClamp 9 0 0 = 0 := rfl

theorem paramClamp_idem {table i : Nat} (h6 : 6 ≤ table) (h9 : table ≤ 9) (hi : i < tableEntries table) (v : Int) :
    paramClamp table i (paramClamp table i v) = paramClamp table i v := by
  obtain ⟨range, -⟩ := paramRanges_wf table _ (paramRange_mem h6 h9 hi)
  by_cases h : table = 9 ∧ i = 0 ∧ v = 0
  · obtain ⟨rfl, rfl, rfl⟩ := h
    rfl
  · rw [paramClamp_eq h]
    by_cases k : table = 9 ∧ i = 0 ∧ clampInt (paramRange table i).lo (paramRange table i).hi v = 0
    · obtain ⟨rfl, rfl, e⟩ := k
      rw [e]
      rfl
    · rw [paramClamp_eq k, clampInt_idem range]

theorem paramClamp_storable {table i : Nat} (h6 : 6 ≤ table) (h9 : table ≤ 9) (hi : i < tableEntries table) (v : Int) :
    storable table i (paramClamp table i v) := by
  obtain ⟨-, signed | lo⟩ := paramRanges_wf table _ (paramRange_mem h6 h9 hi)
  · exact .inl signed
  · right
    unfold paramClamp
    split
    · exact Int.le_refl 0
    · exact lo.trans (le_max_left _ _)

/-! ### Several entries clamped and stored (R188, step 1) -/

/-- Each written parameter holds its clamped number, the others of the table what they held. -/
theorem clampInto_param {table : Nat} (h6 : 6 ≤ table) (h9 : table ≤ 9) {start : Nat} {raws : List Int} (t : Tables)
    {j : Nat} (inside : start + raws.length ≤ tableEntries table) (hj : j < tableEntries table) :
    (clampInto table start raws t).param table j =
      if start ≤ j ∧ j < start + raws.length then paramClamp table j (raws.getD (j - start) 0)
      else t.param table j := by
  induction raws generalizing start t with
  | nil => rw [if_neg (by simp)]; rfl
  | cons x xs ih =>
    rw [List.length_cons] at inside ⊢
    have hs : start < tableEntries table := by omega
    rw [clampInto_cons, ih _ (by omega), param_setParam h6 h9 t hs hj (paramClamp_storable h6 h9 hs x)]
    by_cases first : j = start
    · subst first
      rw [if_neg (by omega), if_pos rfl, if_pos (by omega), Nat.sub_self]
      rfl
    · by_cases later : start + 1 ≤ j ∧ j < start + 1 + xs.length
      · obtain ⟨m, rfl⟩ : ∃ m, j = start + 1 + m := ⟨j - (start + 1), by omega⟩
        rw [if_pos later, if_pos (by omega), show start + 1 + m - start = m + 1 by omega, Nat.add_sub_cancel_left]
        rfl
      · rw [if_neg later, if_neg first, if_neg (by omega)]

/-! ### The orderings (R188, step 2) -/

/-- What a parameter holds once the orderings of R14, R40 and R181 have been made of the numbers `base` clamped. -/
def orderedValue (table start n : Nat) (base : Nat → Int) (j : Nat) : Int :=
  if table = 6 ∧ covers start n 4 5 = true ∧ j = 5 then min (base 5) (base 4 - 1)
  else if table = 7 ∧ covers start n 0 2 = true ∧ j = 0 then max (base 1) (min (max (base 1) (base 2)) (base 0))
  else if table = 7 ∧ covers start n 0 2 = true ∧ j = 2 then max (base 1) (base 2)
  else if table = 7 ∧ covers start n 6 7 = true ∧ j = 7 then max (base 6) (base 7)
  else base j

theorem orderRelay_get (p : GeneralParams) {j : Nat} (hj : j < 15) (h : 1 ≤ p.relayhigh) :
    p.orderRelay.get j = if j = 5 then min (p.get 5) (p.get 4 - 1) else p.get j := by
  have low : ((p.relayhigh - 1 : Nat) : Int) = p.relayhigh - 1 := by omega
  by_cases h5 : j = 5
  · subst h5
    simp [GeneralParams.orderRelay, GeneralParams.get, low]
  · rw [if_neg h5]
    interval_cases j <;> first | rfl | exact absurd rfl h5

theorem orderThr_get (p : DefrostParams) {j : Nat} (hj : j < 16) :
    p.orderThr.get j = if j = 0 then max (p.get 1) (min (max (p.get 1) (p.get 2)) (p.get 0))
      else if j = 2 then max (p.get 1) (p.get 2) else p.get j := by
  by_cases h0 : j = 0
  · subst h0
    simp [DefrostParams.orderThr, DefrostParams.get, clampNat]
  · by_cases h2 : j = 2
    · subst h2
      simp [DefrostParams.orderThr, DefrostParams.get]
    · rw [if_neg h0, if_neg h2]
      interval_cases j <;> first | rfl | exact absurd rfl h0 | exact absurd rfl h2

theorem orderHeat_get (p : DefrostParams) {j : Nat} (hj : j < 16) :
    p.orderHeat.get j = if j = 7 then max (p.get 6) (p.get 7) else p.get j := by
  by_cases h7 : j = 7
  · subst h7
    simp [DefrostParams.orderHeat, DefrostParams.get, max_comm]
  · rw [if_neg h7]
    interval_cases j <;> first | rfl | exact absurd rfl h7

/-- The orderings of a write, parameter by parameter. -/
theorem orderTables_param {table : Nat} (h6 : 6 ≤ table) (h9 : table ≤ 9) (start n : Nat) (t : Tables) {j : Nat}
    (hj : j < tableEntries table) (high : 1 ≤ t.general.relayhigh) :
    (orderTables table start n t).param table j = orderedValue table start n (t.param table) j := by
  obtain rfl | rfl | rfl | rfl := paramTable_cases h6 h9
  · show (if covers start n 4 5 then { t with general := t.general.orderRelay } else t).param 6 j = _
    split
    · next c => exact (orderRelay_get t.general hj high).trans (by simp [orderedValue, c, Tables.param])
    · next c => simp [orderedValue, c]
  · have hj : j < 16 := hj
    show DefrostParams.get (if covers start n 6 7 then
      DefrostParams.orderHeat (if covers start n 0 2 then t.defrost.orderThr else t.defrost)
      else if covers start n 0 2 then t.defrost.orderThr else t.defrost) j = _
    by_cases c : covers start n 0 2 = true <;> by_cases d : covers start n 6 7 = true
    · simp only [c, d, if_true, orderHeat_get _ hj, orderThr_get, hj, show 6 < 16 by decide, show 7 < 16 by decide]
      simp only [orderedValue, c, d, Tables.param]
      by_cases h7 : j = 7
      · subst h7; simp
      · simp [h7]
    · simp [c, d, orderedValue, orderThr_get _ hj, Tables.param]
    · simp [c, d, orderedValue, orderHeat_get _ hj, Tables.param]
    · simp [c, d, orderedValue, Tables.param]
  · simp [orderTables, orderedValue]
  · simp [orderTables, orderedValue]

end Sys2Proof.Machine
end


section
/-! The parameters' invariant through every step: the ranges and the orderings after a write, THR in the range in force,
E in its own. -/

namespace Sys2Proof.Machine

/-! ### The invariant's parts -/

/-- A parameter that clamping does not move lies in its range. -/
theorem paramClamp_eq_self_iff {table i : Nat} (h6 : 6 ≤ table) (h9 : table < 9) (hi : i < tableEntries table)
    (v : Int) : paramClamp table i v = v ↔ (paramRange table i).lo ≤ v ∧ v ≤ (paramRange table i).hi := by
  obtain ⟨range, -⟩ := paramRanges_wf table _ (paramRange_mem h6 h9.le hi)
  rw [paramClamp_eq (fun h => absurd h.1 h9.ne)]
  unfold clampInt
  omega

/-- The orderings, in the numbers the tables read as. -/
theorem ordered_iff (t : Tables) : t.ordered ↔ (t.param 7 1 ≤ t.param 7 0 ∧ t.param 7 0 ≤ t.param 7 2) ∧
    t.param 7 6 ≤ t.param 7 7 ∧ t.param 6 5 < t.param 6 4 := by
  simp only [Tables.ordered, Tables.param, DefrostParams.get, GeneralParams.get]
  omega

theorem thrmax_le {t : Tables} (h : t.inRange) : t.defrost.thrmax ≤ 8294400 := by
  have range := (paramClamp_eq_self_iff (by decide) (by decide) (by decide) _).mp (h 7 2 (by decide) (by decide) (by decide))
  exact Int.ofNat_le.mp range.2

theorem relayhigh_pos {t : Tables} (h : t.inRange) : 1 ≤ t.general.relayhigh := by
  have range := (paramClamp_eq_self_iff (by decide) (by decide) (by decide) _).mp (h 6 4 (by decide) (by decide) (by decide))
  exact Int.ofNat_le.mp range.1

theorem powerOn_inRange (own : Byte) : (Tables.powerOn own).inRange := by
  intro table i h6 h9 hi
  have every : ∀ table, table < 10 → 6 ≤ table → ∀ i, i < tableEntries table →
      paramClamp table i ((Tables.powerOn 48).param table i) = (Tables.powerOn 48).param table i := by decide
  exact every table (by omega) h6 i hi

theorem tableEntries_unknown {table : Nat} (h : table = 0 ∨ 9 < table) : tableEntries table = 0 := by
  unfold tableEntries
  split <;> omega

/-! ### The orderings keep the ranges and bring the order -/

section
variable {table start n : Nat} {base : Nat → Int}

/-- What an ordering moves stays in its parameter's range (R14, R40, R181). -/
theorem orderedValue_clamped (h : ∀ j, j < tableEntries table → paramClamp table j (base j) = base j) {j : Nat}
    (hj : j < tableEntries table) :
    paramClamp table j (orderedValue table start n base j) = orderedValue table start n base j := by
  have inside (t i : Nat) (e : table = t) (h6 : 6 ≤ t) (h9 : t < 9) (hi : i < tableEntries t) :
      (paramRange t i).lo ≤ base i ∧ base i ≤ (paramRange t i).hi := by
    subst e
    exact (paramClamp_eq_self_iff h6 h9 hi _).mp (h i hi)
  unfold orderedValue
  split
  · next c =>
    obtain ⟨rfl, -, rfl⟩ := c
    have high : 1 ≤ base 4 ∧ base 4 ≤ 4 := inside 6 4 rfl (by decide) (by decide) (by decide)
    have low : 0 ≤ base 5 ∧ base 5 ≤ 3 := inside 6 5 rfl (by decide) (by decide) (by decide)
    rw [paramClamp_eq_self_iff (by decide) (by decide) hj]
    show 0 ≤ min (base 5) (base 4 - 1) ∧ min (base 5) (base 4 - 1) ≤ 3
    omega
  have thr (e : table = 7) : (57600 ≤ base 0 ∧ base 0 ≤ 8294400) ∧ (57600 ≤ base 1 ∧ base 1 ≤ 8294400) ∧
      57600 ≤ base 2 ∧ base 2 ≤ 8294400 :=
    ⟨inside 7 0 e (by decide) (by decide) (by decide), inside 7 1 e (by decide) (by decide) (by decide),
      inside 7 2 e (by decide) (by decide) (by decide)⟩
  split
  · next c =>
    obtain ⟨rfl, -, rfl⟩ := c
    have := thr rfl
    rw [paramClamp_eq_self_iff (by decide) (by decide) hj]
    show 57600 ≤ max (base 1) (min (max (base 1) (base 2)) (base 0)) ∧
      max (base 1) (min (max (base 1) (base 2)) (base 0)) ≤ 8294400
    omega
  split
  · next c =>
    obtain ⟨rfl, -, rfl⟩ := c
    have := thr rfl
    rw [paramClamp_eq_self_iff (by decide) (by decide) hj]
    show 57600 ≤ max (base 1) (base 2) ∧ max (base 1) (base 2) ≤ 8294400
    omega
  split
  · next c =>
    obtain ⟨rfl, -, rfl⟩ := c
    have target : 300 ≤ base 6 ∧ base 6 ≤ 3600 := inside 7 6 rfl (by decide) (by decide) (by decide)
    have heat : 600 ≤ base 7 ∧ base 7 ≤ 5400 := inside 7 7 rfl (by decide) (by decide) (by decide)
    rw [paramClamp_eq_self_iff (by decide) (by decide) hj]
    show 600 ≤ max (base 6) (base 7) ∧ max (base 6) (base 7) ≤ 5400
    omega
  · exact h j hj

theorem orderedValue_relay (h : covers start n 4 5 = false → base 5 < base 4) :
    orderedValue 6 start n base 5 < orderedValue 6 start n base 4 := by
  cases c : covers start n 4 5
  · simpa [orderedValue, c] using h c
  · simp [orderedValue, c]

theorem orderedValue_thr (h : covers start n 0 2 = false → base 1 ≤ base 0 ∧ base 0 ≤ base 2) :
    orderedValue 7 start n base 1 ≤ orderedValue 7 start n base 0 ∧
      orderedValue 7 start n base 0 ≤ orderedValue 7 start n base 2 := by
  cases c : covers start n 0 2
  · simpa [orderedValue, c] using h c
  · simp only [orderedValue, c]
    norm_num
    omega

theorem orderedValue_heat (h : covers start n 6 7 = false → base 6 ≤ base 7) :
    orderedValue 7 start n base 6 ≤ orderedValue 7 start n base 7 := by
  cases c : covers start n 6 7
  · simpa [orderedValue, c] using h c
  · simp [orderedValue, c]

end

theorem covers_eq_false_iff (start n lo hi : Nat) : covers start n lo hi = false ↔ hi < start ∨ start + n ≤ lo := by
  simp [covers]
  omega

/-! ### The tables after a parameter write -/

section
variable {table start : Nat} {raws : List Int} {t : Tables} (h6 : 6 ≤ table) (h9 : table ≤ 9)
  (inside : start + raws.length ≤ tableEntries table)
include h6 h9 inside

theorem clampInto_inRange (h : t.inRange) : (clampInto table start raws t).inRange := by
  intro tb j tb6 tb9 hj
  by_cases e : tb = table
  · subst e
    rw [clampInto_param h6 h9 t inside hj]
    split
    · exact paramClamp_idem h6 h9 hj _
    · exact h tb j h6 h9 hj
  · rw [(clampInto_frame table start raws t).param e tb6 tb9]
    exact h tb j tb6 tb9 hj

theorem written_inRange (h : t.inRange) : (orderTables table start raws.length (clampInto table start raws t)).inRange := by
  have clamped := clampInto_inRange h6 h9 inside h
  intro tb j tb6 tb9 hj
  by_cases e : tb = table
  · subst e
    rw [orderTables_param h6 h9 start _ _ hj (relayhigh_pos clamped)]
    exact orderedValue_clamped (fun i hi => clamped tb i h6 h9 hi) hj
  · rw [(orderTables_frame table start raws.length _).param e tb6 tb9]
    exact clamped tb j tb6 tb9 hj

/-- Where a write covers no parameter from `lo` to `hi`, each of those reads as before. -/
theorem clampInto_uncovered {lo hi j : Nat} (h : covers start raws.length lo hi = false) (above : lo ≤ j)
    (below : j ≤ hi) (hj : j < tableEntries table) :
    (clampInto table start raws t).param table j = t.param table j := by
  rw [covers_eq_false_iff] at h
  rw [clampInto_param h6 h9 t inside hj, if_neg (by omega)]

theorem written_ordered (h : t.inRange) (o : t.ordered) :
    (orderTables table start raws.length (clampInto table start raws t)).ordered := by
  have high := relayhigh_pos (clampInto_inRange h6 h9 inside h)
  have frame := (clampInto_frame table start raws t).trans (orderTables_frame table start raws.length _)
  rw [ordered_iff] at o ⊢
  obtain ⟨thr, heat, relay⟩ := o
  obtain rfl | rfl | other := show table = 6 ∨ table = 7 ∨ (table ≠ 6 ∧ table ≠ 7) by omega
  · have seven (j : Nat) := frame.param (tb := 7) (by decide) (by decide) (by decide) j
    simp only [seven]
    iterate 2 rw [orderTables_param h6 h9 _ _ _ (by decide) high]
    refine ⟨thr, heat, orderedValue_relay fun c => ?_⟩
    rw [clampInto_uncovered h6 h9 inside c (by decide) (by decide) (by decide),
      clampInto_uncovered h6 h9 inside c (by decide) (by decide) (by decide)]
    exact relay
  · rw [frame.param (tb := 6) (by decide) (by decide) (by decide), frame.param (tb := 6) (by decide) (by decide) (by decide)]
    iterate 5 rw [orderTables_param h6 h9 _ _ _ (by decide) high]
    refine ⟨orderedValue_thr fun c => ?_, orderedValue_heat fun c => ?_, relay⟩
    · iterate 3 rw [clampInto_uncovered h6 h9 inside c (by decide) (by decide) (by decide)]
      exact thr
    · iterate 2 rw [clampInto_uncovered h6 h9 inside c (by decide) (by decide) (by decide)]
      exact heat
  · obtain ⟨ne6, ne7⟩ := other
    have seven (j : Nat) := frame.param ne7.symm (by decide) (by decide) j
    have six (j : Nat) := frame.param ne6.symm (by decide) (by decide) j
    simp only [seven, six]
    exact ⟨thr, heat, relay⟩

end

/-! ### THR and E -/

theorem clampNat_within {lo hi : Nat} (h : lo ≤ hi) (x : Nat) : lo ≤ clampNat lo hi x ∧ clampNat lo hi x ≤ hi := by
  unfold clampNat
  omega

/-- Adapting THR leaves it in the range in force (R9 to R12). -/
theorem adaptedThr_within {p : DefrostParams} {thr : Nat} (h : p.thrmin ≤ thr ∧ thr ≤ p.thrmax) (trigger : Trigger)
    (start heaterOn : Nat) (c : Cause) : p.thrmin ≤ adaptedThr p trigger start thr heaterOn c ∧
      adaptedThr p trigger start thr heaterOn c ≤ p.thrmax := by
  unfold adaptedThr
  split
  · split
    · exact clampNat_within (h.1.trans h.2) _
    · exact h
  · unfold shortenedThr
    omega
  all_goals exact h

theorem JobFrame.paramInv {s t : State} (f : JobFrame s t) (h : s.paramInv) : t.paramInv := by
  unfold State.paramInv
  rw [f.tables, f.thr, f.estimate]
  exact h

theorem setDefrost_paramInv {s : State} {d : Defrost} (h : s.paramInv) (thr : d.thr = s.defrost.thr)
    (estimate : d.estimate ≤ Config.frostMax) : (s.setDefrost d).paramInv := by
  obtain ⟨range, order, within, -⟩ := h
  refine ⟨range, order, ?_, estimate⟩
  rw [State.setDefrost_defrost, State.setDefrost_tables, thr]
  exact within

theorem enterHeat_paramInv {s : State} {b : Bool} (h : s.paramInv) : (enterHeat b s).paramInv :=
  (requestOutput_frame .dh _).jobFrame.paramInv (setDefrost_paramInv h rfl h.2.2.2)

theorem terminateHeat_paramInv {s : State} {c : Cause} (h : s.paramInv) : (terminateHeat c s).paramInv := by
  obtain ⟨range, order, thr, estimate⟩ := h
  exact (giveUpOutput_frame .dh _).jobFrame.paramInv ⟨range, order, adaptedThr_within thr _ _ _ _, estimate⟩

/-- Three quarters of THR are an estimate in range (R37, R3). -/
theorem abandonCycle_paramInv {s : State} (h : s.paramInv) : (abandonCycle s).paramInv := by
  obtain ⟨range, -, thr, -⟩ := id h
  have top := thrmax_le range
  refine (giveUpOutput_frame .dh _).jobFrame.paramInv (setDefrost_paramInv h rfl ?_)
  show s.defrost.thr * 3 / 4 ≤ 16777215
  omega

theorem Defrost.complete_paramInv {s : State} {d : Defrost} (h : s.paramInv) (thr : d.thr = s.defrost.thr) :
    (s.setDefrost d.complete).paramInv :=
  setDefrost_paramInv h thr (Nat.zero_le _)

theorem defrostTest_paramInv {s : State} (h : s.paramInv) : (defrostTest s).paramInv := by
  have same (d : Defrost) (thr : d.thr = s.defrost.thr) (e : d.estimate = s.defrost.estimate) :
      (s.setDefrost d).paramInv := setDefrost_paramInv h thr (e ▸ h.2.2.2)
  unfold defrostTest
  split
  · unfold accrueTest
    split
    · exact same _ rfl rfl
    · split
      · exact same _ rfl rfl
      · exact h
  · unfold dueTest
    split
    · exact same _ rfl rfl
    · exact h
  · unfold holdTest
    split
    · exact enterHeat_paramInv h
    · split
      · exact enterHeat_paramInv h
      · exact h
  · unfold heatTest
    split
    · split
      · exact terminateHeat_paramInv h
      · exact h
    · exact h
  · unfold dripTest
    split
    · exact same _ rfl rfl
    · exact h
  · unfold recoverTest
    split
    · exact Defrost.complete_paramInv h rfl
    · exact h

theorem defrostCounts_paramInv {s : State} (h : s.paramInv) : (defrostCounts s).paramInv := by
  refine setDefrost_paramInv ((reach_frame s _).paramInv h) (reach_frame s _).thr.symm ?_
  dsimp only
  split
  · exact satAdd_le _ _ _
  · exact h.2.2.2

theorem defrostSecond_paramInv {s : State} (h : s.paramInv) : (defrostSecond s).paramInv := by
  unfold defrostSecond
  split
  · exact defrostCounts_paramInv h
  · exact defrostTest_paramInv (defrostCounts_paramInv h)

theorem Defrost.disarmed_estimate {d : Defrost} (h : d.estimate ≤ Config.frostMax) :
    d.disarmed.estimate ≤ Config.frostMax := by
  unfold Defrost.disarmed
  split
  iterate 3 exact h
  · split
    · exact Nat.zero_le _
    · exact h
  iterate 2 exact Nat.zero_le _

theorem disarmed_paramInv {s t : State} (h : s.paramInv) (tables : t.tables = s.tables)
    (defrost : t.defrost = s.defrost.disarmed) : t.paramInv := by
  obtain ⟨range, order, thr, estimate⟩ := h
  unfold State.paramInv
  rw [tables, defrost, (Defrost.disarmed_keeps _).2.1]
  exact ⟨range, order, thr, Defrost.disarmed_estimate estimate⟩

/-! ### Arm, Restart and RESTORE -/

theorem restartEffect_paramInv {s : State} (h : s.paramInv) : (restartEffect s).paramInv := by
  obtain ⟨-, -, tables, -, -⟩ := restartEffect_keeps s
  obtain ⟨range, order, thr, estimate⟩ := h
  unfold State.paramInv
  rw [tables, restartEffect_defrost]
  refine ⟨range, order, ?_⟩
  split
  · show (_ ≤ s.defrost.disarmed.thr ∧ s.defrost.disarmed.thr ≤ _) ∧ s.defrost.disarmed.estimate ≤ _
    rw [(Defrost.disarmed_keeps _).2.1]
    exact ⟨thr, Defrost.disarmed_estimate estimate⟩
  · exact ⟨thr, estimate⟩

/-- Arm takes THRSTART where no THR has been learned: the ordered range holds it (R17, R14). -/
theorem armDefrost_paramInv {s : State} (h : s.paramInv) : (armDefrost s).paramInv := by
  obtain ⟨range, order, thr, estimate⟩ := h
  refine ⟨range, order, ?_, estimate⟩
  show s.tables.defrost.thrmin ≤ (if s.defrost.origin = .fromDefault then s.tables.defrost.thrstart else s.defrost.thr) ∧ _
  unfold armDefrost
  dsimp only [State.setDefrost]
  split
  · exact order.1
  · exact thr

theorem armEffect_paramInv {s : State} (h : s.paramInv) : (armEffect s).paramInv := by
  have started : (armGate (armLine (armDefrost (s.setMode .running)))).paramInv :=
    armDefrost_paramInv (s := s.setMode .running) h
  unfold armEffect armIce
  dsimp only
  split
  · exact (leaveOff_frame _).paramInv ((setIce_frame _ _).paramInv started)
  · exact (setIce_frame _ _).paramInv started

theorem restore_paramInv {args : List Byte} {s : State} (h : s.paramInv) : (restore args s).1.paramInv := by
  unfold restore
  split
  · exact h
  · obtain ⟨range, order, thr, -⟩ := h
    exact ⟨range, order, clampNat_within (thr.1.trans thr.2) _, Nat.min_le_left _ _⟩

/-! ### A Table Write -/

theorem bringThrIntoRange_paramInv {s : State} (range : s.tables.inRange) (order : s.tables.ordered)
    (estimate : s.defrost.estimate ≤ Config.frostMax) : (bringThrIntoRange s).paramInv :=
  ⟨range, order, clampNat_within (order.1.1.trans order.1.2) _, estimate⟩

theorem paramInv_owners {table start n : Nat} (h7 : table ≠ 7) {s : State} (h : s.paramInv) :
    (ownersAct table start n s).paramInv :=
  ownersAct_keeps (P := State.paramInv) (fun _ _ _ k => k) (fun _ _ j => j.frame.paramInv) h7 h

theorem storeParams_paramInv {table start : Nat} {entries : List (List Byte)} {s : State} (h6 : 6 ≤ table)
    (h9 : table ≤ 9) (inside : start + entries.length ≤ tableEntries table) (h : s.paramInv) :
    (storeParams table start entries s).1.paramInv := by
  obtain ⟨range, order, thr, estimate⟩ := h
  generalize hr : ((indexedFrom start entries).map fun ie => paramOfBytes table ie.1 ie.2) = raws
  have len : raws.length = entries.length := by rw [← hr]; simp [indexedFrom]
  rw [← len] at inside
  have range' := written_inRange h6 h9 inside range
  have order' := written_ordered h6 h9 inside range order
  have frame := (clampInto_frame table start raws s.tables).trans (orderTables_frame table start raws.length _)
  unfold storeParams
  rw [hr, ← len]
  by_cases h7 : table = 7
  · subst h7
    dsimp only
    rw [ownersAct_seven]
    split
    · exact bringThrIntoRange_paramInv range' order' estimate
    · next c =>
      refine ⟨range', order', ?_, estimate⟩
      rw [Bool.not_eq_true] at c
      have same (j : Nat) (hj : 1 ≤ j) (hj2 : j ≤ 2) :
          (orderTables 7 start raws.length (clampInto 7 start raws s.tables)).param 7 j = s.tables.param 7 j := by
        have bound : j < tableEntries 7 := hj2.trans_lt (by decide)
        rw [orderTables_param h6 h9 _ _ _ bound (relayhigh_pos (clampInto_inRange h6 h9 inside range)), orderedValue]
        simp only [c]
        rw [if_neg (by simp), if_neg (by simp), if_neg (by simp), if_neg (by omega)]
        exact clampInto_uncovered h6 h9 inside c (Nat.zero_le j) hj2 bound
      have low : _ = _ := Int.ofNat.inj (same 1 (by decide) (by decide))
      have high : _ = _ := Int.ofNat.inj (same 2 (by decide) (by decide))
      show _ ≤ s.defrost.thr ∧ s.defrost.thr ≤ _
      rw [State.setTables_tables, low, high]
      exact thr
  · refine paramInv_owners h7 ⟨range', order', ?_, estimate⟩
    rw [State.setTables_tables, frame.defrost h7]
    exact thr

/-- The tables 1 to 5 hold no parameter. -/
theorem setTables_paramInv {s : State} {t : Tables} (h : s.paramInv) (general : t.general = s.tables.general)
    (defrost : t.defrost = s.tables.defrost) (ice : t.ice = s.tables.ice) (water : t.water = s.tables.water) :
    (s.setTables t).paramInv := by
  obtain ⟨range, order, thr, estimate⟩ := h
  have same : t.param = s.tables.param := by
    unfold Tables.param
    rw [general, defrost, ice, water]
  refine ⟨?_, ?_, ?_, estimate⟩
  · show ∀ table i, _ → _ → _ → paramClamp table i (t.param table i) = t.param table i
    rw [same]
    exact range
  · rw [State.setTables_tables, ordered_iff, same, ← ordered_iff]
    exact order
  · rw [State.setTables_tables, defrost]
    exact thr

theorem storeEntries_paramInv {table start count : Nat} {entries : List (List Byte)} {s s1 : State}
    (inside : start + entries.length ≤ tableEntries table) (stored : storeEntries table start entries s = some (s1, count))
    (h : s.paramInv) : s1.paramInv := by
  unfold storeEntries at stored
  split at stored
  · simp only [storeRoute, Option.map_eq_some_iff, Prod.mk.injEq] at stored
    obtain ⟨es, -, rfl, -⟩ := stored
    exact setTables_paramInv h rfl rfl rfl rfl
  · obtain rfl : _ = s1 := congrArg Prod.fst (Option.some.inj stored)
    exact setTables_paramInv h rfl rfl rfl rfl
  · obtain rfl : _ = s1 := congrArg Prod.fst (Option.some.inj stored)
    exact setTables_paramInv h rfl rfl rfl rfl
  · simp only [storeChanMap, Option.map_eq_some_iff, Prod.mk.injEq] at stored
    obtain ⟨raws, -, rfl, -⟩ := stored
    obtain ⟨m, c, e⟩ := storeChanMap_leaves (indexedFrom start raws) s
    rw [e]
    exact setTables_paramInv h rfl rfl rfl rfl
  · obtain rfl : _ = s1 := congrArg Prod.fst (Option.some.inj stored)
    exact setTables_paramInv h rfl rfl rfl rfl
  · obtain rfl : _ = s1 := congrArg Prod.fst (Option.some.inj stored)
    next not1 not2 not3 not4 not5 =>
    rw [imp_false] at not1 not2 not3 not4 not5
    by_cases known : 6 ≤ table ∧ table ≤ 9
    · exact storeParams_paramInv known.1 known.2 inside h
    · obtain ⟨start0, none⟩ : start = 0 ∧ entries = [] := by
        rw [tableEntries_unknown (by omega), Nat.le_zero, Nat.add_eq_zero_iff, List.length_eq_zero_iff] at inside
        exact inside
      subst start0 none
      have same : orderTables table 0 0 s.tables = s.tables := by
        unfold orderTables
        split <;> rfl
      refine paramInv_owners (by omega) ?_
      show (s.setTables (orderTables table 0 0 s.tables)).paramInv
      rw [same]
      exact h

/-- The parameters' invariant through every row. -/
theorem paramInv_keeps : Keeps State.paramInv where
  powerOn a p := by
    show (State.powerOn a).paramInv
    cases a
    · exact ⟨powerOn_inRange 48, by decide, by decide, by decide⟩
    · exact ⟨powerOn_inRange 49, by decide, by decide, by decide⟩
  queue s p h := h
  link s l _ h := h
  restartMark s b h := h
  job s t j := j.frame.paramInv
  second s _ := defrostSecond_paramInv
  forced s _ _ h := setDefrost_paramInv h rfl h.2.2.2
  abandoned s _ := abandonCycle_paramInv
  heatAborted s _ := terminateHeat_paramInv
  recordRead s i h := setDefrost_paramInv h rfl h.2.2.2
  restored args s _ := restore_paramInv
  written payload s h := by
    obtain e | ⟨table, start, entries, s1, count, inside, stored, e⟩ := tableWrite_cases payload s
    · rw [e]; exact h
    · rw [e]; exact storeEntries_paramInv inside stored h
  armed s _ := armEffect_paramInv
  disarmed s _ h := disarmed_paramInv h (stopJobs_tables s) (stopJobs_defrost s)
  restarted s := restartEffect_paramInv

/-- Settles O4: the parameters' invariant is carried through every row. -/
theorem stepKeepsParameters : Obligations.StepKeepsParameters := by
  unfold Obligations.StepKeepsParameters
  intro s t h e
  exact paramInv_keeps.step h e

end Sys2Proof.Machine
end


section
/-! The machine's step, its start, and the bytes of a route entry. -/

namespace Sys2Proof.Machine

/-! ### The step and power-on -/

/-- Settles O1: the queue's front is what the step reads. -/
theorem stepRunsFrontCommand : Obligations.StepRunsFrontCommand := by
  unfold Obligations.StepRunsFrontCommand
  exact step_cons

/-- The door set of power-on: every address but 0, 63 and the own one (R167). -/
theorem powerOn_doorSet (a : Bool) : ∀ n, n < 64 → (State.powerOn a).tables.doorSet.getLsbD n =
    decide (1 ≤ n ∧ n ≤ 62 ∧ n ≠ (State.powerOn a).ownAddress.toNat) := by
  cases a <;> decide

/-- Every channel of power-on is reset, its curve none (R145, R146). -/
theorem powerOn_channel (a : Bool) (c : Chan) :
    (State.powerOn a).tables.chanMap.get c = { sel := .noCurve, below := 0, above := 4095 } ∧
      (State.powerOn a).status c = .notFitted ∧
      (State.powerOn a).temps.get c = { range := .unsettled, total := 0, lowRun := 0, highRun := 0, inRun := 0,
                                        history := [], value := none } := by
  cases c <;> exact ⟨rfl, rfl, rfl⟩

theorem powerOn_drives (a : Bool) : (State.powerOn a).drives = .allOff := by cases a <;> decide

theorem powerOn_attention (a : Bool) : (State.powerOn a).attention = List.replicate 6 false := by cases a <;> decide

/-- Settles O2: every block of power-on is written out; what is said of each address, channel, output and kind is said
of each in turn. -/
theorem powerOnSetsEverything : Obligations.PowerOnSetsEverything := by
  unfold Obligations.PowerOnSetsEverything
  intro a s
  have requests (o : Gated) : (State.powerOn a).gate.reqState o = .noRequest := by cases o <;> rfl
  have kinds (k : ObsKind) : (State.powerOn a).obs.get k =
      { value := 0, st := .never, age := 0, source := .nothing, ageAt := 0 } := by cases k <;> rfl
  refine ⟨(State.powerOn a).setPending s.pending, rfl, rfl, rfl, rfl, ?own, rfl, powerOn_doorSet a, rfl, rfl, rfl, rfl,
    powerOn_channel a, rfl, rfl, rfl, rfl, rfl, rfl, rfl, rfl, rfl, requests, rfl, rfl, rfl, rfl, kinds, rfl, rfl, rfl,
    rfl, rfl, rfl, rfl, rfl, rfl, ?drives, ?attention, rfl⟩
  case own => cases a <;> rfl
  case drives => exact powerOn_drives a
  case attention => exact powerOn_attention a

/-- Settles O3: reset is a power-on, and power-on has each invariant that every step keeps. -/
theorem resetHoldsInvariants : Obligations.ResetHoldsInvariants := by
  unfold Obligations.ResetHoldsInvariants
  exact ⟨paramInv_keeps.powerOn false [], loadInv_keeps.powerOn false [],
    (sizeInv_iff _).mpr (sized_keeps.powerOn false [])⟩

/-! ### A route entry's bytes (R170, R203) -/

/-- The direction a byte spells. -/
def directionOfByte (b : Byte) : Option Port :=
  if b = 0#8 then some .trunk else if b = 1#8 then some .door else none

/-- The address a byte spells; 255 is any. -/
def addressOfByte (b : Byte) : Option (Option Byte) :=
  if b = 0xFF#8 then some none else if b.toNat ≤ 63 then some (some b) else none

/-- The kind a code spells; 0 is none. -/
def kindOfCode (n : Nat) : Option (Option ObsKind) :=
  if n = 0 then some none else (ObsKind.ofCode n).map some

theorem directionOfByte_eq_some {b : Byte} {d : Port} :
    directionOfByte b = some d ↔ (b = 0 ∧ d = .trunk) ∨ (b = 1 ∧ d = .door) := by
  unfold directionOfByte
  split
  · next h => subst h; simp [eq_comm]
  · next h => split
              · next k => subst k; simp [eq_comm]
              · next k => simp [h, k]

theorem addressOfByte_eq_some {b : Byte} {a : Option Byte} :
    addressOfByte b = some a ↔ (b = 0xFF ∧ a = none) ∨ (b.toNat ≤ 63 ∧ a = some b) := by
  unfold addressOfByte
  split
  · next h => subst h; simp [eq_comm]
  · next h => split
              · next k => simp [h, k, eq_comm]
              · next k => simp [h, k]

theorem RouteAction.ofCode_eq_some {n : Nat} {a : RouteAction} : RouteAction.ofCode n = some a ↔
    (n = 0 ∧ a = .noteOnly) ∨ (n = 1 ∧ a = .forward) ∨ (n = 2 ∧ a = .discard) := by
  unfold RouteAction.ofCode
  split <;> simp_all [eq_comm]

theorem kindOfCode_eq_some {n : Nat} {k : Option ObsKind} : kindOfCode n = some k ↔
    (n = 0 ∧ k = none) ∨ (n = 1 ∧ k = some .fzdoor) ∨ (n = 2 ∧ k = some .ffdoor) ∨ (n = 3 ∧ k = some .compressor) ∨
      (n = 4 ∧ k = some .select) ∨ (n = 5 ∧ k = some .measure) ∨ (n = 6 ∧ k = some .lock) ∨
      (n = 7 ∧ k = some .fastice) := by
  unfold kindOfCode
  split
  · next h => subst h; simp [eq_comm]
  · unfold ObsKind.ofCode
    split <;> simp_all [eq_comm]

/-- Decoding a route entry is decoding its four coded fields, and R170's two comparisons. -/
theorem RouteEntry.ofBytes_eight (b0 b1 b2 b3 b4 b5 b6 b7 : Byte) :
    RouteEntry.ofBytes [b0, b1, b2, b3, b4, b5, b6, b7] =
      (directionOfByte b1).bind fun dir => (addressOfByte b2).bind fun addr =>
        (RouteAction.ofCode (b5.toNat / 16)).bind fun action => (kindOfCode (b5.toNat % 16)).bind fun kind =>
          if b3.toNat ≤ b4.toNat && b6.toNat ≤ 23 then
            some { valid := b0.getLsbD 0, invert := b0.getLsbD 1, direction := dir, address := addr,
                   kindLow := b3, kindHigh := b4, action := action, kind := kind,
                   offset := b6.toNat, mask := b7 }
          else none := by
  show (match directionOfByte b1, addressOfByte b2, RouteAction.ofCode (b5.toNat / 16),
    kindOfCode (b5.toNat % 16) with
    | some dir, some addr, some action, some kind => _
    | _, _, _, _ => _) = _
  cases directionOfByte b1 <;> cases addressOfByte b2 <;> cases RouteAction.ofCode (b5.toNat / 16) <;>
    cases kindOfCode (b5.toNat % 16) <;> rfl

theorem RouteEntry.ofBytes_eq_some (b0 b1 b2 b3 b4 b5 b6 b7 : Byte) (e : RouteEntry) :
    RouteEntry.ofBytes [b0, b1, b2, b3, b4, b5, b6, b7] = some e ↔
      e.valid = b0.getLsbD 0 ∧ e.invert = b0.getLsbD 1 ∧ directionOfByte b1 = some e.direction ∧
        addressOfByte b2 = some e.address ∧ e.kindLow = b3 ∧ e.kindHigh = b4 ∧ b3.toNat ≤ b4.toNat ∧
        RouteAction.ofCode (b5.toNat / 16) = some e.action ∧ kindOfCode (b5.toNat % 16) = some e.kind ∧
        e.offset = b6.toNat ∧ b6.toNat ≤ 23 ∧ e.mask = b7 := by
  rw [ofBytes_eight]
  simp only [Option.bind_eq_some_iff, Option.ite_none_right_eq_some, Bool.and_eq_true, decide_eq_true_eq,
    Option.some.injEq]
  constructor
  · rintro ⟨dir, hdir, addr, haddr, action, haction, kind, hkind, ⟨order, short⟩, rfl⟩
    exact ⟨rfl, rfl, hdir, haddr, rfl, rfl, order, haction, hkind, rfl, short, rfl⟩
  · rintro ⟨valid, invert, dir, addr, low, high, order, action, kind, offset, short, mask⟩
    refine ⟨_, dir, _, addr, _, action, _, kind, ⟨order, short⟩, ?_⟩
    rw [← valid, ← invert, ← low, ← high, ← offset, ← mask]

/-- The code of a kind; none has 0. -/
def kindNumber : Option ObsKind → Nat
  | none => 0
  | some k => k.code

/-- The byte of the action and the kind: the action's code above, the kind's below (R203). -/
theorem actionByte_codes (a : RouteAction) (k : Option ObsKind) (code : Byte)
    (h : code = byteOf (a.code * 16 + kindNumber k)) :
    RouteAction.ofCode (code.toNat / 16) = some a ∧ kindOfCode (code.toNat % 16) = some k := by
  subst h
  cases a <;> rcases k with _ | k <;> first | exact ⟨rfl, rfl⟩ | (cases k <;> exact ⟨rfl, rfl⟩)

theorem RouteEntry.ofBytes_toBytes (e : RouteEntry) (address : ∀ a, e.address = some a → a.toNat ≤ 63)
    (order : e.kindLow.toNat ≤ e.kindHigh.toNat) (short : e.offset ≤ 23) : RouteEntry.ofBytes e.toBytes = some e := by
  have offset : (byteOf e.offset).toNat = e.offset := by
    rw [byteOf, BitVec.toNat_ofNat]
    omega
  obtain ⟨action, kind⟩ := actionByte_codes e.action e.kind _ rfl
  refine (RouteEntry.ofBytes_eq_some _ _ _ _ _ _ _ _ e).mpr
    ⟨?_, ?_, ?_, ?_, rfl, rfl, order, action, kind, offset.symm, offset.trans_le short, rfl⟩
  · cases e.valid <;> cases e.invert <;> rfl
  · cases e.valid <;> cases e.invert <;> rfl
  · cases e.direction <;> rfl
  · rw [addressOfByte_eq_some]
    cases h : e.address with
    | none => exact .inl ⟨rfl, rfl⟩
    | some a => exact .inr ⟨address a h, rfl⟩

theorem actionNumber (a : RouteAction) :
    a.code * 16 = if a = .noteOnly then 0 else if a = .forward then 16 else 32 := by cases a <;> rfl

theorem kindNumber_eq (k : Option ObsKind) : kindNumber k =
    if k = none then 0 else if k = some .fzdoor then 1 else if k = some .ffdoor then 2
      else if k = some .compressor then 3 else if k = some .select then 4
      else if k = some .measure then 5 else if k = some .lock then 6 else 7 := by
  rcases k with _ | k
  · rfl
  · cases k <;> rfl

/-- Settles O10: the bytes field by field, and what each field's decoder takes. -/
theorem routeEntryRoundTrip : Obligations.RouteEntryRoundTrip := by
  unfold Obligations.RouteEntryRoundTrip
  refine ⟨RouteEntry.ofBytes_toBytes, fun e => ?_, fun b0 b1 b2 b3 b4 b5 b6 b7 e => ?_⟩
  · have direction : (e.toBytes).getD 1 0 = if e.direction = .trunk then 0 else 1 := by
      unfold RouteEntry.toBytes
      cases e.direction <;> rfl
    rw [← direction, ← actionNumber, ← kindNumber_eq]
    rfl
  · rw [RouteEntry.ofBytes_eq_some, directionOfByte_eq_some, addressOfByte_eq_some, RouteAction.ofCode_eq_some,
      kindOfCode_eq_some]

end Sys2Proof.Machine
end


section
/-! Requests that are heard, by what the handler does with them, and the commands that only read. -/

namespace Sys2Proof.Machine

/-! ### A request heard and answered -/

section
variable {s : State} {dt : Nat} {kind : Byte} {payload : List Byte} (h : s.hears) (hr : s.restartPending = false)
  (hk : kind ≠ 0x7F#8) (hp : payload.length ≤ Config.maxPayload)
include h hr hk hp

/-- A request carried out, whatever its command changes but the link, the clock and the own address. -/
theorem requestArrives_answered {r : CommandResult}
    (run : runCommand kind payload (s.atCommand dt) = answer kind r) (hl : r.1.link = (s.atCommand dt).link)
    (hn : r.1.now = s.now + dt) (ho : r.1.ownAddress = s.ownAddress) :
    requestArrives dt kind payload s = r.1.setLink (s.repliedLink dt (replyKind kind) r.2) := by
  rw [requestArrives_run s dt kind payload h hk hp hr, run, answer_heard s dt kind r h hl hn ho]

/-- A request that only replies. -/
theorem requestArrives_replied {data : List Byte}
    (run : runCommand kind payload (s.atCommand dt) = answer kind (s.atCommand dt, data)) :
    requestArrives dt kind payload s = s.replied dt (replyKind kind) data := by
  rw [requestArrives_run s dt kind payload h hk hp hr, run, answer_unchanged s dt kind data h]

end

/-- Status Read is answered with Restart pending or not (R195). -/
theorem statusRead_replied {s : State} {dt : Nat} {payload data : List Byte} (h : s.hears)
    (hp : payload.length ≤ Config.maxPayload)
    (run : statusRead payload (s.atCommand dt) = (s.atCommand dt, data)) :
    exec (.statusRead dt payload) s = .next (s.replied dt 0x81 data) := by
  show Host.Outcome.next (requestArrives dt 0x01#8 payload s) = _
  rw [requestArrives_heard s dt _ _ h (by decide) hp, handleCommand_acts _ _ _ (actsWhilePending_status payload)]
  show Host.Outcome.next (answer 0x01#8 (statusRead payload (s.atCommand dt))) = _
  rw [run, answer_unchanged s dt _ data h]
  rfl

/-! ### The codes of the status pages (R198, R199, R203) -/

theorem Mode.code_eq (m : Mode) : m.code = if m = .loading then 0 else 1 := by cases m <;> rfl

theorem DefrostState.code_eq (d : DefrostState) : d.code = if d = .accrue then 0 else if d = .due then 1
    else if d = .hold then 2 else if d = .heat then 3 else if d = .drip then 4 else 5 := by cases d <;> rfl

theorem IceState.code_eq (i : IceState) : i.code = if i = .off then 0 else if i = .park then 1
    else if i = .freeze then 3 else if i = .harvestHeat then 4 else if i = .harvestRake then 5
    else if i = .binfull then 6 else if i = .fault then 7 else 2 := by cases i <;> rfl

theorem IceState.subCode_eq (i : IceState) : i.subCode = if i = .fill .lineWait then 1
    else if i = .fill .flowing then 2 else if i = .fill .suspended then 3 else 0 := by
  cases i
  case fill sub => cases sub <;> rfl
  all_goals rfl

theorem DispState.code_eq (d : DispState) : d.code = if d = .idle then 0 else if d = .pour then 1
    else if d = .deliver then 2 else if d = .flaphold then 3 else 4 := by cases d <;> rfl

theorem LineState.code_eq (l : LineState) : l.code = if l = .idle then 0 else if l = .fill then 2
    else if l = .pour then 3 else 1 := by cases l <;> rfl

theorem RelayFlow.code_eq (f : RelayFlow) : f.code = if f = .flowOpen then 0 else 1 := by cases f <;> rfl

theorem ThrOrigin.code_eq (o : ThrOrigin) :
    o.code = if o = .fromDefault then 0 else if o = .restored then 1 else 2 := by cases o <;> rfl

theorem FilterState.code_eq (f : FilterState) : f.code = if f = .good then 0 else if f = .due then 1 else 2 := by
  cases f <;> rfl

theorem MeasuredState.code_eq (m : MeasuredState) :
    m.code = if m = .inactive then 0 else if m = .active then 1 else 2 := by cases m <;> rfl

theorem IceCause.code_eq (c : IceCause) : c.code = if c = .noCause then 0 else if c = .noflow then 1 else 2 := by
  cases c <;> rfl

theorem ChanStatus.code_eq (c : ChanStatus) : c.code = if c = .notFitted then 0 else if c = .noCurve then 1
    else if c = .settling then 2 else if c = .ok then 3 else if c = .below then 4 else 5 := by cases c <;> rfl

theorem ObsState.code_eq (o : ObsState) : o.code = if o = .never then 0 else if o = .fresh then 1 else 2 := by
  cases o <;> rfl

theorem compressorHold_iff (u : State) :
    u.compressorHold = true ↔ u.defrost.st = .hold ∨ u.defrost.st = .heat ∨ u.defrost.st = .drip := by
  simp [State.compressorHold, or_assoc]

theorem flagByte_eq (b : Bool) : flagByte b = if b then 1 else 0 := rfl

theorem bitsByte_eight : ∀ a b c d e f g h : Bool, bitsByte [a, b, c, d, e, f, g, h] =
    byteOf ((if a then 128 else 0) + (if b then 64 else 0) + (if c then 32 else 0) + (if d then 16 else 0) +
      (if e then 8 else 0) + (if f then 4 else 0) + (if g then 2 else 0) + (if h then 1 else 0)) := by decide

/-! ### Attention (R200) -/

theorem topAttention_six : ∀ w c i r f k : Bool, byteOf (topAttention 1 [w, c, i, r, f, k]) =
    if w then 1 else if c then 2 else if i then 3 else if r then 4 else if f then 5 else if k then 6 else 0 := by decide

theorem attentionSet_six : ∀ w c i r f k : Bool, byteOf (attentionSet [w, c, i, r, f, k]) =
    byteOf ((if w then 1 else 0) + (if c then 2 else 0) + (if i then 4 else 0) + (if r then 8 else 0) +
      (if f then 16 else 0) + (if k then 32 else 0)) := by decide

theorem waterPending_iff (u : State) : u.waterPending = true ↔ u.line.leak = true ∨ u.line.nosupply = true := by
  simp [State.waterPending]

theorem sensorPending_iff (u : State) :
    u.sensorPending = true ↔ ∃ ch, u.status ch = .below ∨ u.status ch = .above := by
  simp only [State.sensorPending, List.any_eq_true, Bool.or_eq_true, decide_eq_true_eq]
  exact ⟨fun ⟨ch, _, hc⟩ => ⟨ch, hc⟩, fun ⟨ch, hc⟩ => ⟨ch, by cases ch <;> decide, hc⟩⟩

theorem recordPending_iff (u : State) : u.recordPending = true ↔ ∃ x ∈ u.defrost.ring, x.unread = true := by
  simp [State.recordPending]

theorem counterPending_iff (u : State) :
    u.counterPending = true ↔ ∃ n ∈ u.link.trunkCount.values ++ u.link.doorCount.values, 32768 ≤ n := by
  simp [State.counterPending, or_and_right, exists_or]

/-! ### The pages -/

/-- Page 0, field by field. -/
theorem page0_fields (u : State) : pageBytes u 0 = some
    [u.mode.code, byteOf (topAttention 1 u.attention), byteOf (attentionSet u.attention), u.defrost.st.code,
      flagByte u.compressorHold, u.ice.st.code, u.ice.st.subCode, u.disp.st.code, u.line.st.code, u.link.flow.code,
      bitsByte [u.drives.dh, u.drives.th, u.drives.ft, u.drives.hm, u.drives.ef, u.drives.iv, u.drives.wv, u.drives.am],
      bitsByte [u.drives.ad, u.drives.df, u.drives.em, false, false, false, false, false],
      u.line.waterCause, u.gate.hm.code] := rfl

theorem newestSeq_eq (d : Defrost) : d.newestSeq = (d.ring.head?.map fun x => x.seq).getD 0 := by
  unfold Defrost.newestSeq
  cases d.ring <;> rfl

theorem pageBytes_length (u : State) {n : Nat} (h : n ≤ 4) :
    ∃ bs, pageBytes u n = some bs ∧ bs.length + 2 = [16, 14, 19, 20, 21].getD n 0 := by
  interval_cases n <;> exact ⟨_, rfl, rfl⟩

theorem pageBytes_none (u : State) {n : Nat} (h : 4 < n) : pageBytes u n = none := by
  obtain ⟨m, rfl⟩ := Nat.exists_eq_add_of_lt h
  rw [show 4 + m + 1 = m + 5 by omega]
  rfl

theorem statusRead_some {u : State} {p : Byte} {bs : List Byte} (h : pageBytes u p.toNat = some bs) :
    statusRead [p] u = (u, 0 :: p :: bs) := by
  dsimp only [statusRead]
  rw [h]
  rfl

theorem statusRead_none {u : State} {p : Byte} (h : pageBytes u p.toNat = none) : statusRead [p] u = (u, [4]) := by
  dsimp only [statusRead]
  rw [h]
  rfl

/-! ### Status Read -/

theorem statusPage0 (u : State) (w c i r f k : Bool) (h : Byte)
    (hw : w = true ↔ u.line.leak = true ∨ u.line.nosupply = true)
    (hc : c = true ↔ ∃ ch, u.status ch = .below ∨ u.status ch = .above) (hi : i = true ↔ u.ice.st = .fault)
    (hr : r = true ↔ ∃ x ∈ u.defrost.ring, x.unread = true) (hf : f = true ↔ u.line.filterState ≠ .good)
    (hk : k = true ↔ ∃ n ∈ u.link.trunkCount.values ++ u.link.doorCount.values, 32768 ≤ n)
    (hm : h = u.gate.hm.code) : pageBytes u 0 = some
      [ if u.mode = .loading then 0 else 1,
        if w then 1 else if c then 2 else if i then 3 else if r then 4 else if f then 5 else if k then 6 else 0,
        byteOf ((if w then 1 else 0) + (if c then 2 else 0) + (if i then 4 else 0) + (if r then 8 else 0) +
          (if f then 16 else 0) + (if k then 32 else 0)),
        if u.defrost.st = .accrue then 0 else if u.defrost.st = .due then 1 else if u.defrost.st = .hold then 2
        else if u.defrost.st = .heat then 3 else if u.defrost.st = .drip then 4 else 5,
        if u.defrost.st = .hold ∨ u.defrost.st = .heat ∨ u.defrost.st = .drip then 1 else 0,
        if u.ice.st = .off then 0 else if u.ice.st = .park then 1 else if u.ice.st = .freeze then 3
        else if u.ice.st = .harvestHeat then 4 else if u.ice.st = .harvestRake then 5
        else if u.ice.st = .binfull then 6 else if u.ice.st = .fault then 7 else 2,
        if u.ice.st = .fill .lineWait then 1 else if u.ice.st = .fill .flowing then 2
        else if u.ice.st = .fill .suspended then 3 else 0,
        if u.disp.st = .idle then 0 else if u.disp.st = .pour then 1 else if u.disp.st = .deliver then 2
        else if u.disp.st = .flaphold then 3 else 4,
        if u.line.st = .idle then 0 else if u.line.st = .fill then 2 else if u.line.st = .pour then 3 else 1,
        if u.link.flow = .flowOpen then 0 else 1,
        byteOf ((if u.drives.dh then 128 else 0) + (if u.drives.th then 64 else 0) + (if u.drives.ft then 32 else 0) +
          (if u.drives.hm then 16 else 0) + (if u.drives.ef then 8 else 0) + (if u.drives.iv then 4 else 0) +
          (if u.drives.wv then 2 else 0) + (if u.drives.am then 1 else 0)),
        byteOf ((if u.drives.ad then 128 else 0) + (if u.drives.df then 64 else 0) + (if u.drives.em then 32 else 0)),
        byteOf ((if u.line.leak then 1 else 0) + (if u.line.nosupply then 2 else 0)), h ] := by
  have attention : u.attention = [w, c, i, r, f, k] := by
    have e1 : u.waterPending = w := Bool.eq_iff_iff.mpr ((waterPending_iff u).trans hw.symm)
    have e2 : u.sensorPending = c := Bool.eq_iff_iff.mpr ((sensorPending_iff u).trans hc.symm)
    have e3 : u.iceFaultPending = i := Bool.eq_iff_iff.mpr (decide_eq_true_iff.trans hi.symm)
    have e4 : u.recordPending = r := Bool.eq_iff_iff.mpr ((recordPending_iff u).trans hr.symm)
    have e5 : u.filterPending = f := Bool.eq_iff_iff.mpr (decide_eq_true_iff.trans hf.symm)
    have e6 : u.counterPending = k := Bool.eq_iff_iff.mpr ((counterPending_iff u).trans hk.symm)
    rw [← e1, ← e2, ← e3, ← e4, ← e5, ← e6]
    rfl
  rw [page0_fields, attention, topAttention_six, attentionSet_six, bitsByte_eight, bitsByte_eight, Mode.code_eq,
    DefrostState.code_eq, flagByte_eq, IceState.code_eq, IceState.subCode_eq, DispState.code_eq, LineState.code_eq,
    RelayFlow.code_eq, hm]
  simp only [compressorHold_iff]
  rfl

theorem statusPage2 (u : State) : pageBytes u 2 = some (bytes3 u.defrost.estimate ++ bytes3 u.defrost.thr ++
    [if u.defrost.origin = .fromDefault then 0 else if u.defrost.origin = .restored then 1 else 2] ++
    bytes2 (min 65535 (u.defrost.capElapsed / 60)) ++ bytes2 u.defrost.stateTime ++
    bytes2 (min 65535 u.defrost.heaterOn) ++ bytes2 u.defrost.timeInDue ++
    [byteOf (u.defrost.ring.filter (fun x => x.unread)).length,
     byteOf ((u.defrost.ring.head?.map (fun x => x.seq)).getD 0)]) := by
  rw [← newestSeq_eq, ← ThrOrigin.code_eq]
  rfl

theorem chilled_code (u : State) (chilled : Byte) (unknown : u.usable .tank = none → chilled = 0)
    (known : ∀ temp, u.usable .tank = some temp → chilled = if temp ≤ u.tables.water.chilltemp then 1 else 2) :
    u.chilled.code = chilled := by
  unfold State.chilled
  cases h : u.usable .tank with
  | none => exact (unknown h).symm
  | some temp =>
    rw [known temp h]
    dsimp only
    split <;> rfl

theorem ObsSource.code_eq {o : ObsSource} {b : Byte} (nothing : o = .nothing → b = 255)
    (route : ∀ j, o = .route j → b = byteOf j) (direct : o = .direct → b = 254) : o.code = b := by
  cases o with
  | nothing => exact (nothing rfl).symm
  | route j => exact (route j rfl).symm
  | direct => exact (direct rfl).symm

theorem pouredNow_eq (u : State) : u.pouredNow = (if u.disp.measured ≠ .inactive ∧ u.line.flowk = 0 ∧ u.line.st = .pour
    then u.disp.pouredBase + u.pourVolume else u.disp.poured) := by
  simp [State.pouredNow, and_assoc]

theorem driveLines (u : State) :
    (u.drives.dh = true ↔ u.gate.granted.dh = true ∧ u.gate.hm = .hmClosed) ∧
    (u.drives.th = true ↔ u.gate.granted.th = true ∧ u.gate.hm = .hmClosed) ∧
    (u.drives.ft = true ↔ u.gate.granted.ft = true ∧ u.gate.hm = .hmClosed) ∧
    (u.drives.hm = true ↔ u.gate.hm ≠ .hmOpen) ∧
    (u.drives.ef = true ↔ u.mode = .running ∧ (u.defrost.st = .accrue ∨ u.defrost.st = .due) ∧
      ¬(u.obs.fzdoor.st = .fresh ∧ u.obs.fzdoor.value ≠ 0) ∧
      (u.obs.compressor.st ≠ .fresh ∨ u.obs.compressor.value ≠ 0 ∨
        (u.ice.st = .freeze ∧ u.obs.fastice.st = .fresh ∧ u.obs.fastice.value ≠ 0))) ∧
    (u.drives.iv = true ↔ u.line.st = .fill) ∧ (u.drives.wv = true ↔ u.line.st = .pour) ∧
    u.drives.am = u.gate.granted.am ∧ u.drives.em = u.gate.granted.em ∧ u.drives.df = u.disp.flap ∧
    (u.drives.ad = true ↔ u.disp.adReverse = true ∧ u.mode = .running) := by
  simp [State.drives, Gate.heaterOn, GrantSet.get, State.fanOn, State.doorReadsOpen, State.fastIceOn,
    ObsEntry.readsOpen, ObsEntry.readsRunning, imp_iff_not_or, and_assoc, or_assoc]

theorem stateBits_eq (t : ObsTable) (code : ObsKind → Nat) (h : ∀ k, (t.get k).st.code = code k) :
    t.stateBits = code .fzdoor * 4096 + code .ffdoor * 1024 + code .compressor * 256 + code .select * 64 +
        code .measure * 16 + code .lock * 4 + code .fastice := by
  simp only [ObsTable.stateBits, ObsKind.all, List.foldl, h]
  omega

theorem flagBits_eq (t : ObsTable) (bit : ObsKind → Nat) (h : ∀ k, bit k = if (t.get k).value = 0 then 0 else 1) :
    t.flagBits = bit .fzdoor + bit .ffdoor * 2 + bit .compressor * 4 + bit .lock * 8 + bit .fastice * 16 +
      t.select.value * 32 := by
  have weigh (k : ObsKind) (w : Nat) : (if (t.get k).value = 0 then 0 else w) = bit k * w := by
    rw [h]
    split <;> simp
  unfold ObsTable.flagBits
  rw [← weigh .ffdoor, ← weigh .compressor, ← weigh .lock, ← weigh .fastice, ← Nat.mul_one (bit .fzdoor), ← weigh .fzdoor]
  rfl

/-- Settles O11: the reply is the page of the state as it stands, and each page is read off field by field. -/
theorem statusReadAnswers : Obligations.StatusReadAnswers := by
  unfold Obligations.StatusReadAnswers
  refine ⟨fun s dt h => ⟨fun p hp => ?_, fun p hp => ?_⟩, ?page0, ?drives, ?volumes, ?page1, statusPage2, ?page3, ?page4⟩
  · obtain ⟨bs, page, length⟩ := pageBytes_length (s.atCommand dt) hp
    exact ⟨bs, page, length, statusRead_replied h (by simp [Config.maxPayload]) (statusRead_some page)⟩
  · exact statusRead_replied h (by simp [Config.maxPayload]) (statusRead_none (pageBytes_none _ hp))
  case page0 =>
    intro u w c i r f k h hw hc hi hr hf hk hopen hclosing hclosed hholding
    refine statusPage0 u w c i r f k h hw hc hi hr hf hk ?_
    cases hm : u.gate.hm with
    | hmOpen => exact hopen hm
    | hmClosing m => exact hclosing m hm
    | hmClosed => exact hclosed hm
    | hmHolding m => exact hholding m hm
  case drives =>
    intro u
    obtain ⟨dh, th, ft, hm, ef, iv, wv, am, em, df, ad⟩ := driveLines u
    exact ⟨dh, th, ft, hm, ef, iv, wv, am, em, df, ad, compressorHold_iff u⟩
  case volumes => exact fun u => ⟨rfl, rfl, pouredNow_eq u⟩
  case page1 =>
    intro u
    simp only [← ChanStatus.code_eq]
    rfl
  case page3 =>
    intro u chilled unknown known
    rw [← chilled_code u chilled unknown known, ← FilterState.code_eq, ← MeasuredState.code_eq, ← IceCause.code_eq]
    rfl
  case page4 =>
    intro u code bit source hcode hbit nothing route direct
    rw [← stateBits_eq u.obs code (fun k => (ObsState.code_eq _).trans (hcode k).symm),
      ← flagBits_eq u.obs bit hbit,
      ← (funext fun k => ObsSource.code_eq (nothing k) (route k) (direct k) : (fun k => (u.obs.get k).source.code) = source)]
    rfl

/-! ### Counter Read -/

/-- A counter read that asks for no clearing, and one that does (R180, R191). -/
theorem counterRead_eq {port clear : Byte} (hp : port.toNat ≤ 1) (hc : clear.toNat ≤ 1) (u : State) :
    counterRead [port, clear] u =
      done (port :: (u.link.counterValues (if port = 0#8 then .trunk else .door)).flatMap bytes2)
        (if clear = 1#8 then u.setLink (u.link.clearCounters (if port = 0#8 then .trunk else .door)) else u) :=
  if_neg (by omega)

theorem counterRead_refused {port clear : Byte} (h : 1 < port.toNat ∨ 1 < clear.toNat) (u : State) :
    counterRead [port, clear] u = (u, [4]) := if_pos h

/-- The clearing comes after the reply is formed, and leaves the reply waiting (R180). -/
theorem answer_cleared {s : State} {dt : Nat} (h : s.hears) (p : Port) (data : List Byte) :
    answer 0x06#8 (done data ((s.atCommand dt).setLink ((s.atCommand dt).link.clearCounters p))) =
      (s.replied dt 0x86 (0 :: data)).setLink ((s.repliedLink dt 0x86 (0 :: data)).clearCounters p) := by
  obtain ⟨-, -, room⟩ := h
  cases p <;> rw [answer_noisy _ _ rfl room] <;> rfl

/-- Settles O14: the reply spells the counters as they stood, and clearing touches that port's counters alone. -/
theorem counterReadAnswers : Obligations.CounterReadAnswers := by
  unfold Obligations.CounterReadAnswers
  rintro s dt c d trunk door h hr rfl rfl rfl rfl
  have short (port clear : Byte) : [port, clear].length ≤ Config.maxPayload := by simp [Config.maxPayload]
  have cleared (port : Byte) (hp : port.toNat ≤ 1) :
      requestArrives dt 0x06#8 [port, 1] s = answer 0x06#8 (counterRead [port, 1] (s.atCommand dt)) :=
    requestArrives_run s dt _ _ h (by decide) (short _ _) hr
  refine ⟨congrArg Host.Outcome.next ?_, congrArg Host.Outcome.next ?_, congrArg Host.Outcome.next ?_,
    congrArg Host.Outcome.next ?_, fun port clear bad => congrArg Host.Outcome.next ?_⟩
  · exact requestArrives_replied h hr (by decide) (short _ _) (congrArg (answer _) (counterRead_eq (by decide) (by decide) _))
  · exact requestArrives_replied h hr (by decide) (short _ _) (congrArg (answer _) (counterRead_eq (by decide) (by decide) _))
  · exact (cleared 0 (by decide)).trans
      ((congrArg (answer _) (counterRead_eq (by decide) (by decide) _)).trans (answer_cleared h .trunk _))
  · exact (cleared 1 (by decide)).trans
      ((congrArg (answer _) (counterRead_eq (by decide) (by decide) _)).trans (answer_cleared h .door _))
  · exact requestArrives_replied h hr (by decide) (short _ _) (congrArg (answer _) (counterRead_refused bad _))

end Sys2Proof.Machine
end


section
/-! The other reads, the refusals of a request's length, kind and moment, and Restart's command. -/

namespace Sys2Proof.Machine

/-! ### Table Read (R187, R189) -/

theorem tableEntries_eq_zero_iff (n : Nat) : tableEntries n = 0 ↔ n = 0 ∨ 9 < n := by
  constructor
  · intro h
    by_contra known
    have : 1 ≤ n ∧ n ≤ 9 := by omega
    obtain ⟨low, high⟩ := this
    interval_cases n <;> exact absurd h (by decide)
  · exact tableEntries_unknown

theorem tableRead_badTable {id : Byte} (h : tableEntries id.toNat = 0) (first count : Byte) (u : State) :
    tableRead [id, first, count] u = (u, [2]) := if_pos h

theorem tableRead_badIndex {id first : Byte} (known : tableEntries id.toNat ≠ 0)
    (h : tableEntries id.toNat ≤ first.toNat) (count : Byte) (u : State) :
    tableRead [id, first, count] u = (u, [3]) := (if_neg known).trans (if_pos h)

theorem tableRead_entries {id first : Byte} (h : first.toNat < tableEntries id.toNat) (count : Byte) (u : State) :
    tableRead [id, first, count] u =
      (u, 0 :: ([id, first, byteOf (readCount id.toNat first.toNat count.toNat)] ++
        (List.range' first.toNat (readCount id.toNat first.toNat count.toNat)).flatMap (u.tables.entryAt id.toNat))) :=
  (if_neg (Nat.ne_of_gt (Nat.zero_lt_of_lt h))).trans (if_neg (Nat.not_le.mpr h))

/-! ### The entries' bytes (R187, R203) -/

theorem byteOf_getLsbD (n : Nat) {j : Nat} (h : j < 8) : (byteOf n).getLsbD j = n.testBit j := by
  rw [byteOf, BitVec.getLsbD_ofNat, decide_eq_true h, Bool.true_and]

theorem doorSetBytes_getD (set : BitVec 64) {k : Nat} (h : k < 8) :
    (doorSetBytes set).getD (7 - k) 0 = byteOf (set.toNat / 256 ^ k) := by
  interval_cases k <;> rfl

/-- Eight addresses a byte, the highest first (R187). -/
theorem doorSetBytes_bit (set : BitVec 64) {a : Nat} (h : a < 64) :
    ((doorSetBytes set).getD (7 - a / 8) 0).getLsbD (a % 8) = set.getLsbD a := by
  rw [doorSetBytes_getD set (by omega), byteOf_getLsbD _ (Nat.mod_lt a (by decide)),
    show (256 : Nat) = 2 ^ 8 by rfl, ← Nat.pow_mul, Nat.testBit_div_two_pow, Nat.add_comm, Nat.div_add_mod]
  rfl

theorem getD_of_getElem? {α : Type} {l : List α} {i : Nat} {x : α} (h : l[i]? = some x) (d : α) : l.getD i d = x := by
  rw [List.getD_eq_getElem?_getD, h]
  rfl

theorem CurvePoint.toBytes_eq (p : CurvePoint) : p.toBytes = bytes2 p.count ++ bytes2 (p.temp % 65536).toNat := rfl

theorem entryAt_curveA {t : Tables} {i : Nat} {p : CurvePoint} (h : t.curveA[i]? = some p) :
    t.entryAt 3 i = bytes2 p.count ++ bytes2 (p.temp % 65536).toNat := by
  obtain ⟨inside, -⟩ := List.getElem?_eq_some_iff.mp h
  rw [← CurvePoint.toBytes_eq]
  refine congrArg CurvePoint.toBytes (getD_of_getElem? ?_ _)
  rw [List.getElem?_append_left inside, h]

theorem entryAt_curveB {t : Tables} {i : Nat} {p : CurvePoint} (size : t.curveA.length = 16)
    (h : t.curveB[i]? = some p) : t.entryAt 3 (16 + i) = bytes2 p.count ++ bytes2 (p.temp % 65536).toNat := by
  rw [← CurvePoint.toBytes_eq]
  refine congrArg CurvePoint.toBytes (getD_of_getElem? ?_ _)
  rw [List.getElem?_append_right (by omega), size, Nat.add_sub_cancel_left, h]

theorem CurveSel.codeByte (c : CurveSel) : byteOf c.code = if c = .noCurve then 0 else if c = .curveA then 1 else 2 := by
  cases c <;> rfl

theorem entryAt_chanMap {t : Tables} {i : Nat} {m : ChanMapEntry}
    (h : [t.chanMap.evap, t.chanMap.fzair, t.chanMap.tray, t.chanMap.tank][i]? = some m) :
    t.entryAt 4 i = [if m.sel = .noCurve then 0 else if m.sel = .curveA then 1 else 2] ++
      bytes2 m.below ++ bytes2 m.above := by
  obtain ⟨inside, -⟩ := List.getElem?_eq_some_iff.mp h
  have entry : t.chanMap.get (.ofIndex i) = m := by
    simp only [List.length_cons, List.length_nil] at inside
    interval_cases i <;> exact Option.some.inj h
  rw [← CurveSel.codeByte, ← entry]
  rfl

theorem entryAt_load {t : Tables} {i : Nat} {e : LoadEntry}
    (h : [t.load.dh, t.load.th, t.load.ft, t.load.am, t.load.em][i]? = some e) :
    t.entryAt 5 i = [byteOf e.weight, byteOf e.cls, byteOf e.aging] := by
  obtain ⟨inside, -⟩ := List.getElem?_eq_some_iff.mp h
  have entry : t.load.get (.ofIndex i) = e := by
    simp only [List.length_cons, List.length_nil] at inside
    interval_cases i <;> exact Option.some.inj h
  rw [← entry]
  rfl

/-- A parameter table's entry is its number in three bytes, a signed one in two's complement. -/
theorem paramBytes_eq (v : Int) : paramBytes v = bytes3 (v % 16777216).toNat := rfl

theorem paramBytes_natCast {v : Nat} (h : v < 16777216) : paramBytes v = bytes3 v := by
  have small : ((v : Int) % 16777216).toNat = v := by omega
  rw [paramBytes_eq, small]

theorem entryAt_general {t : Tables} {i v : Nat} (h : [t.general.budget, t.general.hmsettle, t.general.hmhold,
      t.general.doorwindow, t.general.relayhigh, t.general.relaylow, t.general.trunkdefault, t.general.doordefault,
      t.general.staleFzdoor, t.general.staleFfdoor, t.general.staleCompressor, t.general.staleSelect,
      t.general.staleMeasure, t.general.staleLock, t.general.staleFastice][i]? = some v) (hv : v < 16777216) :
    t.entryAt 6 i = bytes3 v := by
  obtain ⟨inside, -⟩ := List.getElem?_eq_some_iff.mp h
  rw [← paramBytes_natCast hv]
  simp only [List.length_cons, List.length_nil] at inside
  interval_cases i <;> exact congrArg (fun n : Nat => paramBytes n) (Option.some.inj h)

theorem entryAt_defrost {t : Tables} {i : Nat} {v : Int} (h : [(t.defrost.thrstart : Int), t.defrost.thrmin,
      t.defrost.thrmax, t.defrost.runw, t.defrost.doorfw, t.defrost.doorrw, t.defrost.targetheat, t.defrost.heatmax,
      t.defrost.termtemp, t.defrost.fixedheat, t.defrost.driptime, t.defrost.fantemp, t.defrost.fanmax,
      t.defrost.compwait, t.defrost.defermax, t.defrost.cap][i]? = some v) :
    t.entryAt 7 i = bytes3 (v % 16777216).toNat := by
  obtain ⟨inside, -⟩ := List.getElem?_eq_some_iff.mp h
  rw [← paramBytes_eq]
  simp only [List.length_cons, List.length_nil] at inside
  interval_cases i <;> exact congrArg paramBytes (Option.some.inj h)

theorem entryAt_ice {t : Tables} {i : Nat} {v : Int} (h : [(t.ice.fillvol : Int), t.ice.fillmax, t.ice.fttrail,
      t.ice.icemaxair, t.ice.harvtemp, t.ice.freezehold, t.ice.freezemax, t.ice.freezefixed, t.ice.releasetemp,
      t.ice.harvheatmax, t.ice.rakeleave, t.ice.rakemax, t.ice.binwait, t.ice.retries,
      t.ice.fillretry][i]? = some v) : t.entryAt 8 i = bytes3 (v % 16777216).toNat := by
  obtain ⟨inside, -⟩ := List.getElem?_eq_some_iff.mp h
  rw [← paramBytes_eq]
  simp only [List.length_cons, List.length_nil] at inside
  interval_cases i <;> exact congrArg paramBytes (Option.some.inj h)

theorem entryAt_water {t : Tables} {i : Nat} {v : Int} (h : [(t.water.flowk : Int), t.water.fillrate, t.water.coast,
      t.water.changeover, t.water.resumedelay, t.water.noflowtime, t.water.leakpulses, t.water.pourmax,
      t.water.augermax, t.water.flaphold, t.water.measurehold, t.water.filtercap, t.water.filterwarn,
      t.water.chilltemp, t.water.pourrate][i]? = some v) : t.entryAt 9 i = bytes3 (v % 16777216).toNat := by
  obtain ⟨inside, -⟩ := List.getElem?_eq_some_iff.mp h
  rw [← paramBytes_eq]
  simp only [List.length_cons, List.length_nil] at inside
  interval_cases i <;> exact congrArg paramBytes (Option.some.inj h)

/-- Settles O12: the two refusals, the entries read, and each table's entries byte by byte. -/
theorem tableReadAnswers : Obligations.TableReadAnswers := by
  unfold Obligations.TableReadAnswers
  have short (id first count : Byte) : [id, first, count].length ≤ Config.maxPayload := by simp [Config.maxPayload]
  refine ⟨fun s dt id first count h hr => ⟨fun unknown => ?badTable, fun low high past => ?badIndex,
    fun n inside hn => ?read⟩, fun t i => ⟨fun e he => congrArg RouteEntry.toBytes (getD_of_getElem? he _), rfl,
    fun a ha => doorSetBytes_bit _ ha, fun p => entryAt_curveA, fun p size => entryAt_curveB size,
    fun m => entryAt_chanMap, fun e => entryAt_load, fun v => entryAt_general, fun v => entryAt_defrost,
    fun v => entryAt_ice, fun v => entryAt_water⟩, rfl, rfl, rfl,
    fun v bs b => ⟨rfl, rfl, rfl, rfl, numberOf_append_singleton bs b⟩⟩
  case badTable =>
    have none : tableEntries id.toNat = 0 := (tableEntries_eq_zero_iff _).mpr (unknown.imp_left (congrArg BitVec.toNat))
    refine congrArg Host.Outcome.next ?_
    exact requestArrives_replied h hr (by decide) (short _ _ _) (congrArg (answer _) (tableRead_badTable none first count _))
  case badIndex =>
    have known : tableEntries id.toNat ≠ 0 := fun z => by have := (tableEntries_eq_zero_iff _).mp z; omega
    refine congrArg Host.Outcome.next ?_
    exact requestArrives_replied h hr (by decide) (short _ _ _) (congrArg (answer _) (tableRead_badIndex known past count _))
  case read =>
    subst hn
    refine congrArg Host.Outcome.next ((requestArrives_replied (kind := 0x03#8) h hr (by decide) (short _ _ _)
      (congrArg (answer _) (tableRead_entries inside count _))).trans ?_)
    rw [List.range'_eq_map_range, List.flatMap_map]
    rfl

/-! ### History Read (R21, R191, R201) -/

theorem historyRead_record {u : State} {i : Byte} (h : i.toNat < u.defrost.ring.length) : historyRead [i] u =
    (u.setDefrost { u.defrost with
      ring := u.defrost.ring.set i.toNat { u.defrost.ring[i.toNat] with unread := false } },
      0 :: u.defrost.ring[i.toNat].bytes) := by
  dsimp only [historyRead]
  rw [List.getElem?_eq_getElem h]
  dsimp only [Defrost.markRead]
  rw [List.modify_eq_set_getElem?, List.getElem?_eq_getElem h]
  rfl

theorem historyRead_none {u : State} {i : Byte} (h : u.defrost.ring.length ≤ i.toNat) :
    historyRead [i] u = (u, [3]) := by
  dsimp only [historyRead]
  rw [List.getElem?_eq_none h]
  rfl

theorem Trigger.code_eq (t : Trigger) : t.code = if t = .estimate then 1 else if t = .cap then 2
    else if t = .forced then 3 else 0 := by cases t <;> rfl

theorem Cause.code_eq (c : Cause) : c.code = if c = .temp then 1 else if c = .time then 2 else if c = .fixed then 3
    else if c = .abort then 4 else 0 := by cases c <;> rfl

/-- Settles O13: the record as it stood, then marked read; past the ring BAD_INDEX. -/
theorem historyReadAnswers : Obligations.HistoryReadAnswers := by
  unfold Obligations.HistoryReadAnswers
  have short (i : Byte) : [i].length ≤ Config.maxPayload := by simp [Config.maxPayload]
  refine ⟨fun s dt i h hr => ⟨fun inside => ?_, fun past => ?_⟩, fun r => ?_⟩
  · refine congrArg Host.Outcome.next ?_
    exact requestArrives_answered (kind := 0x05#8) (dt := dt) h hr (by decide) (short i)
      (congrArg (answer _) (historyRead_record (u := s.atCommand dt) inside)) rfl rfl rfl
  · refine congrArg Host.Outcome.next ?_
    exact requestArrives_replied h hr (by decide) (short i)
      (congrArg (answer _) (historyRead_none (u := s.atCommand dt) past))
  · rw [← Trigger.code_eq, ← Cause.code_eq]
    rfl

/-! ### Unknown kinds and wrong lengths (R184, R185, R190) -/

theorem runCommand_unknown {kind : Byte} (hk : kind = 0#8 ∨ (11 ≤ kind.toNat ∧ kind.toNat ≤ 126))
    (payload : List Byte) (u : State) : runCommand kind payload u = answer kind (u, [8]) := by
  have number : kind.toNat = 0 ∨ (11 ≤ kind.toNat ∧ kind.toNat ≤ 126) := hk.imp_left (congrArg BitVec.toNat)
  have request : ¬(isReplyKind kind = true) := by
    rw [isReplyKind, decide_eq_true_eq]
    omega
  unfold runCommand
  rw [if_neg request]
  split
  case h_11 => rfl
  all_goals omega

theorem ne_unknownFrame {kind : Byte} (hk : kind = 0#8 ∨ (11 ≤ kind.toNat ∧ kind.toNat ≤ 126)) : kind ≠ 0x7F#8 := by
  rintro rfl
  obtain e | ⟨-, high⟩ := hk
  · exact absurd e (by decide)
  · exact absurd high (by decide)

/-- A request to a TRUNK that listens reaches the command handler, room for the reply or not (R165). -/
theorem requestArrives_listening {s : State} {dt : Nat} {kind : Byte} {payload : List Byte}
    (htx : s.link.trunk.tx = .idle) (hrx : s.link.trunk.rx = .waiting) (hk : kind ≠ 0x7F#8)
    (hp : payload.length ≤ Config.maxPayload) :
    requestArrives dt kind payload s = handleCommand kind payload (s.atCommand dt) := by
  have taken : ¬((s.advance dt).link.trunk.tx ≠ .idle ∨ Config.maxPayload < payload.length) := by
    rw [State.advance_link, htx]
    simpa using hp
  have between : ¬(((s.advance dt).charEnded .trunk).link.trunk.rx.inside = true) := by
    show ¬(s.link.trunk.rx.inside = true)
    rw [hrx]
    decide
  unfold requestArrives
  rw [if_neg taken]
  dsimp only
  rw [if_neg between]
  exact (if_neg hk).trans (if_pos rfl)

/-- A reply that finds the uplink queue full is dropped and counted (R179). -/
theorem answer_dropped {kind : Byte} {r : CommandResult} (h : Config.uplinkCapacity ≤ r.1.link.uplink.length) :
    answer kind r = r.1.setLink r.1.link.countDropped := by
  unfold answer
  rw [offerUplink_full _ _ _ _ h]

/-- The job commands without arguments. -/
theorem jobCommand_badLength {code : Byte} (hc : 1 ≤ code.toNat ∧ code.toNat ≤ 7) {args : List Byte} (ha : args ≠ [])
    (u : State) : jobCommand (code :: args) u = (u, [1]) := by
  obtain ⟨low, high⟩ := hc
  unfold jobCommand
  dsimp only
  generalize code.toNat = n at low high
  interval_cases n <;> exact if_neg ha

theorem restore_badLength {args : List Byte} (ha : args.length ≠ 14) (u : State) :
    jobCommand (8#8 :: args) u = (u, [1]) := if_neg ha

theorem jobCommand_unknown {code : Byte} (hc : code = 0#8 ∨ 8 < code.toNat) (args : List Byte) (u : State) :
    jobCommand (code :: args) u = (u, [8]) := by
  have number : code.toNat = 0 ∨ 8 < code.toNat := hc.imp_left (congrArg BitVec.toNat)
  unfold jobCommand
  dsimp only
  split
  iterate 8 omega
  rfl

section
variable {p : List Byte} (u : State)

theorem statusRead_badLength (h : p.length ≠ 1) : statusRead p u = (u, [1]) := by
  unfold statusRead
  split
  · exact absurd rfl h
  · rfl

theorem tableWrite_badLength (h : p.length < 2) : tableWrite p u = (u, [1]) := by
  unfold tableWrite
  split
  · simp at h
  · rfl

theorem tableRead_badLength (h : p.length ≠ 3) : tableRead p u = (u, [1]) := by
  unfold tableRead
  split
  · exact absurd rfl h
  · rfl

theorem historyRead_badLength (h : p.length ≠ 1) : historyRead p u = (u, [1]) := by
  unfold historyRead
  split
  · exact absurd rfl h
  · rfl

theorem counterRead_badLength (h : p.length ≠ 2) : counterRead p u = (u, [1]) := by
  unfold counterRead
  split
  · exact absurd rfl h
  · rfl

theorem observationWrite_badLength (h : p.length ≠ 3) : observationWrite p u = (u, [1]) := by
  unfold observationWrite
  split
  · exact absurd rfl h
  · rfl

end

/-- A whole request whose check arrives at TRUNK is carried out (R162, R165). -/
theorem trunkRequest_completes {s : State} {dt : Nat} {kind : Byte} {p : List Byte} (hk : kind ≠ 0x7F#8)
    (htx : s.link.trunk.tx = .idle) (hrx : s.link.trunk.rx = .atCheck s.ownAddress kind p) :
    exec (.trunkFrameReceived dt (frameCheck s.ownAddress kind p)) s =
      .next (handleCommand kind p ((s.atCommand dt).setRx .trunk .waiting)) := by
  refine (trunkFrameReceived_completes s dt (Frame.build s.ownAddress kind p) htx hrx).trans (congrArg Host.Outcome.next ?_)
  have good : (Frame.build s.ownAddress kind p).good = true := decide_eq_true rfl
  unfold frameComplete
  rw [if_pos good]
  exact (if_neg hk).trans (if_pos rfl)

/-- Settles O16: each way a request cannot be carried out, with the one byte that answers it. -/
theorem unknownCommandAnswered : Obligations.UnknownCommandAnswered := by
  unfold Obligations.UnknownCommandAnswered
  refine ⟨?unknown, ?dropped, ?lengths, ?jobs⟩
  case unknown =>
    intro s dt kind payload h hr hk hp
    exact congrArg Host.Outcome.next (requestArrives_replied h hr (ne_unknownFrame hk) hp (runCommand_unknown hk payload _))
  case dropped =>
    intro s dt kind payload htx hrx full hr hk hp
    refine congrArg Host.Outcome.next ?_
    rw [requestArrives_listening htx hrx (ne_unknownFrame hk) hp, handleCommand_free _ _ (s.atCommand dt) hr,
      runCommand_unknown hk, answer_dropped (r := (s.atCommand dt, [8])) full.ge]
    rfl
  case lengths =>
    intro s dt p h hr hp
    have replied (kind : Byte) (hk : kind ≠ 0x7F#8)
        (run : runCommand kind p (s.atCommand dt) = answer kind (s.atCommand dt, [1])) :
        requestArrives dt kind p s = s.replied dt (replyKind kind) [1] :=
      requestArrives_replied h hr hk hp run
    have job (code : Byte) (hc : p.length ≤ 23)
        (run : jobCommand (code :: p) (s.atCommand dt) = (s.atCommand dt, [1])) :
        requestArrives dt 0x04#8 (code :: p) s = s.replied dt 0x84 [1] :=
      requestArrives_replied (kind := 0x04#8) (payload := code :: p) h hr (by decide) (Nat.succ_le_succ hc) (congrArg (answer _) run)
    refine ⟨fun hl => ?_, fun hl => ?_, fun hl => ?_, fun hl => ?_, fun hl => ?_, fun hl => ⟨?_, ?_, ?_⟩, fun hl => ?_,
      fun c hl short hc => ?_, fun hl short => ?_⟩
    · exact statusRead_replied h hp (statusRead_badLength _ hl)
    · exact congrArg Host.Outcome.next (replied 0x02#8 (by decide) (congrArg (answer _) (tableWrite_badLength _ hl)))
    · exact congrArg Host.Outcome.next (replied 0x03#8 (by decide) (congrArg (answer _) (tableRead_badLength _ hl)))
    · exact congrArg Host.Outcome.next (replied 0x05#8 (by decide) (congrArg (answer _) (historyRead_badLength _ hl)))
    · exact congrArg Host.Outcome.next (replied 0x06#8 (by decide) (congrArg (answer _) (counterRead_badLength _ hl)))
    · exact congrArg Host.Outcome.next (replied 0x07#8 (by decide) (congrArg (answer _) (if_pos (List.ne_nil_of_length_pos (Nat.pos_of_ne_zero hl)))))
    · exact congrArg Host.Outcome.next (replied 0x08#8 (by decide) (congrArg (answer _) (if_pos (List.ne_nil_of_length_pos (Nat.pos_of_ne_zero hl)))))
    · exact congrArg Host.Outcome.next (replied 0x09#8 (by decide) (if_pos (List.ne_nil_of_length_pos (Nat.pos_of_ne_zero hl))))
    · exact congrArg Host.Outcome.next (replied 0x0A#8 (by decide) (congrArg (answer _) (observationWrite_badLength _ hl)))
    · have some : p ≠ [] := List.ne_nil_of_length_pos (Nat.pos_of_ne_zero hl)
      simp only [List.mem_cons, List.not_mem_nil, or_false] at hc
      obtain rfl | rfl | rfl | rfl | rfl | rfl | rfl := hc <;>
        exact congrArg Host.Outcome.next (job _ short (jobCommand_badLength (by decide) some _))
    · exact congrArg Host.Outcome.next (job _ short (restore_badLength hl _))
  case jobs =>
    intro s dt p result htx hrx room hr wrong
    have run : jobCommand p ((s.atCommand dt).setRx .trunk .waiting) =
        ((s.atCommand dt).setRx .trunk .waiting, [result]) := by
      obtain ⟨rfl, rfl⟩ | ⟨code, args, rfl, hc, rfl⟩ := wrong
      · rfl
      · exact jobCommand_unknown hc args _
    rw [trunkRequest_completes (by decide) htx hrx,
      handleCommand_free _ _ ((s.atCommand dt).setRx .trunk .waiting) hr]
    show Host.Outcome.next (answer 0x04#8 (jobCommand p _)) = _
    rw [run, answer_noisy _ _ rfl (Nat.lt_succ_of_le room), ← htx]
    rfl

/-! ### Restart's command (R194, R195) -/

theorem restartCommand_waits {s : State} {dt : Nat} (h : s.hears) : restartCommand 0x09#8 [] (s.atCommand dt) =
    { s with
      now := s.now + dt
      restartPending := true
      link := { s.link with
        trunk := { s.link.trunk with lastChar := some (s.now + dt) }
        uplink := s.link.uplink ++ [{ frame := Frame.build s.ownAddress 0x89 [0], isRestartReply := true }] } } := by
  obtain ⟨-, -, room⟩ := h
  have open' : ¬((s.atCommand dt).link.uplinkFull = true) := by
    rw [Link.uplinkFull, decide_eq_true_eq]
    exact Nat.not_le.mpr room
  unfold restartCommand
  rw [if_neg (by simp)]
  dsimp only
  rw [if_neg open', offerUplink_noisy (s.atCommand dt).now _ _ (s.atCommand dt).link room (quiet_of_justHeard _ _ rfl)]
  rfl

/-- Settles O20: the mark and the reply that waits, and the commands lost while it is set. -/
theorem restartWaitsForReply : Obligations.RestartWaitsForReply := by
  unfold Obligations.RestartWaitsForReply
  intro s dt h
  refine ⟨fun hr => ?waits, fun c payload hr hp hc => ?lost, fun args hr some hp => ?abort, fun kind payload hr hp hk => ?_⟩
  case waits =>
    refine congrArg Host.Outcome.next ((requestArrives_run s dt 0x09#8 [] h (by decide) (Nat.zero_le _) hr).trans ?_)
    exact restartCommand_waits h
  case lost =>
    have command (kind : Byte) (ne7F : kind ≠ 0x7F#8) (ne1 : kind ≠ 1#8) (ne4 : kind ≠ 4#8) :
        requestArrives dt kind payload s = s.atCommand dt :=
      requestArrives_lost s dt kind payload h ne7F (hp.trans (by decide)) hr (actsWhilePending_other _ _ ne1 ne4)
    have job (code : Byte) (ne2 : code ≠ 2#8) : requestArrives dt 0x04#8 (code :: payload) s = s.atCommand dt :=
      requestArrives_lost s dt _ _ h (by decide) (Nat.succ_le_succ hp) hr (by simp [ne2])
    simp only [List.mem_cons, List.not_mem_nil, or_false] at hc
    obtain rfl | rfl | rfl | rfl | rfl | rfl | rfl | rfl | hc := hc
    iterate 8 exact congrArg Host.Outcome.next (command _ (by decide) (by decide) (by decide))
    obtain rfl | rfl | rfl | rfl | rfl | rfl | rfl := hc
    all_goals exact congrArg Host.Outcome.next (job _ (by decide))
  case abort =>
    refine congrArg Host.Outcome.next ((requestArrives_abort_pending s dt args h hp hr).trans ?_)
    rw [jobCommand_badLength (by decide) some, answer_unchanged s dt _ _ h]
    rfl
  · exact congrArg Host.Outcome.next (requestArrives_lost s dt kind payload h (ne_unknownFrame hk) hp hr
      (actsWhilePending_other _ _ (by rintro rfl; revert hk; decide) (by rintro rfl; revert hk; decide)))

end Sys2Proof.Machine
end


section
/-! What a change of the jobs leaves standing around them, and the job commands. -/

namespace Sys2Proof.Machine

/-! ### The parts of the state around the three jobs -/

/-- Everything but the three jobs and the gate's grants, list and HM stands. -/
structure Shell (s t : State) : Prop where
  now : t.now = s.now
  line : t.line = s.line
  link : t.link = s.link
  setup : KeepsSetup s t
  senses : KeepsSenses s t
  load : t.gate.load = s.gate.load
  budget : t.gate.budget = s.gate.budget

theorem Shell.refl (s : State) : Shell s s := ⟨rfl, rfl, rfl, ⟨rfl, rfl, rfl, rfl, rfl⟩, ⟨rfl, rfl, rfl⟩, rfl, rfl⟩

theorem Shell.trans {s t u : State} (h : Shell s t) (k : Shell t u) : Shell s u := by
  obtain ⟨m, r, o, tb, p⟩ := h.setup
  obtain ⟨m', r', o', tb', p'⟩ := k.setup
  obtain ⟨a, b, c⟩ := h.senses
  obtain ⟨a', b', c'⟩ := k.senses
  exact ⟨k.now.trans h.now, k.line.trans h.line, k.link.trans h.link,
    ⟨m'.trans m, r'.trans r, o'.trans o, tb'.trans tb, p'.trans p⟩, ⟨a'.trans a, b'.trans b, c'.trans c⟩,
    k.load.trans h.load, k.budget.trans h.budget⟩

theorem GateFrame.shell {s t : State} (h : GateFrame s t) : Shell s t :=
  ⟨h.now, h.line, h.link, ⟨h.mode, h.restartPending, h.ownAddress, h.tables, h.pending⟩, ⟨h.obs, h.temps, h.inputs⟩,
    h.load, h.budget⟩

theorem setIce_shell (s : State) (x : Ice) : Shell s (s.setIce x) :=
  ⟨rfl, rfl, rfl, ⟨rfl, rfl, rfl, rfl, rfl⟩, ⟨rfl, rfl, rfl⟩, rfl, rfl⟩

theorem setDefrost_shell (s : State) (x : Defrost) : Shell s (s.setDefrost x) :=
  ⟨rfl, rfl, rfl, ⟨rfl, rfl, rfl, rfl, rfl⟩, ⟨rfl, rfl, rfl⟩, rfl, rfl⟩

theorem setDisp_shell (s : State) (x : Disp) : Shell s (s.setDisp x) :=
  ⟨rfl, rfl, rfl, ⟨rfl, rfl, rfl, rfl, rfl⟩, ⟨rfl, rfl, rfl⟩, rfl, rfl⟩

/-! ### Entering a state of the ice maker -/

theorem leaveOff_rakes {s : State} (h : s.inputs.home = false) : leaveOff s = enterRake s := if_pos h

/-- Leaving OFF with the rake home (R90). -/
theorem leaveOff_home {s : State} (h : s.inputs.home = true) : leaveOff s =
    s.setIce (if s.ice.trayLoaded then { s.ice with st := .freeze, belowtime := 0, freezetime := 0 }
      else { s.ice with st := .park }) := by
  unfold leaveOff enterFreeze
  rw [if_neg (by simp [h])]
  split <;> rfl

theorem enterRake_shell (s : State) : Shell s (enterRake s) :=
  (setIce_shell s _).trans (requestOutput_frame .em _).shell

theorem leaveOff_shell (s : State) : Shell s (leaveOff s) := by
  cases home : s.inputs.home
  · rw [leaveOff_rakes home]
    exact enterRake_shell s
  · rw [leaveOff_home home]
    exact setIce_shell s _

theorem enterRake_requests (s : State) : (enterRake s).gate.reqState .em ≠ .noRequest :=
  requestOutput_requested .em _ (.inl (by decide))

@[simp] theorem enterRake_ice_st (s : State) : (enterRake s).ice.st = .harvestRake := by simp [enterRake]

theorem enterOff_shell (s : State) : Shell s (enterOff s) :=
  (setIce_shell s _).trans (giveUpOutput_frame .ft _).shell

/-- OFF, field by field (R92). -/
theorem enterOff_ice (s : State) : (enterOff s).ice = { s.ice with
    st := .off, disablePending := false, retry := 0, binwaitAt := none, resumeAt := none, trailAt := none,
    cause := .noCause } := giveUpOutput_ice .ft _ (by simp)

/-- What an output is given up for is requested no more, where the gate holds it in one place (R121, R126). -/
theorem giveUpOutput_apart {o : Gated} {s : State} (h : s.apart o) : (giveUpOutput o s).gate.reqState o = .noRequest :=
  giveUpOutput_noRequest o s h.1

theorem enterOff_noRequest {s : State} (h : s.apart .ft) : (enterOff s).gate.reqState .ft = .noRequest :=
  giveUpOutput_apart (o := .ft) h

theorem enterOff_disp {s : State} (h : s.noneWaitsBut .ft) : (enterOff s).disp = s.disp := by
  unfold enterOff
  refine And.right (giveUpOutput_alone .ft _ rfl ?_)
  exact h

theorem enterHarvestHeat_shell (s : State) : Shell s (enterHarvestHeat s) :=
  (setIce_shell s _).trans (requestOutput_frame .th _).shell

theorem enterHarvestHeat_ice (s : State) :
    (enterHarvestHeat s).ice = { s.ice with st := .harvestHeat, heatTime := 0, binwaitAt := none } :=
  requestOutput_ice .th _ (by simp)

theorem enterHarvestHeat_requests (s : State) : (enterHarvestHeat s).gate.reqState .th ≠ .noRequest :=
  requestOutput_requested .th _ (.inr (by simp))

/-! ### A job command without arguments -/

section
variable {s : State} {dt : Nat} {code : Byte} {job : State → CommandResult} {u : State} {data : List Byte}

/-- What a job command leaves, and its reply. -/
theorem job_answered (h : s.hears) (hr : s.restartPending = false)
    (hj : jobCommand [code] (s.atCommand dt) = job (s.atCommand dt)) (e : job (s.atCommand dt) = (u, data))
    (hl : u.link = (s.atCommand dt).link) (hn : u.now = s.now + dt) (ho : u.ownAddress = s.ownAddress) :
    requestArrives dt 4#8 [code] s = u.setLink (s.repliedLink dt 0x84 data) := by
  rw [requestArrives_job s dt code job h hr hj, e]
  exact answer_heard s dt 4#8 (u, data) h hl hn ho

/-- The same, where the jobs alone have changed. -/
theorem job_shell (h : s.hears) (hr : s.restartPending = false)
    (hj : jobCommand [code] (s.atCommand dt) = job (s.atCommand dt)) (e : job (s.atCommand dt) = (u, data))
    (shell : Shell (s.atCommand dt) u) : requestArrives dt 4#8 [code] s = u.setLink (s.repliedLink dt 0x84 data) :=
  job_answered h hr hj e shell.link shell.now shell.setup.2.2.1

end

/-! ### DEFROST NOW -/

theorem defrostNow_busy {u : State} (hm : u.mode = .running) (hd : u.defrost.st ≠ .accrue) : defrostNow u = (u, [6]) :=
  (if_neg (by rw [hm]; decide)).trans (if_pos hd)

theorem defrostNow_starts {u : State} (hm : u.mode = .running) (hd : u.defrost.st = .accrue) :
    defrostNow u = (startCycle .forced .hold u, [0]) :=
  (if_neg (by rw [hm]; decide)).trans (if_neg (not_not.mpr hd))

/-- The second that falls together with a DEFROST NOW taken first counts and tests nothing (R7; log 40). -/
theorem defrostSecond_afterNow {s : State} {l : Link} (h : s.defrost.secondAt ≤ s.now) :
    defrostSecond ((startCycle .forced .hold s).setLink l) = { (startCycle .forced .hold s).setLink l with
      defrost := { ((startCycle .forced .hold s).setLink l).defrost with
        secondAt := s.defrost.secondAt + Config.tickSecond
        capElapsed := min 3932100 (s.defrost.capElapsed + 1)
        cycleTime := 1, stateTime := 1 } } := by
  have moment : max s.now s.defrost.secondAt = s.now := Nat.max_eq_left h
  have together : ((startCycle .forced .hold s).setLink l).forcedTogether = true := by
    show (true && true && true && decide (s.now = max s.now s.defrost.secondAt)) = true
    rw [moment]
    simp
  unfold defrostSecond
  rw [if_pos together]
  show (((startCycle .forced .hold s).setLink l).setNow (max s.now s.defrost.secondAt)).setDefrost _ = _
  rw [moment]
  rfl

/-- Settles O22: the two refusals, the cycle's start, and the second that falls together with it. -/
theorem defrostNowForcesCycle : Obligations.DefrostNowForcesCycle := by
  unfold Obligations.DefrostNowForcesCycle
  intro s dt h hr
  have starts (hm : s.mode = .running) (hd : s.defrost.st = .accrue) : exec (.defrostNow dt []) s =
      .next ((startCycle .forced .hold (s.atCommand dt)).setLink (s.repliedLink dt 0x84 [0])) :=
    congrArg Host.Outcome.next
      (job_answered h hr (job := defrostNow) rfl (defrostNow_starts (u := s.atCommand dt) hm hd) rfl rfl rfl)
  refine ⟨fun hm => congrArg Host.Outcome.next ?_, fun hm hd => congrArg Host.Outcome.next ?_,
    fun hm hd => ⟨starts hm hd, fun due => ⟨_, starts hm hd, congrArg Host.Outcome.next ?_⟩⟩⟩
  · exact job_answered h hr (job := defrostNow) rfl (if_pos hm) rfl rfl rfl
  · exact job_answered h hr (job := defrostNow) rfl (defrostNow_busy (u := s.atCommand dt) hm hd) rfl rfl rfl
  · exact (if_pos hm).trans (defrostSecond_afterNow (s := s.atCommand dt) due)

/-! ### DEFROST ABORT -/

/-- A heat that ends with cause ABORT leaves THR (R9, R37). -/
theorem terminateHeat_abort (s : State) : terminateHeat .abort s = giveUpOutput .dh (s.setDefrost { s.defrost with
    st := .drip, stateTime := 0, cause := .abort, thrBefore := s.defrost.thr, thrAfter := s.defrost.thr }) := by
  unfold terminateHeat
  dsimp only [adaptedThr]
  rw [if_pos rfl]

section
variable {u : State} (hm : u.mode = .running)
include hm

theorem defrostAbort_busy (hd : u.defrost.st = .accrue ∨ u.defrost.st = .drip ∨ u.defrost.st = .recover) :
    defrostAbort u = (u, [6]) := by
  unfold defrostAbort
  rw [if_neg (by rw [hm]; decide)]
  obtain hd | hd | hd := hd <;> rw [hd] <;> rfl

theorem defrostAbort_abandons (hd : u.defrost.st = .due ∨ u.defrost.st = .hold ∨
    (u.defrost.st = .heat ∧ u.defrost.heatBegun = false)) : defrostAbort u = (abandonCycle u, [0]) := by
  unfold defrostAbort
  rw [if_neg (by rw [hm]; decide)]
  obtain hd | hd | ⟨hd, begun⟩ := hd
  · rw [hd]; rfl
  · rw [hd]; rfl
  · rw [hd, begun]; rfl

theorem defrostAbort_ends (hd : u.defrost.st = .heat) (begun : u.defrost.heatBegun = true) :
    defrostAbort u = (terminateHeat .abort u, [0]) := by
  unfold defrostAbort
  rw [if_neg (by rw [hm]; decide), hd, begun]
  rfl

end

/-- What giving up DH leaves of a state whose defrost controller has left HEAT. -/
theorem giveUpDh_leaves {s : State} {d : Defrost} (left : d.st ≠ .heat) :
    (giveUpOutput .dh (s.setDefrost d)).defrost = d ∧
      (s.apart .dh → (giveUpOutput .dh (s.setDefrost d)).gate.reqState .dh = .noRequest) ∧
      (s.noneWaitsBut .dh → (giveUpOutput .dh (s.setDefrost d)).ice = s.ice ∧
        (giveUpOutput .dh (s.setDefrost d)).disp = s.disp) ∧ Shell s (giveUpOutput .dh (s.setDefrost d)) :=
  ⟨giveUpOutput_defrost .dh _ (.inl left), fun a => giveUpOutput_apart (o := .dh) (s := s.setDefrost d) a,
    fun n => giveUpOutput_alone .dh (s.setDefrost d) rfl n,
    (setDefrost_shell s d).trans (giveUpOutput_frame .dh _).shell⟩

/-- A DEFROST ABORT that reaches its job is carried out, Restart pending or not. -/
theorem defrostAborted_of_reached {s : State} {dt : Nat} (h : s.hears)
    (reached : requestArrives dt 4#8 [2#8] s = answer 4#8 (defrostAbort (s.atCommand dt))) : DefrostAborted dt s := by
  have unchanged {data : List Byte} (e : defrostAbort (s.atCommand dt) = (s.atCommand dt, data)) :
      exec (.defrostAbort dt []) s = .next (s.replied dt 0x84 data) := by
    refine congrArg Host.Outcome.next (reached.trans ?_)
    rw [e]
    exact answer_unchanged s dt 4#8 data h
  have answered {u : State} (e : defrostAbort (s.atCommand dt) = (u, [0])) (shell : Shell (s.atCommand dt) u) :
      exec (.defrostAbort dt []) s = .next (u.setLink (s.repliedLink dt 0x84 [0])) := by
    refine congrArg Host.Outcome.next (reached.trans ?_)
    rw [e]
    exact answer_heard s dt 4#8 (u, [0]) h shell.link shell.now shell.setup.2.2.1
  refine ⟨fun hm => unchanged (if_pos hm), fun hm hd => unchanged (defrostAbort_busy (u := s.atCommand dt) hm hd),
    fun hm hd => ?abandons, fun hm hd begun => ?ends⟩
  case abandons =>
    obtain ⟨defrost, request, others, shell⟩ := giveUpDh_leaves (s := s.atCommand dt)
      (d := { s.defrost.toAccrue with estimate := s.defrost.thr * 3 / 4 }) (by simp [Defrost.toAccrue])
    exact ⟨_, answered (defrostAbort_abandons (u := s.atCommand dt) hm hd) shell, defrost, request, others, shell.line,
      rfl, shell.setup, shell.senses⟩
  case ends =>
    have e := defrostAbort_ends (u := s.atCommand dt) hm hd begun
    rw [terminateHeat_abort] at e
    obtain ⟨defrost, request, others, shell⟩ := giveUpDh_leaves (s := s.atCommand dt) (d := { s.defrost with
      st := .drip, stateTime := 0, cause := .abort, thrBefore := s.defrost.thr, thrAfter := s.defrost.thr }) (by simp)
    exact ⟨_, answered e shell, defrost, request, others, shell.line, rfl, shell.setup, shell.senses⟩

/-- Settles O23: the command reaches its job unless Restart is pending and the part loses it (log 31). -/
theorem defrostAbortEndsCycleOrHeat : Obligations.DefrostAbortEndsCycleOrHeat := by
  unfold Obligations.DefrostAbortEndsCycleOrHeat
  intro s dt h
  refine ⟨fun hr => defrostAborted_of_reached h (requestArrives_job s dt 2#8 defrostAbort h hr rfl), fun hr => ?_⟩
  have pending := requestArrives_abort_pending s dt [] h (Nat.zero_le _) hr
  split
  · next acts =>
    rw [if_pos acts] at pending
    exact defrostAborted_of_reached h pending
  · next lost =>
    rw [if_neg lost] at pending
    exact congrArg Host.Outcome.next pending

/-! ### ICE ON, ICE OFF, ICE HARVEST NOW -/

section
variable {u : State}

theorem iceOn_loading (hm : u.mode = .loading) : iceOn u = (u.setIce { u.ice with enabled := true }, [0]) := by
  unfold iceOn
  dsimp only
  rw [if_pos hm]
  rfl

theorem iceOn_off (hm : u.mode = .running) (hi : u.ice.st = .off) :
    iceOn u = (leaveOff (u.setIce { u.ice with enabled := true }), [0]) := by
  unfold iceOn
  dsimp only
  rw [if_neg (by rw [hm]; decide), if_pos hi]
  rfl

theorem iceOn_inRound (hm : u.mode = .running) (hi : u.ice.st.inRound = true) :
    iceOn u = (u.setIce { u.ice with enabled := true, disablePending := false }, [0]) := by
  have on : u.ice.st ≠ .off := fun e => by rw [e] at hi; cases hi
  unfold iceOn
  dsimp only
  rw [if_neg (by rw [hm]; decide), if_neg on, if_pos hi]
  rfl

theorem iceOn_waits (hm : u.mode = .running) (on : u.ice.st ≠ .off) (hi : u.ice.st.inRound = false) :
    iceOn u = (u.setIce { u.ice with enabled := true }, [0]) := by
  unfold iceOn
  dsimp only
  rw [if_neg (by rw [hm]; decide), if_neg on, if_neg (by rw [hi]; decide)]
  rfl

theorem iceOff_stopped (h : u.mode = .loading ∨ u.ice.st = .off) :
    iceOff u = (u.setIce { u.ice with enabled := false }, [0]) := by
  unfold iceOff
  dsimp only
  rw [if_pos h]
  rfl

theorem iceOff_inRound (hm : u.mode = .running) (hi : u.ice.st.inRound = true) :
    iceOff u = (u.setIce { u.ice with enabled := false, disablePending := true }, [0]) := by
  have busy : ¬(u.mode = .loading ∨ u.ice.st = .off) := by
    rintro (e | e)
    · rw [hm] at e; cases e
    · rw [e] at hi; cases hi
  unfold iceOff
  dsimp only
  rw [if_neg busy, if_pos hi]
  rfl

theorem iceOff_waits (hm : u.mode = .running) (on : u.ice.st ≠ .off) (hi : u.ice.st.inRound = false) :
    iceOff u = (enterOff (u.setIce { u.ice with enabled := false }), [0]) := by
  have busy : ¬(u.mode = .loading ∨ u.ice.st = .off) := by
    rintro (e | e)
    · rw [hm] at e; cases e
    · exact on e
  unfold iceOff
  dsimp only
  rw [if_neg busy, if_neg (by rw [hi]; decide)]
  rfl

/-- PARK, BINFULL and FAULT are outside OFF and outside the round. -/
theorem between_rounds {i : IceState} (h : i = .park ∨ i = .binfull ∨ i = .fault) : i ≠ .off ∧ i.inRound = false := by
  obtain rfl | rfl | rfl := h <;> decide

theorem IceState.inRound_iff (i : IceState) :
    i.inRound = true ↔ i.inFill = true ∨ i = .freeze ∨ i = .harvestHeat ∨ i = .harvestRake := by
  cases i <;> simp [IceState.inRound, IceState.inFill]

theorem IceState.inFill_iff (i : IceState) : i.inFill = true ↔ ∃ sub, i = .fill sub := by
  cases i <;> simp [IceState.inFill]

theorem iceHarvestNow_busy (hm : u.mode = .running)
    (hi : u.ice.st.inFill = true ∨ u.ice.st = .harvestHeat ∨ u.ice.st = .harvestRake ∨ u.ice.st = .fault) :
    iceHarvestNow u = (u, [6]) := by
  rw [IceState.inFill_iff] at hi
  unfold iceHarvestNow
  obtain ⟨sub, hi⟩ | hi | hi | hi := hi <;> rw [if_neg (by simp [hm, hi]), hi] <;> rfl

theorem iceHarvestNow_begins (hm : u.mode = .running)
    (hi : u.ice.st = .park ∨ u.ice.st = .freeze ∨ u.ice.st = .binfull) :
    iceHarvestNow u = (enterHarvestHeat u, [0]) := by
  unfold iceHarvestNow
  obtain hi | hi | hi := hi <;> rw [if_neg (by simp [hm, hi]), hi] <;> rfl

end

/-- Settles O24: what each of the two commands does in each group of the ice maker's states. -/
theorem iceOnAndOff : Obligations.IceOnAndOff := by
  unfold Obligations.IceOnAndOff
  intro s dt h hr
  have on {u : State} (e : iceOn (s.atCommand dt) = (u, [0])) (shell : Shell (s.atCommand dt) u) :
      exec (.iceOn dt []) s = .next (u.setLink (s.repliedLink dt 0x84 [0])) :=
    congrArg Host.Outcome.next (job_shell h hr rfl e shell)
  have off {u : State} (e : iceOff (s.atCommand dt) = (u, [0])) (shell : Shell (s.atCommand dt) u) :
      exec (.iceOff dt []) s = .next (u.setLink (s.repliedLink dt 0x84 [0])) :=
    congrArg Host.Outcome.next (job_shell h hr rfl e shell)
  refine ⟨fun hm => on (iceOn_loading hm) (setIce_shell _ _), fun hm hi => on (iceOn_inRound hm hi) (setIce_shell _ _),
    fun hm hi => on (iceOn_waits hm (between_rounds hi).1 (between_rounds hi).2) (setIce_shell _ _),
    fun hm hi home => ?leaves, fun hm hi home => ?rakes, fun hm => off (iceOff_stopped hm) (setIce_shell _ _),
    fun hm hi => off (iceOff_inRound hm hi) (setIce_shell _ _), fun hm hi => ?stops, IceState.inRound_iff _⟩
  case leaves =>
    have e := (iceOn_off (u := s.atCommand dt) hm hi).trans
      (congrArg (·, [0]) (leaveOff_home (s := (s.atCommand dt).setIce _) home))
    refine (on e ((setIce_shell _ _).trans (setIce_shell _ _))).trans ?_
    cases loaded : s.ice.trayLoaded <;> simp [loaded] <;> rfl
  case rakes =>
    have e := (iceOn_off (u := s.atCommand dt) hm hi).trans
      (congrArg (·, [0]) (leaveOff_rakes (s := (s.atCommand dt).setIce _) home))
    have shell := (setIce_shell (s.atCommand dt) { s.ice with enabled := true }).trans (enterRake_shell _)
    exact ⟨_, on e shell, enterRake_ice_st _, by simp [enterRake], enterRake_requests _, shell.line, rfl, shell.setup,
      shell.senses⟩
  case stops =>
    have shell := (setIce_shell (s.atCommand dt) { s.ice with enabled := false }).trans (enterOff_shell _)
    exact ⟨_, off (iceOff_waits hm (between_rounds hi).1 (between_rounds hi).2) shell, enterOff_ice _,
      fun a => enterOff_noRequest a, fun n => enterOff_disp n, shell.line, rfl, shell.setup, shell.senses⟩

/-- Settles O25: the two refusals, and the harvest begun. -/
theorem iceHarvestNowBegins : Obligations.IceHarvestNowBegins := by
  unfold Obligations.IceHarvestNowBegins
  intro s dt h hr
  have answered {u : State} {data : List Byte} (e : iceHarvestNow (s.atCommand dt) = (u, data))
      (shell : Shell (s.atCommand dt) u) :
      exec (.iceHarvestNow dt []) s = .next (u.setLink (s.repliedLink dt 0x84 data)) :=
    congrArg Host.Outcome.next (job_shell h hr rfl e shell)
  refine ⟨fun hm => answered (if_pos hm) (.refl _), fun hm hi => answered (iceHarvestNow_busy hm hi) (.refl _),
    fun hm hi => ?_, IceState.inFill_iff _⟩
  have shell := enterHarvestHeat_shell (s.atCommand dt)
  exact ⟨_, answered (iceHarvestNow_begins hm hi) shell, enterHarvestHeat_ice _, enterHarvestHeat_requests _, shell.line,
    rfl, shell.setup, shell.senses⟩

/-! ### FAULT CLEAR -/

/-- The line with its faults cleared (R60). -/
def Line.cleared (l : Line) : Line := { l with leak := false, nosupply := false, unclaimed := 0 }

/-- The ice maker with its fault cleared (R94). -/
def Ice.cleared (i : Ice) : Ice := { i with faultCount := 0, cause := .noCause }

section
variable {u : State}

theorem faultClear_noFault (h : u.ice.st ≠ .fault) : faultClear u = (u.setLine u.line.cleared, [0]) := by
  unfold faultClear
  exact congrArg (done []) (if_neg h)

theorem faultClear_enabled (h : u.ice.st = .fault) (on : u.ice.enabled = true) :
    faultClear u = (leaveOff ((u.setLine u.line.cleared).setIce u.ice.cleared), [0]) := by
  unfold faultClear
  exact congrArg (done []) ((if_pos h).trans (if_pos on))

theorem faultClear_disabled (h : u.ice.st = .fault) (off : u.ice.enabled = false) :
    faultClear u = (enterOff ((u.setLine u.line.cleared).setIce u.ice.cleared), [0]) := by
  have not_on : ¬(u.ice.enabled = true) := by simp [off]
  unfold faultClear
  exact congrArg (done []) ((if_pos h).trans (if_neg not_on))

end

/-- Settles O26: the line's faults go in every state, and FAULT is left by R90 or for OFF. -/
theorem faultClearClears : Obligations.FaultClearClears := by
  unfold Obligations.FaultClearClears
  intro s dt h hr
  have answered {u : State} (e : faultClear (s.atCommand dt) = (u, [0]))
      (shell : Shell ((s.atCommand dt).setLine s.line.cleared) u) :
      exec (.faultClear dt []) s = .next (u.setLink (s.repliedLink dt 0x84 [0])) :=
    congrArg Host.Outcome.next (job_answered h hr (job := faultClear) rfl e shell.link shell.now shell.setup.2.2.1)
  have cleared := setIce_shell ((s.atCommand dt).setLine s.line.cleared) s.ice.cleared
  refine ⟨fun hi => answered (faultClear_noFault hi) (.refl _), fun hi on home => ?leaves, fun hi on home => ?rakes,
    fun hi off => ?stops⟩
  case leaves =>
    have e := (faultClear_enabled (u := s.atCommand dt) hi on).trans
      (congrArg (·, [0]) (leaveOff_home (s := ((s.atCommand dt).setLine _).setIce _) home))
    exact answered e (cleared.trans (setIce_shell _ _))
  case rakes =>
    have e := (faultClear_enabled (u := s.atCommand dt) hi on).trans
      (congrArg (·, [0]) (leaveOff_rakes (s := ((s.atCommand dt).setLine _).setIce _) home))
    have shell := cleared.trans (enterRake_shell _)
    exact ⟨_, answered e shell, enterRake_ice_st _, by simp [enterRake, Ice.cleared], by simp [enterRake, Ice.cleared],
      enterRake_requests _, shell.line, rfl, shell.setup, shell.senses⟩
  case stops =>
    have shell := cleared.trans (enterOff_shell _)
    have ice := enterOff_ice (((s.atCommand dt).setLine s.line.cleared).setIce s.ice.cleared)
    exact ⟨_, answered (faultClear_disabled hi off) shell, congrArg Ice.st ice, congrArg Ice.faultCount ice,
      congrArg Ice.cause ice, shell.line, rfl, shell.setup, shell.senses⟩

/-! ### FILTER RESET and RESTORE -/

/-- Settles O27: each number of RESTORE in its place, the filter state by R63. -/
theorem filterResetAndRestore : Obligations.FilterResetAndRestore := by
  unfold Obligations.FilterResetAndRestore
  intro s dt h hr
  have restored {args data : List Byte} {u : State} (hl : args.length = 14)
      (e : restore args (s.atCommand dt) = (u, data)) (link : u.link = (s.atCommand dt).link) (now : u.now = s.now + dt)
      (own : u.ownAddress = s.ownAddress) :
      exec (.restore dt args) s = .next (u.setLink (s.repliedLink dt 0x84 data)) := by
    have run : jobCommand (8#8 :: args) (s.atCommand dt) = (u, data) := (if_pos hl).trans e
    exact congrArg Host.Outcome.next (requestArrives_answered (kind := 0x04#8) h hr (by decide)
      (by simp [hl, Config.maxPayload]) (congrArg (answer 0x04#8) run) link now own)
  refine ⟨congrArg Host.Outcome.next (job_answered h hr (job := filterReset) rfl rfl rfl rfl rfl),
    fun args hl hm => restored hl (if_pos hm) rfl rfl rfl, fun args hl hm => ?_⟩
  exact restored hl (if_neg (by show ¬s.mode = .running; rw [hm]; decide)) rfl rfl rfl

end Sys2Proof.Machine
end


section
/-! Observation Write, Arm, Disarm and Restart. -/

namespace Sys2Proof.Machine

/-! ### Observation Write (R148, R156, R157) -/

theorem observationWrite_stores {c hi lo : Byte} {k : ObsKind} {v : Nat} (hc : ObsKind.ofCode c.toNat = some k)
    (hv : directValue k (numberOf [hi, lo]) = some v) (u : State) :
    observationWrite [c, hi, lo] u = (consumersAct [k] (updateObs k v .direct u), [0]) := by
  dsimp only [observationWrite]
  rw [hc]
  dsimp only
  rw [hv]
  rfl

theorem observationWrite_badValue {c hi lo : Byte} {k : ObsKind} (hc : ObsKind.ofCode c.toNat = some k)
    (hv : directValue k (numberOf [hi, lo]) = none) (u : State) : observationWrite [c, hi, lo] u = (u, [4]) := by
  dsimp only [observationWrite]
  rw [hc]
  dsimp only
  rw [hv]
  rfl

theorem ObsKind.ofCode_unknown {n : Nat} (h : n = 0 ∨ 7 < n) : ObsKind.ofCode n = none := by
  unfold ObsKind.ofCode
  split
  case h_8 => rfl
  all_goals omega

theorem observationWrite_unknown {c : Byte} (h : c = 0#8 ∨ 7 < c.toNat) (hi lo : Byte) (u : State) :
    observationWrite [c, hi, lo] u = (u, [4]) := by
  dsimp only [observationWrite]
  rw [ObsKind.ofCode_unknown (h.imp_left (congrArg BitVec.toNat))]
  rfl

theorem ObsKind.ofCode_byteOf (k : ObsKind) : ObsKind.ofCode (byteOf k.code).toNat = some k := by cases k <;> rfl

/-- Two bytes spell 0 just where both are 0. -/
theorem numberOf_pair_eq_zero {hi lo : Byte} : numberOf [hi, lo] = 0 ↔ hi = 0#8 ∧ lo = 0#8 := by
  rw [numberOf_pair, ← BitVec.toNat_inj, ← BitVec.toNat_inj]
  simp

theorem directValue_flag {k : ObsKind} (hk : k = .fzdoor ∨ k = .ffdoor ∨ k = .compressor ∨ k = .lock ∨ k = .fastice)
    (hi lo : Byte) : directValue k (numberOf [hi, lo]) = some (if hi = 0#8 ∧ lo = 0#8 then 0 else 1) := by
  have flag : directValue k (numberOf [hi, lo]) = some (if numberOf [hi, lo] = 0 then 0 else 1) := by
    obtain rfl | rfl | rfl | rfl | rfl := hk <;> rfl
  rw [flag]
  simp only [numberOf_pair_eq_zero]

/-- An entry that is not held takes the value, fresh and of age 0 (R148). -/
theorem updateObs_stores {k : ObsKind} {s : State} (v : Nat) (src : ObsSource)
    (h : k ≠ .measure ∨ s.disp.measured = .inactive) : updateObs k v src s = s.setObs (s.obs.set k
      { value := v, st := .fresh, age := 0, source := src, ageAt := s.now + Config.tickSecond }) := by
  rw [updateObs_eq, if_neg]
  rintro ⟨hk, held⟩
  obtain h | h := h
  · exact h hk
  · simp [h] at held

/-- MEASURE is held while a measured fill is ACTIVE or PAUSED (R157). -/
theorem updateObs_held {s : State} (v : Nat) (src : ObsSource) (h : s.disp.measured ≠ .inactive) :
    updateObs .measure v src s = s := by
  rw [updateObs_eq, if_pos ⟨rfl, decide_eq_true h⟩]
  rfl

/-- FZDOOR that comes to read open is an opening of the door (R148). -/
theorem consumersAct_opens {s : State} (h : s.doorReadsOpen = true) : consumersAct [.fzdoor] s = doorOpened s :=
  if_pos ⟨List.mem_singleton.mpr rfl, h⟩

/-- A delivery that ends gives AM up, and a delivery that came about has the bin looked at (R75, R110). -/
theorem endDelivery_gate_ice (p : PressStanding) (s : State) :
    (s.apart .am → (endDelivery p s).gate.reqState .am = .noRequest) ∧
      (s.disp.delivered = true → s.ice.st = .binfull → s.inputs.binfull = false →
        (endDelivery p s).ice.st = .park) := by
  unfold endDelivery
  dsimp only
  generalize hx : ({ s.disp with
    st := if s.disp.flap then DispState.flaphold else .idle
    flapAt := if s.disp.flap then some (s.afterSeconds s.tables.water.flaphold) else none
    augerAt := none, press := p } : Disp) = x
  have free (a : s.apart .am) : (giveUpOutput .am (s.setDisp x)).gate.reqState .am = .noRequest :=
    giveUpOutput_apart (o := .am) (s := s.setDisp x) a
  refine ⟨fun a => ?_, fun delivered full gone => ?_⟩
  · split
    · unfold deliveryReport
      split <;> exact free a
    · exact free a
  · rw [if_pos delivered]
    unfold deliveryReport
    rw [if_pos (by simp [full, gone])]
    rfl

/-- The flap-hold timer starts where the flap is out (R110, R112). -/
theorem endDelivery_flapAt (p : PressStanding) (s : State) : (endDelivery p s).disp.flapAt =
    if s.disp.flap then some (s.afterSeconds s.tables.water.flaphold) else none := by
  unfold endDelivery
  dsimp only
  split
  · rw [(deliveryReport_leaves _).1]
    simp
  · simp

/-- Settles O15: each kind's value, and the two endings an opened door brings. -/
theorem observationWriteUpdates : Obligations.ObservationWriteUpdates := by
  unfold Obligations.ObservationWriteUpdates
  refine ⟨fun s dt hi lo h hr pour deliver => ?rests, fun s dt hi lo h hr opened => ?opens⟩
  case rests =>
    have answered {c : Byte} {u : State} {data : List Byte}
        (e : observationWrite [c, hi, lo] (s.atCommand dt) = (u, data)) (hl : u.link = (s.atCommand dt).link)
        (hn : u.now = s.now + dt) (ho : u.ownAddress = s.ownAddress) :
        exec (.observationWrite dt [c, hi, lo]) s = .next (u.setLink (s.repliedLink dt 0x8A data)) :=
      congrArg Host.Outcome.next (requestArrives_answered (kind := 0x0A#8) h hr (by decide)
        (by simp [Config.maxPayload]) (congrArg (answer _) e) hl hn ho)
    have stored {c : Byte} {k : ObsKind} {v : Nat} (hc : ObsKind.ofCode c.toNat = some k)
        (hv : directValue k (numberOf [hi, lo]) = some v) (free : k ≠ .measure ∨ s.disp.measured = .inactive) :
        exec (.observationWrite dt [c, hi, lo]) s = .next { s.replied dt 0x8A [0] with
          obs := s.obs.set k { value := v, st := .fresh, age := 0, source := .direct,
                               ageAt := s.now + dt + Config.tickSecond } } := by
      have e := observationWrite_stores hc hv (s.atCommand dt)
      rw [updateObs_stores (s := s.atCommand dt) v .direct free,
        consumersAct_atRest _ ((s.atCommand dt).setObs _) pour deliver] at e
      exact answered e rfl rfl rfl
    refine ⟨fun k hk => stored (ObsKind.ofCode_byteOf k) (directValue_flag hk hi lo) (.inl ?_), fun small => ?_,
      fun large => ?_, fun idle => ?_, fun held => ?_, fun c unknown => ?_⟩
    · obtain rfl | rfl | rfl | rfl | rfl := hk <;> decide
    · rw [← numberOf_pair] at small ⊢
      exact stored (c := 4) (k := .select) rfl (if_pos small) (.inl (by decide))
    · rw [← numberOf_pair] at large
      exact answered (observationWrite_badValue (k := .select) rfl (if_neg (Nat.not_le.mpr large)) _) rfl rfl rfl
    · rw [← numberOf_pair]
      exact stored (c := 5) (k := .measure) rfl rfl (.inr idle)
    · have e := observationWrite_stores (c := 5) (hi := hi) (lo := lo) (k := .measure) rfl rfl (s.atCommand dt)
      rw [updateObs_held (s := s.atCommand dt) _ .direct held, consumersAct_atRest _ (s.atCommand dt) pour deliver] at e
      exact answered e rfl rfl rfl
    · exact answered (observationWrite_unknown unknown hi lo _) rfl rfl rfl
  case opens =>
    have value : directValue .fzdoor (numberOf [hi, lo]) = some 1 := by
      rw [directValue_flag (.inl rfl), if_neg (by tauto)]
    have e := observationWrite_stores (c := 1) rfl value (s.atCommand dt)
    rw [updateObs_stores (s := s.atCommand dt) 1 .direct (.inl (by decide)), consumersAct_opens rfl] at e
    have answered {u : State} (e : observationWrite [1, hi, lo] (s.atCommand dt) = (u, [0]))
        (hl : u.link = (s.atCommand dt).link) (hn : u.now = s.now + dt) (ho : u.ownAddress = s.ownAddress) :
        exec (.observationWrite dt [1, hi, lo]) s = .next (u.setLink (s.repliedLink dt 0x8A [0])) :=
      congrArg Host.Outcome.next (requestArrives_answered (kind := 0x0A#8) h hr (by decide)
        (by simp [Config.maxPayload]) (congrArg (answer _) e) hl hn ho)
    generalize hx : (s.atCommand dt).setObs _ = x at e
    have st : x.disp = s.disp := by rw [← hx]; rfl
    refine ⟨fun pour line waits suspended metered total => ?_, fun deliver => ?_⟩
    · have ends : doorOpened x = endPour .idle .spent x := by
        unfold doorOpened
        rw [st, pour]
      rw [ends, ← hx, endPour_alone .idle .spent ((s.atCommand dt).setObs _) line metered total waits suspended] at e
      exact answered e rfl rfl rfl
    · have ends : doorOpened x = endDelivery .spent x := by
        unfold doorOpened
        rw [st, deliver]
      rw [ends] at e
      obtain ⟨disp, press, auger, line, link, now, senses, setup⟩ := endDelivery_leaves .spent x
      obtain ⟨free, park⟩ := endDelivery_gate_ice .spent x
      obtain ⟨obs, temps, inputs⟩ := senses
      subst hx
      refine ⟨_, answered e link now setup.2.2.1, disp, press, auger, endDelivery_flapAt .spent _, free, park, obs,
        line, rfl, inputs, temps, setup⟩

/-! ### Arm (R192) -/

theorem armCommand_refused {u : State} (hm : u.mode = .running) : arm [] u = (u, [5]) :=
  (if_neg (not_not.mpr rfl)).trans (if_pos hm)

theorem armCommand_invalid {u : State} {i : Nat} (hm : u.mode = .loading) (h : curveFault u.tables Chan.all = some i) :
    arm [] u = (u, [7, 3, byteOf i]) := by
  unfold arm
  rw [if_neg (not_not.mpr rfl), if_neg (by rw [hm]; decide), h]
  rfl

theorem armCommand_starts {u : State} (hm : u.mode = .loading) (h : curveFault u.tables Chan.all = none) :
    arm [] u = (armEffect u, [0]) := by
  unfold arm
  rw [if_neg (not_not.mpr rfl), if_neg (by rw [hm]; decide), h]
  rfl

/-- No curve in use is invalid (R192). -/
theorem curveFault_none {t : Tables}
    (h : ∀ c, (t.chanMap.get c).sel = .noCurve ∨ curveValid (t.curve (t.chanMap.get c).sel) = true) :
    curveFault t Chan.all = none := by
  rw [← List.append_nil Chan.all, curveFault_append t Chan.all [] fun c _ => h c]
  rfl

/-- The first channel whose curve is invalid reports it (R192). -/
theorem curveFault_first {t : Tables} {before after : List Chan} {c : Chan} {i : Nat}
    (order : [Chan.evap, .fzair, .tray, .tank] = before ++ c :: after)
    (valid : ∀ x ∈ before, (t.chanMap.get x).sel = .noCurve ∨ curveValid (t.curve (t.chanMap.get x).sel) = true) :
    ((t.chanMap.get c).sel = .curveA → firstFailing t.curveA = some i → curveFault t Chan.all = some i) ∧
      ((t.chanMap.get c).sel = .curveB → firstFailing t.curveB = some i → curveFault t Chan.all = some (i + 16)) := by
  have order : Chan.all = before ++ c :: after := order
  rw [order, curveFault_append t before _ valid]
  unfold curveFault
  constructor <;> intro sel fails <;> rw [sel] <;> dsimp only <;> rw [fails] <;> rfl

/-- The state that Arm hands to the ice maker (R17, R55, R59, R96, R120). -/
def armed (s : State) : State :=
  (armGate (armLine (armDefrost (s.setMode .running)))).setIce { s.ice with secondAt := s.now + Config.tickSecond }

theorem armEffect_eq (s : State) : armEffect s = if s.ice.enabled then leaveOff (armed s) else armed s := rfl

theorem armEffect_shell (s : State) : Shell (armed s) (armEffect s) := by
  rw [armEffect_eq]
  split
  · exact leaveOff_shell _
  · exact .refl _

/-- Leaving OFF in ACCRUE touches the defrost controller in nothing. -/
theorem leaveOff_defrost {s : State} (h : s.defrost.st ≠ .heat) : (leaveOff s).defrost = s.defrost := by
  cases home : s.inputs.home
  · rw [leaveOff_rakes home]
    exact requestOutput_defrost .em _ (.inl h)
  · rw [leaveOff_home home]
    rfl

theorem leaveOff_secondAt (s : State) : (leaveOff s).ice.secondAt = s.ice.secondAt := by
  cases home : s.inputs.home
  · rw [leaveOff_rakes home]
    simp [enterRake]
  · rw [leaveOff_home home]
    cases s.ice.trayLoaded <;> rfl

/-- An Arm with the ice maker enabled and the rake home (R90, R96). -/
theorem armEffect_home {s : State} (on : s.ice.enabled = true) (home : s.inputs.home = true) : armEffect s =
    (armed s).setIce (if s.ice.trayLoaded then { (armed s).ice with st := .freeze, belowtime := 0, freezetime := 0 }
      else { (armed s).ice with st := .park }) := by
  rw [armEffect_eq, if_pos on]
  exact leaveOff_home (s := armed s) home

/-- Settles O17: each block takes its start, and the ice maker leaves OFF by R90. -/
theorem armStartsJobs : Obligations.ArmStartsJobs := by
  unfold Obligations.ArmStartsJobs
  intro s dt h hr hm off accrue valid
  have shell := armEffect_shell (s.atCommand dt)
  obtain ⟨mode, -, own, tables, pending⟩ := shell.setup
  have starts := armCommand_starts (u := s.atCommand dt) hm (curveFault_none valid)
  refine ⟨_, congrArg Host.Outcome.next (requestArrives_answered (kind := 0x07#8) h hr (by decide) (Nat.zero_le _)
    (congrArg (answer _) starts) shell.link shell.now own), mode, shell.now, ?defrost, shell.line, shell.load,
    shell.budget, ?second, fun disabled => ?off, fun enabled home => ?rakes, fun enabled home loaded => ?freezes,
    fun enabled home empty => ?parks, rfl, tables, shell.senses, pending⟩
  case defrost =>
    show (armEffect (s.atCommand dt)).defrost = (armed (s.atCommand dt)).defrost
    rw [armEffect_eq]
    split
    · exact leaveOff_defrost (s := armed (s.atCommand dt)) (by show s.defrost.st ≠ .heat; rw [accrue]; decide)
    · rfl
  case second =>
    show (armEffect (s.atCommand dt)).ice.secondAt = _
    rw [armEffect_eq]
    split
    · exact leaveOff_secondAt _
    · rfl
  case off =>
    show (armEffect (s.atCommand dt)).ice.st = _
    rw [armEffect_eq, if_neg (by simp [disabled])]
    exact off
  case rakes =>
    have e : armEffect (s.atCommand dt) = enterRake (armed (s.atCommand dt)) :=
      (if_pos enabled).trans (leaveOff_rakes (s := armed (s.atCommand dt)) home)
    rw [e]
    exact ⟨enterRake_ice_st _, enterRake_requests _⟩
  case freezes =>
    rw [armEffect_home (s := s.atCommand dt) enabled home, if_pos (c := (s.atCommand dt).ice.trayLoaded = true) loaded]
    exact ⟨rfl, rfl, rfl⟩
  case parks =>
    have empty : ¬((s.atCommand dt).ice.trayLoaded = true) := by simp [empty]
    rw [armEffect_home (s := s.atCommand dt) enabled home, if_neg empty]
    rfl

/-! ### The validity of a curve (R140) -/

theorem stepFails_eq_false {rising : Bool} {p q : CurvePoint} : stepFails rising p q = false ↔
    p.count < q.count ∧ (if rising = true then p.temp < q.temp else q.temp < p.temp) := by
  cases rising <;> simp [stepFails]

section
variable (count : Nat → Nat) (temp : Nat → Int)

/-- The sixteen points of a curve, by their two coordinates. -/
def curvePoints : List CurvePoint := (List.range 16).map fun i => { count := count i, temp := temp i }

/-- Step `i` leads from point `i - 1` to point `i` in the curve's direction (R140). -/
def curveSteps (i : Nat) : Prop :=
  count (i - 1) < count i ∧ (if temp 0 < temp 1 then temp (i - 1) < temp i else temp i < temp (i - 1))

theorem curveStep_iff (i : Nat) : curveSteps count temp (i + 1) ↔ stepFails (temp 0 < temp 1)
    { count := count i, temp := temp i } { count := count (i + 1), temp := temp (i + 1) } = false := by
  rw [stepFails_eq_false, curveSteps]
  simp

theorem firstFailing_points : firstFailing (curvePoints count temp) = firstFailingFrom (temp 0 < temp 1) 1
    { count := count 0, temp := temp 0 }
    ((List.range 15).map fun i => { count := count (i + 1), temp := temp (i + 1) }) := rfl

theorem curvePoint_get {j : Nat} (h : j < 15) :
    (({ count := count 0, temp := temp 0 } : CurvePoint) ::
        (List.range 15).map fun i => { count := count (i + 1), temp := temp (i + 1) })[j]'(by simp; omega) =
      { count := count j, temp := temp j } := by
  cases j with
  | zero => rfl
  | succ j => simp

theorem firstFailing_eq_some (k : Nat) : firstFailing (curvePoints count temp) = some k ↔
    1 ≤ k ∧ k ≤ 15 ∧ ¬curveSteps count temp k ∧ ∀ j, 1 ≤ j → j < k → curveSteps count temp j := by
  rw [firstFailing_points, firstFailingFrom_eq_some]
  constructor
  · rintro ⟨low, inside, fails, before⟩
    have inside : k - 1 < 15 := by simpa using inside
    obtain ⟨m, rfl⟩ := Nat.exists_eq_add_of_le' low
    refine ⟨low, by omega, fun steps => ?_, fun j jlow jk => ?_⟩
    · rw [curveStep_iff] at steps
      simp only [Nat.add_sub_cancel, curvePoint_get count temp (show m < 15 by omega), List.getElem_map,
        List.getElem_range, steps] at fails
      cases fails
    · obtain ⟨n, rfl⟩ := Nat.exists_eq_add_of_le' jlow
      have holds := before (n + 1) jlow jk
      simp only [Nat.add_sub_cancel, curvePoint_get count temp (show n < 15 by omega), List.getElem_map,
        List.getElem_range] at holds
      rwa [curveStep_iff]
  · rintro ⟨low, high, fails, before⟩
    obtain ⟨m, rfl⟩ := Nat.exists_eq_add_of_le' low
    refine ⟨low, by simp; omega, ?_, fun j jlow jk => ?_⟩
    · rw [curveStep_iff, Bool.not_eq_false] at fails
      simpa only [Nat.add_sub_cancel, curvePoint_get count temp (show m < 15 by omega), List.getElem_map,
        List.getElem_range] using fails
    · obtain ⟨n, rfl⟩ := Nat.exists_eq_add_of_le' jlow
      have holds := before (n + 1) jlow jk
      rw [curveStep_iff] at holds
      simpa only [Nat.add_sub_cancel, curvePoint_get count temp (show n < 15 by omega), List.getElem_map,
        List.getElem_range] using holds

theorem curveValid_iff_steps : curveValid (curvePoints count temp) = true ↔
    ∀ i, i < 15 → curveSteps count temp (i + 1) := by
  rw [curveValid, Option.isNone_iff_eq_none, firstFailing_points, firstFailingFrom_eq_none]
  simp only [List.length_map, List.length_range]
  refine forall_congr' fun i => forall_congr' fun hi => ?_
  rw [curveStep_iff, curvePoint_get count temp hi]
  simp

/-- The direction is the first step's, so a curve whose steps all hold rises or falls throughout. -/
theorem curveValid_iff : curveValid (curvePoints count temp) = true ↔ (∀ i, i < 15 → count i < count (i + 1)) ∧
    ((∀ i, i < 15 → temp i < temp (i + 1)) ∨ (∀ i, i < 15 → temp (i + 1) < temp i)) := by
  rw [curveValid_iff_steps]
  simp only [curveSteps, Nat.add_sub_cancel]
  by_cases rising : temp 0 < temp 1
  · simp only [if_pos rising]
    constructor
    · exact fun h => ⟨fun i hi => (h i hi).1, .inl fun i hi => (h i hi).2⟩
    · rintro ⟨counts, up | down⟩
      · exact fun i hi => ⟨counts i hi, up i hi⟩
      · exact absurd rising (lt_asymm (down 0 (by decide)))
  · simp only [if_neg rising]
    constructor
    · exact fun h => ⟨fun i hi => (h i hi).1, .inr fun i hi => (h i hi).2⟩
    · rintro ⟨counts, up | down⟩
      · exact absurd (up 0 (by decide)) rising
      · exact fun i hi => ⟨counts i hi, down i hi⟩

end

/-- Settles O18: the two refusals, and when a point fails first. -/
theorem armRefused : Obligations.ArmRefused := by
  unfold Obligations.ArmRefused
  refine ⟨fun s dt h hr => ?_, fun t => ⟨rfl, rfl⟩, ?_⟩
  · have replied {data : List Byte} (e : arm [] (s.atCommand dt) = (s.atCommand dt, data)) :
        exec (.arm dt []) s = .next (s.replied dt 0x87 data) :=
      congrArg Host.Outcome.next
        (requestArrives_replied (kind := 0x07#8) h hr (by decide) (Nat.zero_le _) (congrArg (answer _) e))
    refine ⟨fun hm => replied (armCommand_refused hm), fun before after c i hm order valid => ?_⟩
    obtain ⟨a, b⟩ := curveFault_first (i := i) order valid
    exact ⟨fun sel fails => replied (armCommand_invalid hm (a sel fails)), fun sel fails => replied (armCommand_invalid hm (b sel fails))⟩
  · rintro count temp pts steps rfl hsteps
    obtain rfl : steps = curveSteps count temp := funext fun i => propext (hsteps i)
    exact ⟨curveValid_iff count temp, firstFailing_eq_some count temp⟩

/-! ### Disarm (R193) -/

section
variable (d : Defrost)

/-- A cycle that ends before its heat has begun leaves no record (R13, R38). -/
theorem Defrost.disarmed_unbegun
    (h : d.st = .accrue ∨ d.st = .due ∨ d.st = .hold ∨ (d.st = .heat ∧ d.heatBegun = false)) :
    d.disarmed = d.toAccrue := by
  unfold Defrost.disarmed
  obtain h | h | h | ⟨h, begun⟩ := h <;> rw [h]
  rw [begun]
  rfl

theorem Defrost.disarmed_heating (h : d.st = .heat) (begun : d.heatBegun = true) :
    d.disarmed = d.abortHeat.complete := by
  unfold Defrost.disarmed
  rw [h, begun]
  rfl

theorem Defrost.disarmed_afterHeat (h : d.st = .drip ∨ d.st = .recover) : d.disarmed = d.complete := by
  unfold Defrost.disarmed
  obtain h | h := h <;> rw [h]

end

theorem disarm_refused {u : State} (hm : u.mode = .loading) : disarm [] u = (u, [5]) :=
  (if_neg (not_not.mpr rfl)).trans (if_pos hm)

theorem disarm_stops {u : State} (hm : u.mode = .running) : disarm [] u = (disarmEffect u, [0]) := by
  unfold disarm
  rw [if_neg (not_not.mpr rfl), if_neg (by rw [hm]; decide)]
  rfl

/-- What a stop of the jobs leaves around them (R193). -/
theorem stopJobs_leaves (s : State) : (stopJobs s).link = s.link ∧ (stopJobs s).now = s.now ∧
    (stopJobs s).ownAddress = s.ownAddress ∧ (stopJobs s).pending = s.pending ∧
    (stopJobs s).restartPending = s.restartPending ∧ (stopJobs s).tables = s.tables ∧ KeepsSenses s (stopJobs s) :=
  ⟨stopJobs_link s, stopJobs_now s, stopJobs_ownAddress s, stopJobs_pending s, stopJobs_restartPending s,
    stopJobs_tables s, stopJobs_obs s, stopJobs_temps s, stopJobs_inputs s⟩

/-- What the closing of the open valve leaves of the jobs and the line. -/
theorem closeOpenValve_stands (s : State) :
    ((closeOpenValve s).ice.enabled = s.ice.enabled ∧ (closeOpenValve s).ice.trayLoaded = s.ice.trayLoaded ∧
      (closeOpenValve s).ice.faultCount = s.ice.faultCount ∧ (closeOpenValve s).ice.cycles = s.ice.cycles) ∧
    ((closeOpenValve s).disp.latched = s.disp.latched ∧ (closeOpenValve s).disp.adReverse = s.disp.adReverse ∧
      (closeOpenValve s).disp.target = s.disp.target) ∧
    (closeOpenValve s).line.fillTally = s.line.fillTally ∧ (closeOpenValve s).line.pourTally = s.line.pourTally ∧
    (closeOpenValve s).line.flowk = s.line.flowk ∧ (closeOpenValve s).line.leak = s.line.leak ∧
    (closeOpenValve s).line.nosupply = s.line.nosupply := by
  simp

/-- Settles O19: every block after a stop, one by one. -/
theorem disarmStopsEverything : Obligations.DisarmStopsEverything := by
  unfold Obligations.DisarmStopsEverything
  intro s dt h hr
  refine ⟨fun hm => congrArg Host.Outcome.next ?_, fun hm => ?_⟩
  · exact requestArrives_replied (kind := 0x08#8) h hr (by decide) (Nat.zero_le _)
      (congrArg (answer _) (disarm_refused (u := s.atCommand dt) hm))
  have stops := disarm_stops (u := s.atCommand dt) hm
  have drives : (disarmEffect (s.atCommand dt)).drives = .allOff :=
    loadingDrivesOff _ rfl ⟨stopJobs_gateInv _, fun _ => stopJobs_atRest _⟩
  unfold disarmEffect at stops drives
  have gate := stopJobs_gate (s.atCommand dt)
  have defrost := stopJobs_defrost (s.atCommand dt)
  have ice := stopJobs_ice (s.atCommand dt)
  have disp := stopJobs_disp (s.atCommand dt)
  have line := stopJobs_line (s.atCommand dt)
  have shell := stopJobs_leaves (s.atCommand dt)
  have closed := closeOpenValve_closed (s.atCommand dt)
  have stands := closeOpenValve_stands (s.atCommand dt)
  generalize stopJobs (s.atCommand dt) = v at stops drives gate defrost ice disp line shell
  generalize closeOpenValve (s.atCommand dt) = w at ice disp line closed stands
  obtain ⟨⟨enabled, loaded, faults, cycles⟩, ⟨latched, reverse, target⟩, fillTally, pourTally, flowk, leak, nosupply⟩ :=
    stands
  obtain ⟨link, now, own, pending, restart, tables, senses⟩ := shell
  have requests (o : Gated) : v.gate.reqState o = .noRequest :=
    Gate.reqState_of_empty _ o (congrArg Gate.granted gate) (congrArg Gate.wait gate)
  refine ⟨_, congrArg Host.Outcome.next (requestArrives_answered (kind := 0x08#8) h hr (by decide) (Nat.zero_le _)
    (congrArg (answer _) stops) link now own), rfl, drives, fun hd => defrost.trans (Defrost.disarmed_unbegun _ hd),
    fun hd begun => defrost.trans (Defrost.disarmed_heating _ hd begun),
    fun hd => defrost.trans (Defrost.disarmed_afterHeat _ hd), congrArg Ice.st ice,
    (congrArg Ice.enabled ice).trans enabled, (congrArg Ice.trayLoaded ice).trans loaded,
    (congrArg Ice.faultCount ice).trans faults, (congrArg Ice.cycles ice).trans cycles, congrArg Ice.cause ice,
    congrArg Ice.disablePending ice, congrArg Ice.retry ice, congrArg Disp.st disp, congrArg Disp.measured disp,
    congrArg Disp.press disp, (congrArg Disp.latched disp).trans latched, (congrArg Disp.adReverse disp).trans reverse,
    (congrArg Disp.target disp).trans target, congrArg Line.st line, congrArg Line.fillWaiting line,
    congrArg Line.fillSuspended line, (congrArg Line.fillTally line).trans fillTally,
    (congrArg Line.pourTally line).trans pourTally, (congrArg Line.flowk line).trans flowk,
    (congrArg Line.leak line).trans leak, (congrArg Line.nosupply line).trans nosupply,
    fun fill => ?fill, fun pour => ?pour, requests, congrArg Gate.wait gate, congrArg Gate.hm gate, now, own,
    restart.trans hr, rfl, tables, senses, pending⟩
  case fill =>
    obtain ⟨last, moment⟩ := closed.1 fill
    exact ⟨(congrArg Line.lastClosed line).trans last, (congrArg Line.closeAt line).trans moment⟩
  case pour =>
    obtain ⟨last, moment⟩ := closed.2 pour
    exact ⟨(congrArg Line.lastClosed line).trans last, (congrArg Line.closeAt line).trans moment⟩

end Sys2Proof.Machine
end


section
/-! Restart's effect: every block at its Restart value, whatever brought it (R194, R196). -/

namespace Sys2Proof.Machine

/-- What the closing of the open valve leaves of the filter where it adds no estimate (R62). -/
theorem closeOpenValve_filter {s : State} (still : (s.line.st ≠ .fill ∧ s.line.st ≠ .pour) ∨ s.line.flowk ≠ 0)
    (fits : s.line.filterTotal ≤ Config.max32) : (closeOpenValve s).line.filterTotal = s.line.filterTotal ∧
      (closeOpenValve s).line.filterState = s.line.filterState := by
  unfold closeOpenValve
  split
  · next fill =>
    obtain ⟨notFill, -⟩ | metered := still
    · exact absurd fill notFill
    · rw [closeValve_metered .iv s metered fits]
      exact ⟨rfl, rfl⟩
  · next pour =>
    obtain ⟨-, notPour⟩ | metered := still
    · exact absurd pour notPour
    · rw [closeValve_metered .wv s metered fits]
      exact ⟨rfl, rfl⟩
  all_goals exact ⟨rfl, rfl⟩

theorem closeOpenValve_filterRemainder (s : State) :
    (closeOpenValve s).line.filterRemainder = s.line.filterRemainder := by
  unfold closeOpenValve
  split <;> rfl

/-- Restart keeps what the close of an open valve leaves of the filter (R68). -/
theorem restartEffect_filter (s : State) :
    (restartEffect s).line.filterState = (closeOpenValve s).line.filterState ∧
      (restartEffect s).line.filterRemainder = (closeOpenValve s).line.filterRemainder := by
  unfold restartEffect restartJobs
  split <;>
    simp [restartDisp, restartIce, restartLine, restartDefrost, stopJobs_line, emptyGate, disarmDisp, disarmIce,
      disarmLine]

theorem PortState.trunkRestarted_rx (m : Nat) (p : PortState) : (p.trunkRestarted m).rx = .waiting := by
  unfold PortState.trunkRestarted
  split <;> rfl

theorem PortState.doorRestarted_stops (m : Nat) (p : PortState) :
    (p.doorRestarted m).rx = .waiting ∧ (p.doorRestarted m).tx = .idle := by
  unfold PortState.doorRestarted
  split <;> exact ⟨rfl, rfl⟩

theorem restartEffect_drives (s : State) : (restartEffect s).drives = .allOff := by
  obtain ⟨l, line⟩ := restartEffect_line s
  obtain ⟨p, disp⟩ := restartEffect_disp s
  have mode : (restartEffect s).mode = .loading := rfl
  simp [State.drives, State.fanOn, Gate.heaterOn, GrantSet.get, restartEffect_gate, line, disp, mode, Drives.allOff,
    GrantSet.empty, Line.powerOn, Disp.powerOn]

/-- The defrost chapters after a Restart, state by state (R13, R19, R25, R39). -/
theorem restartEffect_restartDefrost (s : State) : RestartDefrost s (restartEffect s) := by
  have defrost := restartEffect_defrost s
  refine ⟨fun hm => ?_, fun hm hd => ?_, fun hm hd begun => ?_, fun hm hd => ?_⟩
  · rw [defrost, if_neg (by rw [hm]; decide)]
  · rw [defrost, if_pos hm, Defrost.disarmed_unbegun _ hd]
    rfl
  · rw [defrost, if_pos hm, Defrost.disarmed_heating _ hd begun]
    rfl
  · rw [defrost, if_pos hm, Defrost.disarmed_afterHeat _ hd]
    rfl

theorem restartEffect_thr (s : State) : (restartEffect s).defrost.thr = s.defrost.thr ∧
    (restartEffect s).defrost.origin = s.defrost.origin ∧
    (s.mode = .running → (restartEffect s).defrost.st = .accrue) := by
  obtain ⟨st, thr, origin⟩ := Defrost.disarmed_keeps s.defrost
  rw [restartEffect_defrost]
  split
  · exact ⟨thr, origin, fun _ => st⟩
  · next stopped => exact ⟨rfl, rfl, fun hm => absurd hm stopped⟩

/-- Restart's effect on a state in which the clock, the link and the mark alone have moved. -/
theorem restartValues (s : State) (n : Nat) (l : Link) (b : Bool) :
    RestartValues s (restartEffect (((s.setNow n).setLink l).setRestartPending b)) := by
  generalize hx : ((s.setNow n).setLink l).setRestartPending b = x
  have ice := restartEffect_ice x
  have gate := restartEffect_gate x
  obtain ⟨q, line⟩ := restartEffect_line x
  obtain ⟨p, disp⟩ := restartEffect_disp x
  obtain ⟨-, own, tables, inputs, pending⟩ := restartEffect_keeps x
  obtain ⟨doorRx, doorTx⟩ := PortState.doorRestarted_stops x.now x.link.door
  obtain ⟨filterState, remainder⟩ := restartEffect_filter x
  obtain ⟨thr, origin, accrue⟩ := restartEffect_thr x
  have defrost := restartEffect_restartDefrost x
  have total := restartEffect_filterTotal x
  have keeps (still : (x.line.st ≠ .fill ∧ x.line.st ≠ .pour) ∨ x.line.flowk ≠ 0)
      (fits : x.line.filterTotal ≤ Config.max32) := closeOpenValve_filter still fits
  have remainderKept := closeOpenValve_filterRemainder x
  have drives := restartEffect_drives x
  have link : (restartEffect x).link = x.link.restarted x.now := rfl
  have rest : (restartEffect x).mode = .loading ∧ (restartEffect x).restartPending = false ∧
    (restartEffect x).obs = .powerOn ∧ (restartEffect x).temps = .reset := ⟨rfl, rfl, rfl, rfl⟩
  obtain ⟨mode, mark, obs, temps⟩ := rest
  have requests (o : Gated) : (restartEffect x).gate.reqState o = .noRequest :=
    Gate.reqState_of_empty _ o (congrArg Gate.granted gate) (congrArg Gate.wait gate)
  generalize restartEffect x = t at *
  generalize closeOpenValve x = w at *
  subst hx
  refine ⟨mode, mark, drives, ?link, ⟨obs, temps⟩, ?ice, ?disp, ?line, ⟨requests, congrArg Gate.hm gate⟩,
    ⟨thr, origin, accrue, defrost⟩, tables, own, inputs, pending⟩
  case link =>
    rw [link]
    exact ⟨rfl, rfl, rfl, rfl, rfl, rfl, PortState.trunkRestarted_rx _ _, doorRx, doorTx⟩
  case ice =>
    rw [ice]
    exact ⟨rfl, rfl, rfl, rfl, rfl, rfl⟩
  case disp =>
    rw [disp]
    exact ⟨rfl, rfl, rfl, rfl, rfl⟩
  case line =>
    refine ⟨congrArg Line.st line, congrArg Line.lastClosed line, congrArg Line.fillTally line,
      congrArg Line.pourTally line, congrArg Line.unclaimed line, congrArg Line.leak line, congrArg Line.nosupply line,
      congrArg Line.flowk line, fun still fits => ?_, remainder.trans remainderKept⟩
    obtain ⟨totalKept, stateKept⟩ := keeps still fits
    exact ⟨total.trans totalKept, filterState.trans stateKept⟩

/-- The same, for a state given by its fields. -/
theorem restartValues_of {s x : State}
    (same : x = { s with now := x.now, link := x.link, restartPending := x.restartPending }) :
    RestartValues s (restartEffect x) := by
  have e : x = ((s.setNow x.now).setLink x.link).setRestartPending x.restartPending := same
  rw [e]
  exact restartValues s x.now x.link x.restartPending

/-- A Restart whose reply finds no room takes effect at once (R194). -/
theorem restartCommand_full {u : State} (full : u.link.uplink.length = 3) : restartCommand 0x09#8 [] u =
    restartEffect ((u.setLink (u.link.offerUplink u.now (u.reply 0x09#8 [resultDone]) true)).setRestartPending true) := by
  have isFull : u.link.uplinkFull = true := by
    rw [Link.uplinkFull, full]
    rfl
  unfold restartCommand
  rw [if_neg (not_not.mpr rfl)]
  exact if_pos isFull

theorem uplinkLeft_restarts {e : UplinkEntry} {s : State} (reply : e.isRestartReply = true)
    (pending : s.restartPending = true) : uplinkLeft e s = restartEffect s := if_pos ⟨reply, pending⟩

/-- Settles O21: each way to the effect moves the clock, the link and the mark, and then brings the values. -/
theorem restartTakesEffect : Obligations.RestartTakesEffect := by
  unfold Obligations.RestartTakesEffect
  intro s
  refine ⟨fun dt htx hrx hr full => ?_, fun b e rest sending queue reply hr => ⟨?_, fun dt => ?_⟩⟩
  · refine ⟨_, congrArg Host.Outcome.next ((requestArrives_listening (dt := dt) (payload := []) htx hrx (by decide)
      (Nat.zero_le _)).trans ((handleCommand_free _ _ (s.atCommand dt) hr).trans (restartCommand_full full))), ?_⟩
    exact restartValues_of rfl
  · have e : exec .trunkFrameSent s = .next (uplinkLeft e ((s.reach (checkSentAt b e.frame)).setLink
        { s.link with uplink := rest, trunk := { s.link.trunk with
          tx := .trailing (s.reach (checkSentAt b e.frame)).now
          lastChar := some (s.reach (checkSentAt b e.frame)).now } })) := by
      show execTrunkFrameSent s = _
      unfold execTrunkFrameSent
      rw [sending, queue]
      rfl
    rw [uplinkLeft_restarts reply (by exact hr)] at e
    exact ⟨_, e, restartValues_of rfl⟩
  · have e : exec (.collision dt) s = .next (uplinkLeft e ((s.advance dt).setLink { s.link.countCollision with
        uplink := rest, trunk := { rx := .waiting, tx := .idle, lastChar := some (s.now + dt) } })) := by
      show execCollision dt s = _
      unfold execCollision
      dsimp only
      rw [State.advance_link, sending, queue]
      rfl
    rw [uplinkLeft_restarts reply (by exact hr)] at e
    exact ⟨_, e, restartValues_of rfl⟩

end Sys2Proof.Machine
end


section
/-! Table Write (R188): which refusal a write meets, and what of it reaches the tables. -/

namespace Sys2Proof.Machine

/-! ### The entries of a write -/

theorem entriesOf_getElem? (size : Nat) {n j : Nat} (bs : List Byte) (h : j < n) :
    (entriesOf size n bs)[j]? = some ((bs.drop (size * j)).take size) := by
  induction n generalizing j bs with
  | zero => exact absurd h (Nat.not_lt_zero j)
  | succ n ih =>
    unfold entriesOf
    cases j with
    | zero => rw [Nat.mul_zero]; rfl
    | succ j =>
      rw [List.getElem?_cons_succ, ih _ (Nat.lt_of_succ_lt_succ h), List.drop_drop, Nat.mul_succ, Nat.add_comm size]

theorem mem_entriesOf (size : Nat) {n j : Nat} (bs : List Byte) (h : j < n) :
    (bs.drop (size * j)).take size ∈ entriesOf size n bs :=
  List.mem_of_getElem? (entriesOf_getElem? size bs h)

/-- A list of entries is refused whole where one is refused. -/
theorem mapM_eq_none {α β : Type} {f : α → Option β} {l : List α} {x : α} (hx : x ∈ l) (h : f x = none) :
    l.mapM f = none := by
  induction l with
  | nil => cases hx
  | cons a l ih =>
    rw [List.mapM_cons]
    obtain rfl | hx := List.mem_cons.mp hx
    · rw [h]
      rfl
    · rw [ih hx]
      cases f a <;> rfl

theorem CurveSel.ofCode_unknown {n : Nat} (h : 2 < n) : CurveSel.ofCode n = none := by
  unfold CurveSel.ofCode
  split
  case h_4 => rfl
  all_goals omega

/-- A channel map entry with a selector above 2 is refused (R145). -/
theorem ChanMapEntry.rawOfBytes_eq_none {bs : List Byte} (h : 2 < (bs.getD 0 0).toNat) :
    ChanMapEntry.rawOfBytes bs = none := by
  unfold ChanMapEntry.rawOfBytes
  rw [CurveSel.ofCode_unknown h]
  rfl

theorem getD_drop_take {bs : List Byte} {i size : Nat} (h : 0 < size) : ((bs.drop i).take size).getD 0 0 = bs.getD i 0 := by
  rw [List.getD_eq_getElem?_getD, List.getElem?_take_of_lt h, List.getElem?_drop, Nat.add_zero,
    ← List.getD_eq_getElem?_getD]

theorem storeRoute_refused {start : Nat} {entries : List (List Byte)} {e : List Byte} (he : e ∈ entries)
    (h : RouteEntry.ofBytes e = none) (u : State) : storeEntries 1 start entries u = none := by
  show storeRoute start entries u = none
  unfold storeRoute
  rw [mapM_eq_none he h]
  rfl

theorem storeChanMap_refused {start : Nat} {entries : List (List Byte)} {e : List Byte} (he : e ∈ entries)
    (h : ChanMapEntry.rawOfBytes e = none) (u : State) : storeEntries 4 start entries u = none := by
  show storeChanMap start entries u = none
  unfold storeChanMap
  rw [mapM_eq_none he h]
  rfl

/-! ### The checks of a write, in their order (R185, R188) -/

section
variable {id first : Byte} {data : List Byte} {u : State}

theorem tableWrite_badTable (h : tableEntries id.toNat = 0) : tableWrite (id :: first :: data) u = (u, [2]) := if_pos h

theorem tableWrite_badSize (known : tableEntries id.toNat ≠ 0)
    (h : data.length = 0 ∨ data.length % entryBytes id.toNat ≠ 0) : tableWrite (id :: first :: data) u = (u, [1]) :=
  (if_neg known).trans (if_pos h)

variable (known : tableEntries id.toNat ≠ 0) (whole : data.length ≠ 0 ∧ data.length % entryBytes id.toNat = 0)
include known whole

theorem tableWrite_badIndex (h : tableEntries id.toNat < first.toNat + data.length / entryBytes id.toNat) :
    tableWrite (id :: first :: data) u = (u, [3]) :=
  (if_neg known).trans ((if_neg (by tauto)).trans (if_pos h))

variable (inside : first.toNat + data.length / entryBytes id.toNat ≤ tableEntries id.toNat)
include inside

theorem tableWrite_locked (hm : u.mode = .running) (h : lockedInRunning id.toNat first.toNat = true) :
    tableWrite (id :: first :: data) u = (u, [5]) :=
  (if_neg known).trans ((if_neg (by tauto)).trans ((if_neg (Nat.not_lt.mpr inside)).trans (if_pos ⟨hm, h⟩)))

variable (unlocked : ¬(u.mode = .running ∧ lockedInRunning id.toNat first.toNat = true))
include unlocked

theorem tableWrite_badValue (h : storeEntries id.toNat first.toNat
    (entriesOf (entryBytes id.toNat) (data.length / entryBytes id.toNat) data) u = none) :
    tableWrite (id :: first :: data) u = (u, [4]) := by
  dsimp only [tableWrite]
  rw [if_neg known, if_neg (by tauto), if_neg (Nat.not_lt.mpr inside), if_neg unlocked, h]
  rfl

theorem tableWrite_stores {v : State} {count : Nat} (h : storeEntries id.toNat first.toNat
    (entriesOf (entryBytes id.toNat) (data.length / entryBytes id.toNat) data) u = some (v, count)) :
    tableWrite (id :: first :: data) u = (v, [0, byteOf count]) := by
  dsimp only [tableWrite]
  rw [if_neg known, if_neg (by tauto), if_neg (Nat.not_lt.mpr inside), if_neg unlocked, h]
  rfl

end

/-- Settles O29: the checks in their order, each with the first that fails. -/
theorem tableWriteRefusals : Obligations.TableWriteRefusals := by
  unfold Obligations.TableWriteRefusals
  intro s dt id first data h hr short
  have refused {code : Byte} (e : tableWrite (id :: first :: data) (s.atCommand dt) = (s.atCommand dt, [code])) :
      exec (.tableWrite dt (id :: first :: data)) s = .next (s.replied dt 0x82 [code]) :=
    congrArg Host.Outcome.next (requestArrives_replied (kind := 0x02#8) h hr (by decide)
      (payload := id :: first :: data) (Nat.add_le_add_right short 2) (congrArg (answer _) e))
  have known (low : 1 ≤ id.toNat) (high : id.toNat ≤ 9) : tableEntries id.toNat ≠ 0 := fun z => by
    have := (tableEntries_eq_zero_iff _).mp z
    omega
  have unlocked (table start : Nat) (hm : s.mode = .loading) :
      ¬((s.atCommand dt).mode = .running ∧ lockedInRunning table start = true) := fun k => by
    rw [State.atCommand_mode, hm] at k
    cases k.1
  refine ⟨fun unknown => ?_, fun low high size => ?_, fun low high some whole past => ?_, fun hm locked some whole inside =>
    ?_, ?route, ?chanMap, ?routes, ?chanMaps⟩
  · exact refused (tableWrite_badTable ((tableEntries_eq_zero_iff _).mpr (unknown.imp_left (congrArg BitVec.toNat))))
  · exact refused (tableWrite_badSize (known low high) (size.imp_left (congrArg List.length)))
  · exact refused (tableWrite_badIndex (known low high) ⟨fun z => some (List.length_eq_zero_iff.mp z), whole⟩ past)
  · have whole : data.length ≠ 0 ∧ data.length % entryBytes id.toNat = 0 :=
      ⟨fun z => some (List.length_eq_zero_iff.mp z), whole⟩
    obtain rfl | rfl | rfl | ⟨rfl, rfl⟩ := locked
    all_goals exact refused (tableWrite_locked (by decide) whole inside hm rfl)
  case route =>
    rintro rfl length inside bad
    have unlocked : ¬((s.atCommand dt).mode = .running ∧ lockedInRunning (1#8).toNat first.toNat = true) :=
      fun k => by cases k.2
    refine refused (tableWrite_badValue (by decide) (by rw [length]; decide) ?_ unlocked
      (storeRoute_refused (mem_entriesOf 8 data (j := 0) ?_) ?_ _))
    · rw [length]; exact inside
    · rw [length]; decide
    · rw [Nat.mul_zero, List.drop_zero, List.take_of_length_le length.le]
      exact bad
  case chanMap =>
    rintro rfl hm length inside bad
    refine refused (tableWrite_badValue (by decide) (by rw [length]; decide) ?_ (unlocked _ _ hm)
      (storeChanMap_refused (mem_entriesOf 5 data (j := 0) ?_) (ChanMapEntry.rawOfBytes_eq_none ?_) _))
    · rw [length]; exact inside
    · rw [length]; decide
    · rw [getD_drop_take (by decide)]
      exact bad
  case routes =>
    rintro rfl length inside bad
    have unlocked : ¬((s.atCommand dt).mode = .running ∧ lockedInRunning (1#8).toNat first.toNat = true) :=
      fun k => by cases k.2
    have fits : first.toNat + data.length / entryBytes (1#8).toNat ≤ tableEntries (1#8).toNat := by
      rw [length]
      exact Nat.succ_le_succ inside
    obtain bad | bad := bad
    · refine refused (tableWrite_badValue (by decide) (by rw [length]; decide) fits unlocked
        (storeRoute_refused (mem_entriesOf 8 data (j := 0) ?_) bad _))
      rw [length]; decide
    · refine refused (tableWrite_badValue (by decide) (by rw [length]; decide) fits unlocked
        (storeRoute_refused (mem_entriesOf 8 data (j := 1) ?_) ?_ _))
      · rw [length]; decide
      · rw [List.take_of_length_le (by rw [List.length_drop, length])]
        exact bad
  case chanMaps =>
    rintro j n rfl hm length inside hj bad
    have count : data.length / entryBytes (4#8).toNat = n := by
      rw [length]
      exact Nat.mul_div_cancel_left n (by decide)
    refine refused (tableWrite_badValue (by decide) ⟨by omega, ?_⟩ ?_ (unlocked _ _ hm)
      (storeChanMap_refused (mem_entriesOf 5 data (j := j) ?_) (ChanMapEntry.rawOfBytes_eq_none ?_) _))
    · rw [length]; exact Nat.mul_mod_right 5 n
    · rw [count]; exact inside
    · rw [count]; exact hj
    · rw [getD_drop_take (by decide)]
      exact bad

end Sys2Proof.Machine
end


section
/-! PROOF. The receivers: what a character does at a port, what the end of an exchange leaves, and the frames that are
discarded and abandoned (R161, R162, R165, R175 to R179). -/

namespace Sys2Proof.Machine

/-! ### A character at a port -/

/-- The state at the end of a character, `dt` after the event before, with the port's receiver at `rx`. -/
def State.heard (s : State) (dt : Nat) (p : Port) (rx : Rx) : State :=
  (s.advance dt).setLink (s.link.setPort p { rx := rx, tx := .idle, lastChar := some (s.now + dt) })

theorem charEnded_setRx {s : State} {p : Port} (dt : Nat) (idle : (s.link.port p).tx = .idle) (rx : Rx) :
    ((s.advance dt).charEnded p).setRx p rx = s.heard dt p rx := by
  cases p with
  | trunk => exact congrArg (fun x => (s.advance dt).setLink
      { s.link with trunk := { rx := rx, tx := x, lastChar := some (s.now + dt) } }) idle
  | door => exact congrArg (fun x => (s.advance dt).setLink
      { s.link with door := { rx := rx, tx := x, lastChar := some (s.now + dt) } }) idle

theorem heard_setRx (s : State) (dt : Nat) (p : Port) (rx rx' : Rx) :
    (s.heard dt p rx).setRx p rx' = s.heard dt p rx' := by cases p <;> rfl

theorem receiveChar_marked {s : State} {p : Port} (idle : (s.link.port p).tx = .idle) (d : Byte) :
    receiveChar p true d s = markedChar p d (s.charEnded p) := by
  unfold receiveChar
  exact (if_neg (not_not_intro idle)).trans (if_pos rfl)

theorem receiveChar_unmarked {s : State} {p : Port} (idle : (s.link.port p).tx = .idle) (d : Byte) :
    receiveChar p false d s = unmarkedChar p d (s.charEnded p) := by
  unfold receiveChar
  exact (if_neg (not_not_intro idle)).trans (if_neg Bool.false_ne_true)

theorem charEnded_rx (s : State) (p : Port) : ((s.charEnded p).link.port p).rx = (s.link.port p).rx := by
  cases p <;> rfl

theorem inside_iff (r : Rx) : r.inside = true ↔ r ≠ .waiting := by unfold Rx.inside; simp

/-- A frame completes at its port: a good one is classified, another is counted and lost (R162). -/
theorem frameComplete_eq {s : State} {dt : Nat} {p : Port} {f : Frame} (idle : (s.link.port p).tx = .idle) :
    (f.good = false → frameComplete p f ((s.advance dt).charEnded p) =
      frameLost p ((s.heard dt p .waiting).setLink ((s.heard dt p .waiting).link.countCheck p))) ∧
    (f.good = true → p = .trunk →
      frameComplete p f ((s.advance dt).charEnded p) = classifyTrunk f (s.heard dt p .waiting)) ∧
    (f.good = true → p = .door →
      frameComplete p f ((s.advance dt).charEnded p) = classifyDoor f (s.heard dt p .waiting)) := by
  unfold frameComplete
  dsimp only
  rw [charEnded_setRx dt idle]
  refine ⟨fun bad => if_neg (by simp [bad]), fun good h => ?_, fun good h => ?_⟩
  · subst h; exact if_pos good
  · subst h; exact if_pos good

theorem good_iff (f : Frame) : f.good = true ↔ f.check = frameCheck f.lead f.kind f.payload := by
  unfold Frame.good
  rw [decide_eq_true_iff]
  exact eq_comm

theorem good_eq_false_iff (f : Frame) : f.good = false ↔ f.check ≠ frameCheck f.lead f.kind f.payload := by
  rw [← Bool.not_eq_true, good_iff]

/-- A good frame at TRUNK is classified there. -/
theorem trunkFrame_good {s : State} {f : Frame} (dt : Nat) (idle : s.link.trunk.tx = .idle)
    (atCheck : s.link.trunk.rx = .atCheck f.lead f.kind f.payload)
    (good : f.check = frameCheck f.lead f.kind f.payload) :
    exec (.trunkFrameReceived dt f.check) s = .next (classifyTrunk f (s.heard dt .trunk .waiting)) :=
  (trunkFrameReceived_completes s dt f idle atCheck).trans
    (congrArg Host.Outcome.next ((frameComplete_eq (p := .trunk) idle).2.1 ((good_iff f).mpr good) rfl))

/-- A good frame at DOOR is classified there. -/
theorem doorFrame_good {s : State} {f : Frame} (dt : Nat) (idle : s.link.door.tx = .idle)
    (atCheck : s.link.door.rx = .atCheck f.lead f.kind f.payload)
    (good : f.check = frameCheck f.lead f.kind f.payload) :
    exec (.doorFrameReceived dt f.check) s = .next (classifyDoor f (s.heard dt .door .waiting)) :=
  (doorFrameReceived_completes s dt f idle atCheck).trans
    (congrArg Host.Outcome.next ((frameComplete_eq (p := .door) idle).2.2 ((good_iff f).mpr good) rfl))

/-- A frame at DOOR whose check fails is counted, and the candidate's exchange ends (R162, R177). -/
theorem doorFrame_bad {s : State} {f : Frame} (dt : Nat) (idle : s.link.door.tx = .idle)
    (atCheck : s.link.door.rx = .atCheck f.lead f.kind f.payload)
    (bad : f.check ≠ frameCheck f.lead f.kind f.payload) :
    exec (.doorFrameReceived dt f.check) s = .next (candidateBad
      ((s.heard dt .door .waiting).setLink ((s.heard dt .door .waiting).link.countCheck .door))) :=
  (doorFrameReceived_completes s dt f idle atCheck).trans
    (congrArg Host.Outcome.next ((frameComplete_eq (p := .door) idle).1 ((good_eq_false_iff f).mpr bad)))

theorem candidateBad_outside {s : State} (h : s.link.doorSide ≠ .taking) : candidateBad s = s := if_neg h

theorem candidateBad_taking {s : State} (h : s.link.doorSide = .taking) :
    candidateBad s = s.setLink (s.link.endWithNotice s.tables.general s.now noticeBadFrame) := if_pos h

/-! ### Discarded frames -/

theorem crcByte_eq (shift : Byte → Byte)
    (rule : ∀ r, shift r = if r.getLsbD 7 then (r <<< 1) ^^^ 7#8 else r <<< 1) :
    crcByte = fun r b => shift (shift (shift (shift (shift (shift (shift (shift (r ^^^ b)))))))) := by
  have same : crcShift = shift := by
    funext r
    rw [rule r]
    unfold crcShift
    rw [BitVec.msb_eq_getLsbD_last]
  funext r b
  unfold crcByte
  rw [same]

/-- Settles O32: a frame whose check fails is counted at its port, one of kind 7Fh at TRUNK, and nothing else. -/
theorem framesDiscarded : Obligations.FramesDiscarded := by
  unfold Obligations.FramesDiscarded
  refine ⟨fun s dt f => ⟨fun idle atCheck bad => ?_, fun idle atCheck good unknown => ?_,
    fun idle atCheck apart bad => ?_⟩, fun lead kind payload shift rule => ⟨?_, rfl⟩⟩
  · exact (trunkFrameReceived_completes s dt f idle atCheck).trans
      (congrArg Host.Outcome.next ((frameComplete_eq (p := .trunk) idle).1 ((good_eq_false_iff f).mpr bad)))
  · exact (trunkFrame_good dt idle atCheck good).trans (congrArg Host.Outcome.next (if_pos unknown))
  · exact (doorFrame_bad dt idle atCheck bad).trans (congrArg Host.Outcome.next (candidateBad_outside apart))
  · unfold frameCheck
    rw [crcByte_eq shift rule]
    rfl

/-! ### The end of an exchange -/

/-- The state at the moment `m` once the exchange over the link `l` has ended with the answer `a`. -/
def State.exchangeEnded (s : State) (m : Nat) (l : Link) (a : Frame) : State :=
  (s.setNow m).setLink (l.endExchange s.tables.general m a)

theorem exchangeEnded_keeps (s : State) (m : Nat) (l : Link) (a : Frame) :
    KeepsSetup s (s.exchangeEnded m l a) ∧ KeepsSenses s (s.exchangeEnded m l a) ∧ KeepsJobs s (s.exchangeEnded m l a) :=
  ⟨⟨rfl, rfl, rfl, rfl, rfl⟩, ⟨rfl, rfl, rfl⟩, rfl, rfl, rfl, rfl, rfl⟩

/-- What the head's leaving does to the door side (R175): the next frame is sent where DOOR is quiet. -/
theorem freeDoor_leaves (g : GeneralParams) (m : Nat) (l : Link) {h : RelayEntry} {rest : List RelayEntry}
    (queue : l.relay = h :: rest) :
    (l.freeDoor g m).relay = rest ∧
      (rest ≠ [] ∧ l.door.quietAt m →
        (l.freeDoor g m).doorSide = .sending ∧ (l.freeDoor g m).door = { l.door with tx := .sending m }) ∧
      (¬(rest ≠ [] ∧ l.door.quietAt m) → (l.freeDoor g m).doorSide = .free ∧ (l.freeDoor g m).door = l.door) ∧
      (l.freeDoor g m).flow = (if rest.length ≤ g.relaylow then .flowOpen else l.flow) := by
  have tail : l.relay.tail = rest := congrArg List.tail queue
  unfold Link.freeDoor
  rw [tail]
  refine ⟨by simp, fun ⟨waits, quiet⟩ => ?_, fun still => ?_, by simp [flowAfterRemoval_flow]⟩
  · exact ((kickDoor_leaves m (Link.flowAfterRemoval g { l with relay := rest, doorSide := .free })
      (by simpa using waits)).1 ⟨by simp, by simpa using quiet⟩).imp_right fun e => e.trans (by simp)
  · by_cases waits : rest = []
    · rw [kickDoor_empty _ _ (by simpa using waits)]
      exact ⟨by simp, by simp⟩
    · exact ((kickDoor_leaves m (Link.flowAfterRemoval g { l with relay := rest, doorSide := .free })
        (by simpa using waits)).2 fun k => still ⟨waits, by simpa using k.2⟩).imp
        (fun e => e.trans (by simp)) (fun e => e.trans (by simp))

/-- Everything the end of an exchange does to the link, in the statements' words (R173, R175 to R179). -/
theorem exchangeEnded_leaves (s : State) (m : Nat) (l : Link) (a : Frame) {h : RelayEntry} {rest : List RelayEntry}
    (queue : l.relay = h :: rest) (flow : l.flow = s.link.flow) (uplink : l.uplink = s.link.uplink)
    (count : l.trunkCount = s.link.trunkCount) (trunk : l.trunk = s.link.trunk) :
    (s.exchangeEnded m l a).link.relay = rest ∧
      (rest ≠ [] ∧ l.door.quietAt m → (s.exchangeEnded m l a).link.doorSide = .sending ∧
        (s.exchangeEnded m l a).link.door = { l.door with tx := .sending m }) ∧
      (¬(rest ≠ [] ∧ l.door.quietAt m) → (s.exchangeEnded m l a).link.doorSide = .free ∧
        (s.exchangeEnded m l a).link.door = l.door) ∧
      (s.exchangeEnded m l a).link.flow =
        (if rest.length ≤ s.tables.general.relaylow then .flowOpen else s.link.flow) ∧
      OffersUplink s (s.exchangeEnded m l a) a ∧ (s.exchangeEnded m l a).link.doorCount = l.doorCount := by
  obtain ⟨left, sends, stays, moves⟩ := freeDoor_leaves s.tables.general m (l.offerUplink m a false)
    (h := h) (rest := rest) (by simpa using queue)
  rw [offerUplink_door] at sends stays
  rw [offerUplink_flow, flow] at moves
  refine ⟨left, sends, stays, moves, ?_, ?_⟩
  · refine offerUplink_offers s _ a l m uplink count trunk ?_ ?_ ?_ rfl <;>
      simp [State.exchangeEnded, Link.endExchange, Link.freeDoor]
  · simp [State.exchangeEnded, Link.endExchange, Link.freeDoor]

/-- The same while DOOR's line is not quiet: the door side is FREE. -/
theorem exchangeEnded_noisy (s : State) (m : Nat) (l : Link) (a : Frame) {h : RelayEntry} {rest : List RelayEntry}
    (queue : l.relay = h :: rest) (flow : l.flow = s.link.flow) (uplink : l.uplink = s.link.uplink)
    (count : l.trunkCount = s.link.trunkCount) (trunk : l.trunk = s.link.trunk) (noisy : ¬l.door.quietAt m) :
    FreesDoor s (s.exchangeEnded m l a) rest ∧ (s.exchangeEnded m l a).link.door = l.door ∧
      OffersUplink s (s.exchangeEnded m l a) a ∧ (s.exchangeEnded m l a).link.doorCount = l.doorCount := by
  obtain ⟨left, -, stays, moves, offers, counts⟩ := exchangeEnded_leaves s m l a queue flow uplink count trunk
  obtain ⟨free, door⟩ := stays fun k => noisy k.2
  exact ⟨⟨left, free, moves⟩, door, offers, counts⟩

theorem endWithNotice_eq (g : GeneralParams) (m : Nat) (reason : Byte) {l : Link} {h : RelayEntry}
    {rest : List RelayEntry} (queue : l.relay = h :: rest) :
    l.endWithNotice g m reason = l.endExchange g m (relayNotice h.frame reason) := by
  unfold Link.endWithNotice; rw [queue]

/-- A line on which a character has just ended is not quiet (R163). -/
theorem not_quietAt_justHeard {p : PortState} {m : Nat} (h : p.lastChar = some m) : ¬p.quietAt m :=
  fun quiet => Bool.false_ne_true ((quiet_of_justHeard m p h).symm.trans ((quiet_iff p m).mpr quiet))

theorem not_quietAt_busy {p : PortState} {m : Nat} (h : p.tx ≠ .idle) : ¬p.quietAt m := fun quiet => h quiet.2.1

theorem not_quietAt_inside {p : PortState} {m : Nat} (h : p.rx ≠ .waiting) : ¬p.quietAt m := fun quiet => h quiet.1

end Sys2Proof.Machine
end


section
/-! PROOF. Frames abandoned, frames sent, and the reply window (R161 to R164, R173 to R179). -/

namespace Sys2Proof.Machine

/-! ### Frames abandoned -/

/-- FRAME_ABANDONED_MARK inside a frame: the frame is counted and lost, and the character begins the next. -/
theorem frameAbandonedMark_eq {s : State} {p : Port} (dt : Nat) (d : Byte) (idle : (s.link.port p).tx = .idle)
    (inside : (s.link.port p).rx ≠ .waiting) :
    exec (.frameAbandonedMark dt p d) s = .next (leadArrives p d
      (frameLost p ((s.heard dt p .waiting).setLink ((s.heard dt p .waiting).link.countMark p)))) := by
  refine congrArg Host.Outcome.next ((if_pos ((inside_iff _).mpr inside)).trans ?_)
  rw [receiveChar_marked (s := s.advance dt) idle]
  unfold markedChar
  rw [charEnded_rx, State.advance_link, if_pos ((inside_iff _).mpr inside)]
  unfold markInside
  dsimp only
  rw [charEnded_setRx dt idle]

/-- FRAME_ABANDONED_LONG at the length. -/
theorem frameAbandonedLong_eq {s : State} {p : Port} {lead kind : Byte} (dt : Nat) {d : Byte}
    (idle : (s.link.port p).tx = .idle) (atLength : (s.link.port p).rx = .atLength lead kind) (long : 24 < d.toNat) :
    exec (.frameAbandonedLong dt p d) s = .next
      (frameLost p ((s.heard dt p .waiting).setLink ((s.heard dt p .waiting).link.countLong p))) := by
  have takes : (((s.advance dt).link.port p).rx.isAtLength && decide (Config.maxPayload < d.toNat)) = true := by
    rw [State.advance_link, atLength]
    exact (Bool.true_and _).trans (decide_eq_true long)
  refine congrArg Host.Outcome.next ((if_pos takes).trans ?_)
  rw [receiveChar_unmarked (s := s.advance dt) idle]
  unfold unmarkedChar
  rw [charEnded_rx, State.advance_link, atLength]
  dsimp only
  rw [if_pos (show Config.maxPayload < d.toNat from long)]
  unfold lengthTooLong
  dsimp only
  rw [charEnded_setRx dt idle]

/-- The state once a pause at the moment `m` has cut short a frame in progress. -/
def State.paused (s : State) (m : Nat) (p : Port) (last : Nat) : State :=
  (s.setNow m).setLink ((s.link.setPort p { rx := .waiting, tx := .idle, lastChar := some last }).countGap p)

/-- FRAME_ABANDONED_GAP inside a frame. -/
theorem frameAbandonedGap_eq {s : State} {p : Port} {last m : Nat} (moment : m = max s.now (last + 3 * Config.tickChar))
    (idle : (s.link.port p).tx = .idle) (inside : (s.link.port p).rx ≠ .waiting)
    (heard : (s.link.port p).lastChar = some last) :
    exec (.frameAbandonedGap p) s = .next ((frameLost p (s.paused m p last)).setLink
      ((frameLost p (s.paused m p last)).link.kick p (frameLost p (s.paused m p last)).now)) := by
  refine congrArg Host.Outcome.next ((if_pos ((inside_iff _).mpr inside)).trans ?_)
  have after : (s.link.port p).afterLast 3 = last + 3 * Config.tickChar := by
    unfold PortState.afterLast; rw [heard]
  have closed : ({ s.link.port p with rx := .waiting } : PortState) =
      { rx := .waiting, tx := .idle, lastChar := some last } := by rw [← idle, ← heard]
  have paused : ((s.reach (last + 3 * Config.tickChar)).setRx p .waiting).setLink
      (((s.reach (last + 3 * Config.tickChar)).setRx p .waiting).link.countGap p) = s.paused m p last := by
    unfold State.paused
    rw [← closed, moment]
    cases p <;> rfl
  rw [after]
  unfold gapExpires
  dsimp only
  rw [paused]

/-- A line that has been still for 3 character times is quiet (R161, R163). -/
theorem quietAt_paused {now last m : Nat} (moment : m = max now (last + 3 * Config.tickChar)) :
    PortState.quietAt { rx := .waiting, tx := .idle, lastChar := some last } m :=
  ⟨rfl, rfl, fun c hc => by
    obtain rfl := Option.some.inj (Option.mem_def.mp hc)
    rw [moment]
    exact le_trans (Nat.add_le_add_left (Nat.mul_le_mul_right _ (by decide)) _) (le_max_right _ _)⟩

theorem frameAbandonedGap_trunk {s : State} {last m : Nat} (moment : m = max s.now (last + 3 * Config.tickChar))
    (idle : s.link.trunk.tx = .idle) (inside : s.link.trunk.rx ≠ .waiting) (heard : s.link.trunk.lastChar = some last) :
    exec (.frameAbandonedGap .trunk) s = .next { s with
      now := m
      link := { s.link with
        trunk := { rx := .waiting, tx := if s.link.uplink = [] then .idle else .sending m, lastChar := some last }
        trunkCount := { s.link.trunkCount with gap := min 65535 (s.link.trunkCount.gap + 1) } } } := by
  refine (frameAbandonedGap_eq (p := .trunk) moment idle inside heard).trans (congrArg Host.Outcome.next ?_)
  show (s.paused m .trunk last).setLink ((s.paused m .trunk last).link.kickTrunk m) = _
  by_cases empty : s.link.uplink = []
  · rw [kickTrunk_empty m (s.paused m .trunk last).link empty, if_pos empty]; rfl
  · have begins : (quiet m (s.paused m .trunk last).link.trunk && !(s.paused m .trunk last).link.uplink.isEmpty) =
        true := Bool.and_eq_true_iff.mpr ⟨(quiet_iff _ _).mpr (quietAt_paused moment),
          (Bool.not_eq_true' _).mpr (List.isEmpty_eq_false_iff.mpr empty)⟩
    unfold Link.kickTrunk
    rw [if_pos begins, if_neg empty]; rfl

theorem frameAbandonedGap_door {s : State} {last m : Nat} (moment : m = max s.now (last + 3 * Config.tickChar))
    (idle : s.link.door.tx = .idle) (inside : s.link.door.rx ≠ .waiting) (heard : s.link.door.lastChar = some last)
    (apart : s.link.doorSide ≠ .taking) :
    exec (.frameAbandonedGap .door) s =
      .next ((s.paused m .door last).setLink ((s.paused m .door last).link.kickDoor m)) := by
  have lost : frameLost .door (s.paused m .door last) = s.paused m .door last := candidateBad_outside apart
  refine (frameAbandonedGap_eq (p := .door) moment idle inside heard).trans ?_
  rw [lost]; rfl

theorem frameAbandonedGap_free {s : State} {last m : Nat} (moment : m = max s.now (last + 3 * Config.tickChar))
    (idle : s.link.door.tx = .idle) (inside : s.link.door.rx ≠ .waiting) (heard : s.link.door.lastChar = some last)
    (free : s.link.doorSide = .free) :
    exec (.frameAbandonedGap .door) s = .next { s with
      now := m
      link := { s.link with
        doorSide := if s.link.relay = [] then .free else .sending
        door := { rx := .waiting, tx := if s.link.relay = [] then .idle else .sending m, lastChar := some last }
        doorCount := { s.link.doorCount with gap := min 65535 (s.link.doorCount.gap + 1) } } } := by
  refine (frameAbandonedGap_door moment idle inside heard (by simp [free])).trans (congrArg Host.Outcome.next ?_)
  by_cases empty : s.link.relay = []
  · rw [kickDoor_empty m (s.paused m .door last).link empty, if_pos empty, if_pos empty, ← free]; rfl
  · have begins : (quiet m (s.paused m .door last).link.door && decide ((s.paused m .door last).link.doorSide = .free) &&
        !(s.paused m .door last).link.relay.isEmpty) = true :=
      Bool.and_eq_true_iff.mpr ⟨Bool.and_eq_true_iff.mpr ⟨(quiet_iff _ _).mpr (quietAt_paused moment),
        decide_eq_true free⟩, (Bool.not_eq_true' _).mpr (List.isEmpty_eq_false_iff.mpr empty)⟩
    unfold Link.kickDoor
    rw [if_pos begins, if_neg empty, if_neg empty]; rfl

theorem frameAbandonedGap_awaiting {s : State} {last m w : Nat} (moment : m = max s.now (last + 3 * Config.tickChar))
    (idle : s.link.door.tx = .idle) (inside : s.link.door.rx ≠ .waiting) (heard : s.link.door.lastChar = some last)
    (awaiting : s.link.doorSide = .awaiting w) :
    exec (.frameAbandonedGap .door) s = .next (s.paused m .door last) := by
  refine (frameAbandonedGap_door moment idle inside heard (by simp [awaiting])).trans (congrArg Host.Outcome.next ?_)
  have still : (s.paused m .door last).link.kickDoor m = (s.paused m .door last).link := by
    refine if_neg fun k => ?_
    obtain ⟨k, -⟩ := Bool.and_eq_true_iff.mp k
    cases awaiting.symm.trans (of_decide_eq_true (Bool.and_eq_true_iff.mp k).2)
  rw [still]; rfl

/-- A lead at TRUNK begins a frame, an unassigned one does not (R161). -/
theorem leadArrives_trunk (d : Byte) (u : State) :
    leadArrives .trunk d u = u.setRx .trunk (if d.toNat ≤ 63 then .atKind d else .waiting) := by
  unfold leadArrives
  by_cases h : d.toNat ≤ 63
  · rw [if_neg (by omega), if_pos h]
  · rw [if_pos (by omega), if_neg h]

/-- A lead at DOOR, outside AWAITING, likewise. -/
theorem leadArrives_door {u : State} (d : Byte) (h : u.link.doorSide.isAwaiting = false) :
    leadArrives .door d u = u.setRx .door (if d.toNat ≤ 63 then .atKind d else .waiting) := by
  have side : (u.setRx .door (.atKind d)).link.doorSide = u.link.doorSide := rfl
  unfold leadArrives
  by_cases lead : d.toNat ≤ 63
  · rw [if_neg (by omega), if_pos lead]
    dsimp only
    rw [side, h, Bool.false_and, if_neg Bool.false_ne_true]
  · rw [if_pos (by omega), if_neg lead]

/-- A lead at DOOR in AWAITING takes the candidate where it has the awaited address (R176). -/
theorem leadArrives_awaiting {u : State} {w : Nat} {h : RelayEntry} {rest : List RelayEntry} (d : Byte)
    (awaiting : u.link.doorSide = .awaiting w) (queue : u.link.relay = h :: rest) :
    leadArrives .door d u = u.setLink { u.link with
      doorSide := if d = h.frame.lead ∧ d.toNat ≤ 63 then .taking else .awaiting w
      door := { u.link.door with rx := if d.toNat ≤ 63 then .atKind d else .waiting } } := by
  have waits : (u.setRx .door (.atKind d)).link.doorSide.isAwaiting = true := by
    show u.link.doorSide.isAwaiting = true
    rw [awaiting]; rfl
  have address : (u.setRx .door (.atKind d)).link.awaitedAddress = some h.frame.lead := by
    show (u.link.relay.head?.map fun e => e.frame.lead) = _
    rw [queue]; rfl
  unfold leadArrives
  by_cases lead : d.toNat ≤ 63
  · rw [if_neg (by omega), if_pos lead]
    dsimp only
    rw [waits, address, Bool.true_and]
    by_cases same : d = h.frame.lead
    · rw [if_pos (decide_eq_true (congrArg some same.symm)), if_pos (And.intro same lead)]; rfl
    · rw [if_neg (fun k => same (Option.some.inj (of_decide_eq_true k)).symm), if_neg (fun k => same k.1), ← awaiting]
      rfl
  · rw [if_pos (by omega), if_neg lead, if_neg (fun k => lead k.2), ← awaiting]; rfl

/-- The candidate's end by a fault, over the link `l`, while the door side is TAKING (R177). -/
theorem candidateBad_ends {s : State} {m : Nat} {l : Link} {h : RelayEntry} {rest : List RelayEntry}
    (taking : l.doorSide = .taking) (queue : l.relay = h :: rest) :
    candidateBad ((s.setNow m).setLink l) = s.exchangeEnded m l (relayNotice h.frame noticeBadFrame) :=
  (candidateBad_taking taking).trans
    (congrArg (s.setNow m).setLink (endWithNotice_eq s.tables.general m noticeBadFrame queue))

/-- DOOR that has begun to send does not begin again. -/
theorem kickDoor_kickDoor (m : Nat) (l : Link) : (l.kickDoor m).kickDoor m = l.kickDoor m := by
  by_cases begins : (quiet m l.door && decide (l.doorSide = .free) && !l.relay.isEmpty) = true
  · have sends : l.kickDoor m = { l with doorSide := .sending, door := { l.door with tx := .sending m } } :=
      if_pos begins
    rw [sends]
    exact kickDoor_noisy m _ (quiet_of_busy m _ (by simp))
  · have still : l.kickDoor m = l := if_neg begins
    rw [still, still]

theorem frameAbandonedGap_taking {s : State} {last m : Nat} {h : RelayEntry} {rest : List RelayEntry}
    (moment : m = max s.now (last + 3 * Config.tickChar))
    (idle : s.link.door.tx = .idle) (inside : s.link.door.rx ≠ .waiting) (heard : s.link.door.lastChar = some last)
    (taking : s.link.doorSide = .taking) (queue : s.link.relay = h :: rest) :
    exec (.frameAbandonedGap .door) s =
      .next (s.exchangeEnded m (s.paused m .door last).link (relayNotice h.frame noticeBadFrame)) := by
  have lost : frameLost .door (s.paused m .door last) =
      s.exchangeEnded m (s.paused m .door last).link (relayNotice h.frame noticeBadFrame) :=
    candidateBad_ends taking queue
  refine (frameAbandonedGap_eq (p := .door) moment idle inside heard).trans (congrArg Host.Outcome.next ?_)
  rw [lost]
  exact congrArg (s.setNow m).setLink (kickDoor_kickDoor m _)

/-- A frame abandoned at DOOR by a mark while the door side is FREE. -/
theorem frameAbandonedMark_free {s : State} (dt : Nat) (d : Byte) (idle : s.link.door.tx = .idle)
    (inside : s.link.door.rx ≠ .waiting) (apart : s.link.doorSide ≠ .taking) :
    exec (.frameAbandonedMark dt .door d) s = .next (leadArrives .door d ((s.heard dt .door .waiting).setLink
      ((s.heard dt .door .waiting).link.countMark .door))) :=
  (frameAbandonedMark_eq (p := .door) dt d idle inside).trans
    (congrArg (fun u => Host.Outcome.next (leadArrives .door d u)) (candidateBad_outside apart))

/-- Settles O34: by the character that abandons the frame, the port, and at DOOR by the door side. -/
theorem framesAbandoned : Obligations.FramesAbandoned := by
  unfold Obligations.FramesAbandoned
  intro s dt last m d moment
  refine ⟨fun idle inside => ?_, fun lead kind idle atLength long => ?_, frameAbandonedGap_trunk moment,
    fun idle inside free => ?_, fun w h rest idle inside awaiting queue => ?_,
    fun lead kind idle atLength side long => ?_,
    fun idle inside free heard => frameAbandonedGap_free moment idle inside heard free,
    fun w idle inside awaiting heard => frameAbandonedGap_awaiting moment idle inside heard awaiting,
    fun lead kind h rest idle atLength taking long queue => ?_,
    fun h rest idle inside taking queue => ?_, fun h rest idle inside taking heard queue => ?_⟩
  · exact (frameAbandonedMark_eq (p := .trunk) dt d idle inside).trans
      (congrArg Host.Outcome.next (leadArrives_trunk d _))
  · exact frameAbandonedLong_eq (p := .trunk) dt idle atLength long
  · exact (frameAbandonedMark_free dt d idle inside (by simp [free])).trans
      (congrArg Host.Outcome.next (leadArrives_door d (congrArg DoorSide.isAwaiting free)))
  · exact (frameAbandonedMark_free dt d idle inside (by simp [awaiting])).trans
      (congrArg Host.Outcome.next (leadArrives_awaiting d awaiting queue))
  · refine (frameAbandonedLong_eq (p := .door) dt idle atLength long).trans
      (congrArg Host.Outcome.next (candidateBad_outside (show s.link.doorSide ≠ .taking from ?_)))
    rcases side with free | ⟨w, awaiting⟩
    · simp [free]
    · simp [awaiting]
  · obtain ⟨frees, door, offers, counts⟩ := exchangeEnded_noisy s (s.now + dt)
      ((s.heard dt .door .waiting).link.countLong .door) (relayNotice h.frame noticeBadFrame) queue rfl rfl rfl rfl
      (not_quietAt_justHeard rfl)
    exact ⟨_, (frameAbandonedLong_eq (p := .door) dt idle atLength long).trans
      (congrArg Host.Outcome.next (candidateBad_ends taking queue)), rfl, frees, offers, door, counts,
      exchangeEnded_keeps s _ _ _⟩
  · obtain ⟨frees, door, offers, counts⟩ := exchangeEnded_noisy s (s.now + dt)
      ((s.heard dt .door .waiting).link.countMark .door) (relayNotice h.frame noticeBadFrame) queue rfl rfl rfl rfl
      (not_quietAt_justHeard rfl)
    have ended : exec (.frameAbandonedMark dt .door d) s = .next (leadArrives .door d (s.exchangeEnded (s.now + dt)
        ((s.heard dt .door .waiting).link.countMark .door) (relayNotice h.frame noticeBadFrame))) :=
      (frameAbandonedMark_eq (p := .door) dt d idle inside).trans
        (congrArg (fun u => Host.Outcome.next (leadArrives .door d u)) (candidateBad_ends taking queue))
    have keeps := exchangeEnded_keeps s (s.now + dt) ((s.heard dt .door .waiting).link.countMark .door)
      (relayNotice h.frame noticeBadFrame)
    have now : (s.exchangeEnded (s.now + dt) ((s.heard dt .door .waiting).link.countMark .door)
        (relayNotice h.frame noticeBadFrame)).now = s.now + dt := rfl
    generalize s.exchangeEnded (s.now + dt) ((s.heard dt .door .waiting).link.countMark .door)
      (relayNotice h.frame noticeBadFrame) = t at *
    rw [leadArrives_door d (congrArg DoorSide.isAwaiting frees.2.1)] at ended
    exact ⟨_, ended, now, frees, offers,
      congrArg (fun x : PortState => { x with rx := if d.toNat ≤ 63 then .atKind d else .waiting }) door, counts, keeps⟩
  · obtain ⟨left, sends, stays, moves, offers, counts⟩ := exchangeEnded_leaves s m (s.paused m .door last).link
      (relayNotice h.frame noticeBadFrame) queue rfl rfl rfl rfl
    refine ⟨_, frameAbandonedGap_taking moment idle inside heard taking queue, rfl, left, ?_, moves, offers, ?_, counts,
      exchangeEnded_keeps s _ _ _⟩
    · by_cases empty : rest = []
      · rw [if_pos empty]; exact (stays fun k => k.1 empty).1
      · rw [if_neg empty]; exact (sends ⟨empty, quietAt_paused moment⟩).1
    · by_cases empty : rest = []
      · rw [if_pos empty]; exact (stays fun k => k.1 empty).2
      · rw [if_neg empty]; exact (sends ⟨empty, quietAt_paused moment⟩).2

end Sys2Proof.Machine
end


section
/-! PROOF. A frame reassembled from its characters, frames sent, collisions, and the reply window (R160 to R164, R173 to
R179). -/

namespace Sys2Proof.Machine

/-! ### A frame reassembled -/

theorem heard_heard (s : State) (a b : Nat) (p : Port) (rx rx' : Rx) :
    (s.heard a p rx).heard b p rx' = s.heard (a + b) p rx' := by
  cases p <;> simp [State.heard, State.advance, State.setNow, State.setLink, Nat.add_assoc]

/-- A character inside a frame at TRUNK moves its receiver to where the frame then stands (R161). -/
theorem characterReceived_moves {s : State} (dt : Nat) {d : Byte} {rx : Rx} (idle : s.link.trunk.tx = .idle)
    (moves : unmarkedChar .trunk d ((s.advance dt).charEnded .trunk) = ((s.advance dt).charEnded .trunk).setRx .trunk rx) :
    exec (.characterReceived dt .trunk false d) s = .next (s.heard dt .trunk rx) :=
  congrArg Host.Outcome.next ((receiveChar_unmarked (s := s.advance dt) (p := .trunk) idle d).trans
    (moves.trans (charEnded_setRx (p := .trunk) dt idle rx)))

/-- A lead at a waiting TRUNK (R161). -/
theorem characterReceived_lead {s : State} (dt : Nat) {d : Byte} (idle : s.link.trunk.tx = .idle)
    (waits : s.link.trunk.rx = .waiting) (lead : d.toNat ≤ 63) :
    exec (.characterReceived dt .trunk true d) s = .next (s.heard dt .trunk (.atKind d)) := by
  refine congrArg Host.Outcome.next ((receiveChar_marked (s := s.advance dt) (p := .trunk) idle d).trans ?_)
  have outside : ¬((s.advance dt).link.port .trunk).rx.inside = true := fun k => (inside_iff _).mp k waits
  unfold markedChar
  rw [charEnded_rx, if_neg outside, leadArrives_trunk, if_pos lead]
  exact charEnded_setRx (p := .trunk) dt idle _

theorem characterReceived_atKind {s : State} (dt : Nat) {d lead : Byte} (idle : s.link.trunk.tx = .idle)
    (stands : s.link.trunk.rx = .atKind lead) :
    exec (.characterReceived dt .trunk false d) s = .next (s.heard dt .trunk (.atLength lead d)) := by
  refine characterReceived_moves dt idle ?_
  unfold unmarkedChar
  rw [charEnded_rx, show ((s.advance dt).link.port .trunk).rx = _ from stands]

/-- The length at TRUNK: the payload follows, or at once the check (R161). -/
theorem characterReceived_atLength {s : State} (dt : Nat) {d lead kind : Byte} (idle : s.link.trunk.tx = .idle)
    (stands : s.link.trunk.rx = .atLength lead kind) (short : d.toNat ≤ 24) :
    exec (.characterReceived dt .trunk false d) s = .next (s.heard dt .trunk
      (if d.toNat = 0 then .atCheck lead kind [] else .inPayload lead kind d.toNat [])) := by
  refine characterReceived_moves dt idle ?_
  have fits : ¬Config.maxPayload < d.toNat := Nat.not_lt.mpr short
  unfold unmarkedChar
  rw [charEnded_rx, show ((s.advance dt).link.port .trunk).rx = _ from stands]
  dsimp only
  rw [if_neg fits]
  by_cases zero : d.toNat = 0
  · rw [if_pos zero, if_pos zero]
  · rw [if_neg zero, if_neg zero]

/-- A byte of the payload at TRUNK: the next follows, or the check (R161). -/
theorem characterReceived_inPayload {s : State} (dt : Nat) {d lead kind : Byte} {n : Nat} {got : List Byte}
    (idle : s.link.trunk.tx = .idle) (stands : s.link.trunk.rx = .inPayload lead kind n got) :
    exec (.characterReceived dt .trunk false d) s = .next (s.heard dt .trunk
      (if n ≤ got.length + 1 then .atCheck lead kind (got ++ [d]) else .inPayload lead kind n (got ++ [d]))) := by
  refine characterReceived_moves dt idle ?_
  unfold unmarkedChar
  rw [charEnded_rx, show ((s.advance dt).link.port .trunk).rx = _ from stands]
  dsimp only
  by_cases last : n ≤ got.length + 1
  · rw [if_pos last, if_pos last]
  · rw [if_neg last, if_neg last]

theorem run_step (M : Host.Core) {k : Nat} {s t : M.State} (h : M.step s = .next t) : M.run (k + 1) s = M.run k t := by
  rw [Host.Core.run, h]

/-- A run takes the first command of the queue, and goes on from what it leaves. -/
theorem run_succ {k : Nat} {c : Instr} {rest : List Instr} {s t : State}
    (h : exec c (s.setPending rest) = .next t) : core.run (k + 1) (s.setPending (c :: rest)) = core.run k t := run_step core h

/-- The row of an unmarked character at TRUNK. -/
def unmarkedAtTrunk (dt : Nat) (d : Byte) : Instr := .characterReceived dt .trunk false d

/-- The rest of a payload brings the receiver to the check (R161). -/
theorem run_payload {s : State} (dt : Nat) {lead kind : Byte} {n : Nat} (got rest : List Byte) (b : Byte)
    (idle : s.link.trunk.tx = .idle) (stands : s.link.trunk.rx = .inPayload lead kind n got)
    (length : n = got.length + (b :: rest).length) :
    core.run (b :: rest).length (s.setPending ((b :: rest).map (unmarkedAtTrunk dt))) =
      .next ((s.heard (dt * (b :: rest).length) .trunk (.atCheck lead kind (got ++ b :: rest))).setPending []) := by
  induction rest generalizing s got b with
  | nil =>
    rw [List.length_singleton] at length
    have ends := characterReceived_inPayload (s := s.setPending []) dt (d := b) idle stands
    rw [if_pos (Nat.le_of_eq length)] at ends
    rw [List.length_singleton, Nat.mul_one]
    exact run_succ ends
  | cons c cs ih =>
    rw [List.length_cons] at length
    have goes := characterReceived_inPayload
      (s := s.setPending ((c :: cs).map (unmarkedAtTrunk dt))) dt (d := b) idle stands
    rw [if_neg (by rw [length, List.length_cons]; omega)] at goes
    rw [List.length_cons]
    refine (run_succ goes).trans ?_
    have next := ih (s := s.heard dt .trunk (.inPayload lead kind n (got ++ [b]))) (got ++ [b]) c rfl rfl
      (by rw [length, List.length_append, List.length_singleton]; omega)
    rw [heard_heard, List.append_assoc] at next
    refine next.trans ?_
    rw [Nat.mul_succ, Nat.add_comm dt]
    rfl

theorem byteOf_toNat {n : Nat} (h : n ≤ 24) : (byteOf n).toNat = n := by
  unfold byteOf
  rw [BitVec.toNat_ofNat]
  omega

/-- Settles O35: the lead, the kind and the length one by one, and the payload by induction. -/
theorem frameReassembled : Obligations.FrameReassembled := by
  unfold Obligations.FrameReassembled
  intro s dt lead kind payload idle waits address short
  refine ⟨characterReceived_lead dt idle waits address, ?_⟩
  have length : (byteOf payload.length).toNat = payload.length := byteOf_toNat short
  refine (run_succ (k := payload.length + 2) (s := s)
    (rest := (kind :: byteOf payload.length :: payload).map (unmarkedAtTrunk dt))
    (characterReceived_lead (s := s.setPending _) dt idle waits address)).trans ?_
  refine (run_succ (k := payload.length + 1) (s := s.heard dt .trunk (.atKind lead))
    (rest := (byteOf payload.length :: payload).map (unmarkedAtTrunk dt))
    (characterReceived_atKind (s := (s.heard dt .trunk (.atKind lead)).setPending _) dt rfl rfl)).trans ?_
  have atLength := characterReceived_atLength (d := byteOf payload.length) (kind := kind) (lead := lead)
    (s := ((s.heard dt .trunk (.atKind lead)).heard dt .trunk (.atLength lead kind)).setPending
      (payload.map (unmarkedAtTrunk dt))) dt rfl rfl (by rw [length]; exact short)
  rw [length] at atLength
  refine (run_succ (k := payload.length) (rest := payload.map (unmarkedAtTrunk dt))
    (s := (s.heard dt .trunk (.atKind lead)).heard dt .trunk (.atLength lead kind)) atLength).trans ?_
  have done (k : Nat) : ((((s.heard dt .trunk (.atKind lead)).heard dt .trunk (.atLength lead kind)).heard dt .trunk
      (.inPayload lead kind payload.length [])).heard (dt * k) .trunk (.atCheck lead kind payload)) =
        s.heard (dt * (k + 3)) .trunk (.atCheck lead kind payload) := by
    rw [heard_heard, heard_heard, heard_heard]
    exact congrArg (fun m => s.heard m .trunk (.atCheck lead kind payload)) (by ring)
  cases payload with
  | nil => exact congrArg (fun t : State => Host.Outcome.next (t.setPending [])) (done 0)
  | cons b bs =>
    refine (run_payload dt (s := (((s.heard dt .trunk (.atKind lead)).heard dt .trunk (.atLength lead kind)).heard dt
      .trunk (.inPayload lead kind (b :: bs).length []))) [] bs b rfl rfl (Nat.zero_add _).symm).trans ?_
    exact congrArg (fun t : State => Host.Outcome.next (t.setPending [])) (done (b :: bs).length)

/-! ### Sending -/

/-- A line with nothing at the receiver and an idle driver is quiet 2 character times after its last character (R163). -/
theorem quiet_afterLast {p : PortState} {now last : Nat} (waits : p.rx = .waiting) (idle : p.tx = .idle)
    (heard : p.lastChar = some last) : quiet (max now (p.afterLast 2)) p = true := by
  refine (quiet_iff _ _).mpr ⟨waits, idle, fun c hc => ?_⟩
  obtain rfl := Option.some.inj (heard.symm.trans (Option.mem_def.mp hc))
  unfold PortState.afterLast
  rw [heard]
  exact le_max_right _ _

theorem afterLast_eq {p : PortState} {last : Nat} (heard : p.lastChar = some last) (n : Nat) :
    p.afterLast n = last + n * Config.tickChar := by unfold PortState.afterLast; rw [heard]

/-- Settles O36: each port's line is quiet at that moment, and a frame waits. -/
theorem sendingBegins : Obligations.SendingBegins := by
  unfold Obligations.SendingBegins
  intro s last m
  constructor
  · intro waits idle frame heard moment
    refine congrArg Host.Outcome.next ((if_pos ⟨waits, idle, frame⟩).trans ?_)
    dsimp only
    have begins : (quiet (max s.now (s.link.trunk.afterLast 2)) s.link.trunk && !s.link.uplink.isEmpty) = true :=
      Bool.and_eq_true_iff.mpr ⟨quiet_afterLast waits idle heard,
        (Bool.not_eq_true' _).mpr (List.isEmpty_eq_false_iff.mpr frame)⟩
    refine (congrArg (State.setLink _) (if_pos begins)).trans ?_
    rw [moment, ← afterLast_eq heard]; rfl
  · intro waits idle free frame heard moment
    refine congrArg Host.Outcome.next ((if_pos ⟨waits, idle, free, frame⟩).trans ?_)
    dsimp only
    have begins : (quiet (max s.now (s.link.door.afterLast 2)) s.link.door && decide (s.link.doorSide = .free) &&
        !s.link.relay.isEmpty) = true :=
      Bool.and_eq_true_iff.mpr ⟨Bool.and_eq_true_iff.mpr ⟨quiet_afterLast waits idle heard, decide_eq_true free⟩,
        (Bool.not_eq_true' _).mpr (List.isEmpty_eq_false_iff.mpr frame)⟩
    refine (congrArg (State.setLink _) (if_pos begins)).trans ?_
    rw [moment, ← afterLast_eq heard]; rfl

theorem checkSentAt_eq (start : Nat) (f : Frame) :
    checkSentAt start f = start + (5 + f.payload.length) * Config.tickChar := by
  unfold checkSentAt Frame.characters
  rw [Nat.add_comm f.payload.length 4, ← Nat.add_assoc]

/-- A frame that is not Restart's reply leaves the uplink queue, and nothing follows (R194). -/
theorem uplinkLeft_other {e : UplinkEntry} (s : State) (h : e.isRestartReply = false) : uplinkLeft e s = s :=
  if_neg fun k => Bool.false_ne_true (h.symm.trans k.1)

/-- The head leaves the relay queue while DOOR's line is not quiet (R173, R175). -/
theorem freeDoor_noisy (g : GeneralParams) {m : Nat} {l : Link} (h : quiet m l.door = false) :
    l.freeDoor g m = { l with
      relay := l.relay.tail, doorSide := .free
      flow := if l.relay.tail.length ≤ g.relaylow then .flowOpen else l.flow } := by
  unfold Link.freeDoor
  rw [kickDoor_noisy _ _ (by simpa using h)]
  unfold Link.flowAfterRemoval
  by_cases low : l.relay.tail.length ≤ g.relaylow
  · rw [if_pos low, if_pos low]
  · rw [if_neg low, if_neg low]

theorem trunkFrameSent_eq {s : State} {start : Nat} {e : UplinkEntry} {rest : List UplinkEntry}
    (sends : s.link.trunk.tx = .sending start) (queue : s.link.uplink = e :: rest) :
    exec .trunkFrameSent s = .next (uplinkLeft e ((s.reach (checkSentAt start e.frame)).setLink { s.link with
      uplink := rest
      trunk := { s.link.trunk with
        tx := .trailing (max s.now (checkSentAt start e.frame))
        lastChar := some (max s.now (checkSentAt start e.frame)) } })) := by
  show execTrunkFrameSent s = _
  unfold execTrunkFrameSent
  rw [sends, queue]; rfl

/-- The state of the DOOR port once a frame's check has been sent at the moment `m`. -/
def Link.doorTrails (l : Link) (m : Nat) : Link := { l with door := { l.door with tx := .trailing m, lastChar := some m } }

theorem doorFrameSent_eq {s : State} {start : Nat} {e : RelayEntry} {rest : List RelayEntry}
    (sends : s.link.door.tx = .sending start) (queue : s.link.relay = e :: rest) :
    exec .doorFrameSent s = .next ((s.reach (checkSentAt start e.frame)).setLink
      (if e.expectsReply = true then { s.link.doorTrails (max s.now (checkSentAt start e.frame)) with
          doorSide := .awaiting ((s.reach (checkSentAt start e.frame)).afterMs s.tables.general.doorwindow) }
        else (s.link.doorTrails (max s.now (checkSentAt start e.frame))).freeDoor s.tables.general
          (max s.now (checkSentAt start e.frame)))) := by
  show execDoorFrameSent s = _
  unfold execDoorFrameSent
  rw [sends, queue]; rfl

theorem driverEnableRelease_eq {s : State} {p : Port} {sent : Nat} (trails : (s.link.port p).tx = .trailing sent) :
    exec (.driverEnableRelease p) s = .next ((s.reach (sent + Config.tickChar)).setLink
      (s.link.setPort p { s.link.port p with tx := .idle, rx := .waiting })) := by
  show execDriverEnableRelease p s = _
  unfold execDriverEnableRelease
  rw [trails]; rfl

/-- Settles O37: by the port and, at DOOR, by whether the frame expects a reply. -/
theorem framesSent : Obligations.FramesSent := by
  unfold Obligations.FramesSent
  intro s start m
  refine ⟨fun e rest sends queue other moment => ?_, fun e rest sends queue expects moment => ?_,
    fun e rest sends queue ends moment => ?_, fun trails moment => ?_, fun trails moment => ?_⟩
  · rw [← checkSentAt_eq] at moment
    rw [trunkFrameSent_eq sends queue, uplinkLeft_other _ other, ← moment]
    exact congrArg (fun now => Host.Outcome.next ((s.setNow now).setLink _)) moment.symm
  · rw [← checkSentAt_eq] at moment
    rw [doorFrameSent_eq sends queue, if_pos expects, State.reach, ← moment]; rfl
  · rw [← checkSentAt_eq] at moment
    rw [doorFrameSent_eq sends queue, if_neg (by simp [ends]), State.reach, ← moment,
      freeDoor_noisy _ (quiet_of_busy m (s.link.doorTrails m).door nofun)]
    refine congrArg (fun l => Host.Outcome.next ((s.setNow m).setLink l)) ?_
    rw [show (s.link.doorTrails m).relay = e :: rest from queue]; rfl
  · rw [moment]; exact driverEnableRelease_eq (p := .trunk) trails
  · rw [moment]; exact driverEnableRelease_eq (p := .door) trails

/-- Settles O38. -/
theorem collisionLosesFrame : Obligations.CollisionLosesFrame := by
  unfold Obligations.CollisionLosesFrame
  intro s dt start e rest sends queue other
  have lost : exec (.collision dt) s = .next (uplinkLeft e ((s.advance dt).setLink { s.link.countCollision with
      uplink := rest, trunk := { rx := .waiting, tx := .idle, lastChar := some (s.now + dt) } })) := by
    show execCollision dt s = _
    unfold execCollision
    dsimp only
    rw [State.advance_link, sends, queue]; rfl
  rw [lost, uplinkLeft_other _ other]; rfl

/-! ### The reply window -/

/-- Settles O39: the exchange ends with the SILENT notice, and frees the door side. -/
theorem replyWindowRunsOut : Obligations.ReplyWindowRunsOut := by
  unfold Obligations.ReplyWindowRunsOut
  intro s w h rest awaiting queue
  have ended : exec .replyWindowExpiry s = .next (s.exchangeEnded (max s.now w) s.link.countSilent
      (relayNotice h.frame noticeSilent)) := by
    show execReplyWindowExpiry s = _
    unfold execReplyWindowExpiry
    rw [awaiting]
    dsimp only
    rw [State.reach_link, State.reach_now, endWithNotice_eq (l := s.link.countSilent) _ _ _ queue]
    rfl
  obtain ⟨left, sends, stays, moves, offers, counts⟩ := exchangeEnded_leaves s (max s.now w) s.link.countSilent
    (relayNotice h.frame noticeSilent) queue rfl rfl rfl rfl
  exact ⟨_, ended, rfl, left, sends, stays, moves, offers, counts, exchangeEnded_keeps s _ _ _⟩

/-- Settles O40: the lead begins a frame at DOOR, and has the awaited address. -/
theorem awaitedLeadTakes : Obligations.AwaitedLeadTakes := by
  unfold Obligations.AwaitedLeadTakes
  intro s dt w h rest awaiting queue address idle
  have row : exec (.awaitedLead dt) s = .next (receiveChar .door true h.frame.lead (s.advance dt)) := by
    have awaited : s.link.awaitedAddress = some h.frame.lead := by unfold Link.awaitedAddress; rw [queue]; rfl
    show execAwaitedLead dt s = _
    unfold execAwaitedLead
    dsimp only
    rw [State.advance_link, awaited, awaiting]; rfl
  have takes (u : State) (side : u.link.doorSide = .awaiting w) (head : u.link.relay = h :: rest) :=
    leadArrives_awaiting h.frame.lead side head
  refine row.trans (congrArg Host.Outcome.next ((receiveChar_marked (s := s.advance dt) (p := .door) idle _).trans ?_))
  unfold markedChar
  rw [charEnded_rx]
  by_cases waits : s.link.door.rx = .waiting
  · have outside : ¬((s.advance dt).link.port .door).rx.inside = true := fun k => (inside_iff _).mp k waits
    rw [if_neg outside, takes ((s.advance dt).charEnded .door) awaiting queue, if_pos address, if_pos (And.intro rfl address), if_pos waits, ← idle]; rfl
  · have inside : ((s.advance dt).link.port .door).rx.inside = true := (inside_iff _).mpr waits
    have lost : markInside .door ((s.advance dt).charEnded .door) =
        (s.heard dt .door .waiting).setLink ((s.heard dt .door .waiting).link.countMark .door) := by
      unfold markInside
      dsimp only
      rw [charEnded_setRx (p := .door) dt idle]
      exact candidateBad_outside (show s.link.doorSide ≠ _ by simp [awaiting])
    rw [if_pos inside, lost, takes ((s.heard dt .door .waiting).setLink ((s.heard dt .door .waiting).link.countMark .door)) awaiting queue,
      if_pos address, if_pos (And.intro rfl address), if_neg waits]; rfl

end Sys2Proof.Machine
end


section
/-! PROOF. Observations that age, and the sample of a channel (R134 to R142, R149). -/

namespace Sys2Proof.Machine

theorem ObsTable.get_set (o : ObsTable) (k j : ObsKind) (e : ObsEntry) :
    (o.set k e).get j = if j = k then e else o.get j := by
  cases k <;> cases j <;> rfl

theorem Channels.get_set (m : Channels) (c d : Chan) (x : Channel) :
    (m.set c x).get d = if d = c then x else m.get d := by
  cases c <;> cases d <;> rfl

/-- Settles O41: a NEVER entry stands, another is a second older and then tested against its limit. -/
theorem observationAges : Obligations.ObservationAges := by
  unfold Obligations.ObservationAges
  rintro s k e limit rfl rfl
  have tested : ((s.obs.get k).older.staleTest (s.tables.general.staleLimit k)) = { s.obs.get k with
      age := min 65535 ((s.obs.get k).age + 1), ageAt := (s.obs.get k).ageAt + Config.tickSecond
      st := if (s.obs.get k).st = .fresh ∧ s.tables.general.staleLimit k ≠ 0 ∧
        s.tables.general.staleLimit k ≤ min 65535 ((s.obs.get k).age + 1) then .stale else (s.obs.get k).st } := by
    by_cases due : (s.obs.get k).st = .fresh ∧ s.tables.general.staleLimit k ≠ 0 ∧
        s.tables.general.staleLimit k ≤ min 65535 ((s.obs.get k).age + 1)
    · rw [if_pos due]; exact if_pos due
    · rw [if_neg due]; exact if_neg due
  have second : ageSecond k s = { s with
      now := max s.now (s.obs.get k).ageAt
      obs := s.obs.set k ((s.obs.get k).older.staleTest (s.tables.general.staleLimit k)) } := rfl
  rw [tested] at second
  refine ⟨fun never => congrArg Host.Outcome.next (if_pos never),
    fun heard => congrArg Host.Outcome.next ((if_neg heard).trans second), fun fresh set reached small => ?_, rfl,
    fun x => ⟨(ObsTable.get_set _ k k x).trans (if_pos rfl), fun j other => (ObsTable.get_set _ k j x).trans (if_neg other)⟩⟩
  have age : min 65535 ((s.obs.get k).age + 1) = s.tables.general.staleLimit k := by omega
  have due : s.tables.general.staleLimit k ≤ min 65535 ((s.obs.get k).age + 1) := age.ge
  refine congrArg Host.Outcome.next ((if_pos ⟨fresh, set, due⟩).trans (second.trans ?_))
  rw [age, if_pos ⟨fresh, set, le_refl _⟩]

/-! ### A sample -/

theorem takeSample_fitted {t : Tables} {m : ChanMapEntry} (n : Nat) (c : Channel) (h : m.sel ≠ .noCurve) :
    c.takeSample t m n = { c.sampled m n with value := (c.sampled m n).valueFor t m (c.sampled m n).value } := if_neg h

theorem sampled_low {m : ChanMapEntry} {n : Nat} (c : Channel) (h : n < m.below) :
    c.sampled m n = { c.countRuns .low with range := (c.countRuns .low).nextRange } := by
  have low : classify m n = .low := if_pos h
  unfold Channel.sampled
  rw [low]; rfl

theorem sampled_high {m : ChanMapEntry} {n : Nat} (c : Channel) (h1 : m.below ≤ n) (h2 : m.above < n) :
    c.sampled m n = { c.countRuns .high with range := (c.countRuns .high).nextRange } := by
  have high : classify m n = .high := (if_neg (Nat.not_lt.mpr h1)).trans (if_pos h2)
  unfold Channel.sampled
  rw [high]; rfl

theorem sampled_inRange {m : ChanMapEntry} {n : Nat} (c : Channel) (h1 : m.below ≤ n) (h2 : n ≤ m.above) :
    c.sampled m n = { c.countRuns .inRange with
      range := (c.countRuns .inRange).nextRange
      history := (if c.history.length = 4 then c.history.tail else c.history) ++ [n] } := by
  have inRange : classify m n = .inRange := (if_neg (Nat.not_lt.mpr h1)).trans (if_neg (Nat.not_lt.mpr h2))
  unfold Channel.sampled
  rw [inRange]; rfl

/-- A sample leaves the value to the status at the end of the event (R139). -/
theorem sampled_value (m : ChanMapEntry) (n : Nat) (c : Channel) : (c.sampled m n).value = c.value := by
  unfold Channel.sampled
  cases classify m n <;> rfl

/-- The range state follows the runs as counted, from the state before the sample (R136). -/
theorem sampled_range (m : ChanMapEntry) (n : Nat) (c : Channel) :
    (c.sampled m n).range = (if c.range ≠ .low ∧ (c.sampled m n).lowRun = 4 then .low
      else if c.range ≠ .high ∧ (c.sampled m n).highRun = 4 then .high
      else if c.range = .unsettled ∧ (c.sampled m n).total = 4 then .settled
      else if (c.range = .low ∨ c.range = .high) ∧ (c.sampled m n).inRun = 4 then .settled
      else c.range) := by
  unfold Channel.sampled
  cases classify m n <;> rfl

theorem mean_eq (c : Channel) :
    c.mean = if c.history.length = 4 then some (c.history.sum / 4) else none := by
  unfold Channel.mean
  rw [List.sum_eq_foldl]

theorem channelStatus_eq (t : Tables) (m : ChanMapEntry) (c : Channel) :
    channelStatus t m c = (if m.sel = .noCurve then .notFitted
      else if curveValid (t.curve m.sel) = false then .noCurve
      else if c.range = .unsettled then .settling else if c.range = .settled then .ok
      else if c.range = .low then .below else .above) := by
  unfold channelStatus
  by_cases fitted : m.sel = .noCurve
  · rw [if_pos fitted, if_pos fitted]
  · rw [if_neg fitted, if_neg fitted]
    cases curveValid (t.curve m.sel)
    · rfl
    · cases c.range <;> rfl

/-- The value of a fitted channel, by its curve and its range state (R139). -/
theorem valueFor_eq {t : Tables} {m : ChanMapEntry} (held : Option Int) (c : Channel) (fitted : m.sel ≠ .noCurve) :
    (curveValid (t.curve m.sel) = false ∨ c.range = .unsettled → c.valueFor t m held = none) ∧
    (curveValid (t.curve m.sel) = true → c.range = .low ∨ c.range = .high → c.valueFor t m held = held) ∧
    (curveValid (t.curve m.sel) = true → c.range = .settled →
      c.valueFor t m held =
        if c.history.length = 4 then convert (c.history.sum / 4) (t.curve m.sel) else none) := by
  unfold Channel.valueFor
  rw [channelStatus_eq, if_neg fitted]
  refine ⟨fun h => ?_, fun valid h => ?_, fun valid h => ?_⟩
  · by_cases bad : curveValid (t.curve m.sel) = false
    · rw [if_pos bad]
    · rw [if_neg bad, if_pos (h.resolve_left bad)]
  · rw [valid, if_neg Bool.true_eq_false.mp]
    rcases h with h | h <;> rw [h] <;> rfl
  · rw [valid, if_neg Bool.true_eq_false.mp, h]
    show c.mean.bind _ = _
    rw [mean_eq]
    by_cases full : c.history.length = 4
    · rw [if_pos full, if_pos full]; rfl
    · rw [if_neg full, if_neg full]; rfl

/-- Settles O42: by the class of the sample, and the value by the status it leaves. -/
theorem sampleMovesChannel : Obligations.SampleMovesChannel := by
  unfold Obligations.SampleMovesChannel
  refine ⟨?_, ?_⟩
  · rintro s dt c n m x rfl rfl
    have row : exec (.sampleCompletion dt c n) s = .next { s with
        now := s.now + dt
        temps := s.temps.set c ((s.temps.get c).takeSample s.tables (s.tables.chanMap.get c) n.toNat) } := rfl
    refine ⟨fun none => ?_, fun fitted => ⟨_, row, ?_⟩⟩
    · have discarded : (s.temps.get c).takeSample s.tables (s.tables.chanMap.get c) n.toNat = s.temps.get c :=
        if_pos none
      rw [row, discarded]
      cases c <;> rfl
    · rw [takeSample_fitted _ _ fitted]
      obtain ⟨unvalued, held, settled⟩ := valueFor_eq (t := s.tables)
        ((s.temps.get c).sampled (s.tables.chanMap.get c) n.toNat).value
        ((s.temps.get c).sampled (s.tables.chanMap.get c) n.toNat) fitted
      refine ⟨fun low => ?_, fun above high => ?_, fun above below => ?_, sampled_range _ _ _, unvalued,
        fun valid range => (held valid range).trans (sampled_value _ _ _), settled⟩
      · rw [sampled_low _ low]
        exact ⟨rfl, rfl, rfl, rfl, rfl⟩
      · rw [sampled_high _ above high]
        exact ⟨rfl, rfl, rfl, rfl, rfl⟩
      · rw [sampled_inRange _ above below]
        exact ⟨rfl, rfl, rfl, rfl, by rw [List.drop_one]⟩
  · rintro s c m x rfl rfl
    exact ⟨channelStatus_eq _ _ _, rfl, mean_eq _, fun y => ⟨(Channels.get_set _ c c y).trans (if_pos rfl),
      fun d other => (Channels.get_set _ c d y).trans (if_neg other)⟩⟩

end Sys2Proof.Machine
end


section
/-! PROOF. The defrost second: its counts and the test of each state (chapters 1 and 2). -/

namespace Sys2Proof.Machine

/-! ### The readings -/

theorem readsOpen_iff (e : ObsEntry) : e.readsOpen = true ↔ e.st = .fresh ∧ e.value ≠ 0 := by
  unfold ObsEntry.readsOpen; simp

theorem freshOff_iff (e : ObsEntry) : e.freshOff = true ↔ e.st = .fresh ∧ e.value = 0 := by
  unfold ObsEntry.freshOff; simp

theorem readsRunning_iff (e : ObsEntry) : e.readsRunning = true ↔ ¬(e.st = .fresh ∧ e.value = 0) := by
  unfold ObsEntry.readsRunning; simp [imp_iff_not_or]

/-- The frost units of a second, from the entries themselves (R3, R158). -/
theorem accrual_eq (s : State) : s.accrual =
    (if s.obs.compressor.st = .fresh ∧ s.obs.compressor.value = 0 then 0 else s.tables.defrost.runw) +
      (if s.obs.fzdoor.st = .fresh ∧ s.obs.fzdoor.value ≠ 0 then s.tables.defrost.doorfw else 0) +
      (if s.obs.ffdoor.st = .fresh ∧ s.obs.ffdoor.value ≠ 0 then s.tables.defrost.doorrw else 0) := by
  unfold State.accrual
  simp only [readsOpen_iff, readsRunning_iff, ite_not]

/-! ### The counts -/

section
variable {s : State}

theorem defrostCounts_accrue (h : s.defrost.st = .accrue) : defrostCounts s =
    (s.reach s.defrost.secondAt).setDefrost { s.defrost with
      secondAt := s.defrost.secondAt + Config.tickSecond
      estimate := min 16777215 (s.defrost.estimate + s.accrual)
      capElapsed := min 3932100 (s.defrost.capElapsed + 1)
      stateTime := min 65535 (s.defrost.stateTime + 1) } := by
  unfold defrostCounts
  dsimp only
  rw [if_pos (.inl h), if_pos h, if_neg (by simp [h]), if_neg (by simp [h])]
  rfl

theorem defrostCounts_due (h : s.defrost.st = .due) : defrostCounts s =
    (s.reach s.defrost.secondAt).setDefrost { s.defrost with
      secondAt := s.defrost.secondAt + Config.tickSecond
      estimate := min 16777215 (s.defrost.estimate + s.accrual)
      capElapsed := min 3932100 (s.defrost.capElapsed + 1)
      cycleTime := min 65535 (s.defrost.cycleTime + 1)
      stateTime := min 65535 (s.defrost.stateTime + 1)
      timeInDue := min 65535 (s.defrost.timeInDue + 1) } := by
  unfold defrostCounts
  dsimp only
  rw [if_pos (.inr h), if_neg (by simp [h]), if_pos h, if_neg (by simp [h])]
  rfl

/-- A second of a heat whose heater is on. -/
theorem defrostCounts_heating (h : s.defrost.st = .heat) (on : s.gate.heaterOn .dh = true) : defrostCounts s =
    (s.reach s.defrost.secondAt).setDefrost { s.defrost with
      secondAt := s.defrost.secondAt + Config.tickSecond
      capElapsed := min 3932100 (s.defrost.capElapsed + 1)
      cycleTime := min 65535 (s.defrost.cycleTime + 1)
      stateTime := min 65535 (s.defrost.stateTime + 1)
      heaterOn := s.defrost.heaterOn + 1 } := by
  unfold defrostCounts
  dsimp only
  have apart (x : DefrostState) (hx : x = .accrue ∨ x = .due) : s.defrost.st ≠ x := by
    rcases hx with rfl | rfl <;> simp [h]
  rw [if_neg (not_or_intro (apart .accrue (by simp)) (apart .due (by simp))), if_neg (apart .accrue (by simp)),
    if_neg (apart .due (by simp)), if_pos (And.intro h on)]
  rfl

/-- A second of a cycle outside DUE and HEAT. -/
theorem defrostCounts_cycle (h : s.defrost.st = .hold ∨ s.defrost.st = .drip ∨ s.defrost.st = .recover) :
    defrostCounts s = (s.reach s.defrost.secondAt).setDefrost { s.defrost with
      secondAt := s.defrost.secondAt + Config.tickSecond
      capElapsed := min 3932100 (s.defrost.capElapsed + 1)
      cycleTime := min 65535 (s.defrost.cycleTime + 1)
      stateTime := min 65535 (s.defrost.stateTime + 1) } := by
  have apart (x : DefrostState) (hx : x = .accrue ∨ x = .due ∨ x = .heat) : s.defrost.st ≠ x := by
    rcases h with h | h | h <;> rcases hx with rfl | rfl | rfl <;> simp [h]
  unfold defrostCounts
  dsimp only
  rw [if_neg (not_or_intro (apart .accrue (by simp)) (apart .due (by simp))), if_neg (apart .accrue (by simp)),
    if_neg (apart .due (by simp)), if_neg fun k => apart .heat (by simp) k.1]
  rfl

/-- The counts leave the defrost state, and everything outside the defrost controller and the clock. -/
theorem defrostCounts_keeps (s : State) : (defrostCounts s).defrost.st = s.defrost.st ∧
    (defrostCounts s).now = max s.now s.defrost.secondAt ∧ (defrostCounts s).ice = s.ice ∧
    (defrostCounts s).disp = s.disp ∧ (defrostCounts s).line = s.line ∧ (defrostCounts s).gate = s.gate ∧
    (defrostCounts s).link = s.link ∧ KeepsSetup s (defrostCounts s) ∧ KeepsSenses s (defrostCounts s) :=
  ⟨rfl, rfl, rfl, rfl, rfl, rfl, rfl, ⟨rfl, rfl, rfl, rfl, rfl⟩, rfl, rfl, rfl⟩

/-! ### The second and its test -/

/-- DEFROST_SECOND in a state that makes its test. -/
theorem defrostSecond_row (running : s.mode = .running) (tests : s.forcedTogether = false) :
    exec .defrostSecond s = .next (defrostTest (defrostCounts s)) :=
  (exec_defrostSecond s running).trans (congrArg Host.Outcome.next (defrostSecond_tests tests))

/-- A row named after a defrost second's outcome is that second (log 3). -/
theorem defrostEnding_row {st : DefrostState} {ended : State → Bool} (running : s.mode = .running)
    (h : s.defrost.st = st) (tests : s.forcedTogether = false) (ends : ended (defrostCounts s) = true) :
    defrostEndingSecond st ended s = defrostTest (defrostCounts s) :=
  (defrostEndingSecond_eq st ended s running h tests ends).trans (defrostSecond_tests tests)

end

section
variable {u : State}

theorem defrostTest_accrue (h : u.defrost.st = .accrue) : defrostTest u = accrueTest u := by
  unfold defrostTest; rw [h]
theorem defrostTest_due (h : u.defrost.st = .due) : defrostTest u = dueTest u := by unfold defrostTest; rw [h]
theorem defrostTest_hold (h : u.defrost.st = .hold) : defrostTest u = holdTest u := by unfold defrostTest; rw [h]
theorem defrostTest_heat (h : u.defrost.st = .heat) : defrostTest u = heatTest u := by unfold defrostTest; rw [h]
theorem defrostTest_drip (h : u.defrost.st = .drip) : defrostTest u = dripTest u := by unfold defrostTest; rw [h]
theorem defrostTest_recover (h : u.defrost.st = .recover) : defrostTest u = recoverTest u := by
  unfold defrostTest; rw [h]

theorem accrueTest_estimate (h : u.defrost.thr ≤ u.defrost.estimate) : accrueTest u = startCycle .estimate .due u :=
  if_pos (decide_eq_true h)

theorem accrueTest_cap (h : u.defrost.estimate < u.defrost.thr)
    (cap : u.tables.defrost.cap * 3600 ≤ u.defrost.capElapsed) : accrueTest u = startCycle .cap .due u :=
  (if_neg (by simpa [State.estimateReached] using h)).trans (if_pos (decide_eq_true cap))

theorem accrueTest_stands (h : u.defrost.estimate < u.defrost.thr)
    (cap : u.defrost.capElapsed < u.tables.defrost.cap * 3600) : accrueTest u = u :=
  (if_neg (by simpa [State.estimateReached] using h)).trans (if_neg (by simpa [State.capReached] using cap))

/-- What defers a cycle in DUE (R28). -/
theorem defers_iff (u : State) : u.defers = true ↔ (u.obs.fzdoor.st = .fresh ∧ u.obs.fzdoor.value ≠ 0) ∨
    u.disp.st = .pour ∨ u.disp.st = .deliver ∨ u.ice.st = .harvestHeat ∨ u.ice.st = .harvestRake := by
  unfold State.defers State.doorReadsOpen
  simp only [Bool.or_eq_true, decide_eq_true_iff, readsOpen_iff, or_assoc]

theorem dueTest_ends (h : u.tables.defrost.defermax ≤ u.defrost.timeInDue ∨ u.defers = false) :
    dueTest u = enterDefrost .hold u :=
  if_pos (by
    rw [Bool.or_eq_true, Bool.not_eq_true']
    exact h.imp_left decide_eq_true)

theorem dueTest_stands (h : u.defrost.timeInDue < u.tables.defrost.defermax) (defers : u.defers = true) :
    dueTest u = u :=
  if_neg (by simpa [State.deferLong, defers] using h)

/-- The end of HOLD, by the compressor's reading or by COMPWAIT (R30). -/
theorem holdTest_ends {held : Bool} (h : (held = true ∧ u.obs.compressor.st = .fresh ∧ u.obs.compressor.value = 0) ∨
    (held = false ∧ ¬(u.obs.compressor.st = .fresh ∧ u.obs.compressor.value = 0) ∧
      u.tables.defrost.compwait ≤ u.defrost.stateTime)) : holdTest u = enterHeat held u := by
  unfold holdTest
  rcases h with ⟨rfl, off⟩ | ⟨rfl, on, long⟩
  · exact if_pos ((freshOff_iff _).mpr off)
  · exact (if_neg (mt (freshOff_iff _).mp on)).trans (if_pos (decide_eq_true long))

theorem dripTest_ends (h : u.tables.defrost.driptime ≤ u.defrost.stateTime) :
    dripTest u = enterDefrost .recover u := if_pos (decide_eq_true h)

/-- The fan delay ends at a cold coil or by FANMAX (R35). -/
theorem recoverTest_ends (h : (∃ temp, u.usable .evap = some temp ∧ temp ≤ u.tables.defrost.fantemp) ∨
    u.tables.defrost.fanmax ≤ u.defrost.stateTime) : recoverTest u = u.setDefrost u.defrost.complete := by
  refine if_pos ((Bool.or_eq_true _ _).mpr (h.imp ?_ decide_eq_true))
  rintro ⟨temp, usable, cold⟩
  unfold State.coilCold
  rw [usable]
  exact decide_eq_true cold

end

/-- Settles O43: the counts of each of the two states, whose test finds nothing. -/
theorem defrostSecondAccrues : Obligations.DefrostSecondAccrues := by
  unfold Obligations.DefrostSecondAccrues
  rintro s a running rfl
  refine ⟨fun accrue below uncapped => ?_, fun due short defers => ?_, accrual_eq s⟩
  · rw [← accrual_eq] at below ⊢
    rw [defrostSecond_row running (forcedTogether_of_ne (by simp [accrue])), defrostTest_accrue (u := defrostCounts s) accrue,
      defrostCounts_accrue accrue, accrueTest_stands below uncapped]
    rfl
  · rw [← accrual_eq]
    have deferred : (defrostCounts s).defers = true := (defers_iff _).mpr defers
    rw [defrostCounts_due due] at deferred
    rw [defrostSecond_row running (forcedTogether_of_ne (by simp [due])), defrostTest_due (u := defrostCounts s) due,
      defrostCounts_due due, dueTest_stands short deferred]
    rfl

/-- Settles O44: the trigger test after the counts. -/
theorem triggersEnterDue : Obligations.TriggersEnterDue := by
  unfold Obligations.TriggersEnterDue
  rintro s e running accrue rfl
  have tests := forcedTogether_of_ne (s := s) (by simp [accrue])
  have second := defrostSecond_row running tests
  have capRow (cap : s.tables.defrost.cap * 3600 ≤ min 3932100 (s.defrost.capElapsed + 1)) :
      exec .capReached s = .next (defrostTest (defrostCounts s)) :=
    congrArg Host.Outcome.next (defrostEnding_row (ended := State.capReached) running accrue tests (decide_eq_true cap))
  rw [defrostTest_accrue (u := defrostCounts s) accrue] at second capRow
  refine ⟨fun reached => ?_, fun _ cap => (capRow cap).trans second.symm, fun below cap => ?_⟩
  · rw [second, defrostCounts_accrue accrue, accrueTest_estimate reached]
    rfl
  · rw [capRow cap, defrostCounts_accrue accrue, accrueTest_cap below cap]
    rfl

/-! ### The start of the heat -/

/-- What HEAT's entry leaves, and the request for DH it makes (R30, R31). -/
theorem enterHeat_leaves (held : Bool) (s : State) :
    (enterHeat held s).defrost.st = .heat ∧ (enterHeat held s).defrost.stateTime = 0 ∧
      (enterHeat held s).defrost.compHeld = held ∧ (enterHeat held s).defrost.heaterOn = 0 ∧
      (enterHeat held s).defrost.estimate = s.defrost.estimate ∧ (enterHeat held s).gate.reqState .dh ≠ .noRequest ∧
      (s.gate.reqState .dh = .noRequest → (enterHeat held s).defrost.heatBegun = (enterHeat held s).drives.dh) ∧
      Shell s (enterHeat held s) := by
  refine ⟨?_, ?_, ?_, ?_, ?_, requestOutput_requested .dh _ (.inl (by decide)), enterHeat_begun s held,
    (setDefrost_shell s _).trans (requestOutput_frame .dh _).shell⟩ <;> simp [enterHeat]

/-- HM and the heat-begun mark after DH has been GRANTED in HEAT, by the state `s` before (R31, R130). -/
theorem settleHm_grantedDh {s u : State} (heat : u.defrost.st = .heat) (unbegun : u.defrost.heatBegun = false)
    (granted : u.gate.granted.dh = true) (hm : u.gate.hm = s.gate.hm) (tables : u.tables = s.tables)
    (now : u.now = s.now) :
    settleHm u = (u.setGate { u.gate with hm := s.hmOnGrant s.now }).setDefrost
      { u.defrost with heatBegun := decide (s.hmOnGrant s.now = .hmClosed) } := by
  have heaters : u.gate.heaterGranted = true := by simp [Gate.heaterGranted, granted]
  have same : u.defrost = { u.defrost with heatBegun := false } := by rw [← unbegun]
  have settled : settledHm u = s.hmOnGrant s.now := by rw [settledHm_granted s u heaters hm tables, now]
  have on : (u.setGate { u.gate with hm := s.hmOnGrant s.now }).gate.heaterOn .dh =
      decide (s.hmOnGrant s.now = .hmClosed) := by
    show (u.gate.granted.dh && _) = _
    rw [granted, Bool.true_and]; rfl
  unfold settleHm
  rw [settled]
  unfold markHeatBegun
  rw [on]
  by_cases closed : s.hmOnGrant s.now = .hmClosed
  · rw [decide_eq_true closed]
    exact if_pos ⟨heat, rfl⟩
  · rw [decide_eq_false closed, if_neg fun k => Bool.false_ne_true k.2, ← same]
    rfl

/-- HEAT's entry where DH is GRANTED in that event: HM moves by its state, and the heat has begun where HM is CLOSED
(R31, R125, R130). -/
theorem enterHeat_granted (held : Bool) {s : State} (none : s.gate.reqState .dh = .noRequest) (empty : s.gate.wait = [])
    (fits : s.gate.weightInUse .dh ≤ s.gate.budgetFree) :
    enterHeat held s = { s with
      gate := { s.gate with granted := { s.gate.granted with dh := true }, hm := s.hmOnGrant s.now }
      defrost := { s.defrost with
        st := .heat, stateTime := 0, compHeld := held, heaterOn := 0
        heatBegun := decide (s.hmOnGrant s.now = .hmClosed) } } := by
  have gate : ({ s.gate with granted := { s.gate.granted with dh := true }, wait := [] } : Gate) =
      { s.gate with granted := { s.gate.granted with dh := true } } := by rw [← empty]
  refine (requestOutput_alone .dh (s.setDefrost { s.defrost with
    st := .heat, stateTime := 0, compHeld := held, heaterOn := 0, heatBegun := false }) none empty fits).trans ?_
  refine Eq.trans (settleHm_grantedDh (s := s) rfl rfl rfl rfl rfl rfl) ?_
  exact congrArg (fun g : Gate => { s with
    gate := { g with hm := s.hmOnGrant s.now }
    defrost := { s.defrost with
      st := .heat, stateTime := 0, compHeld := held, heaterOn := 0
      heatBegun := decide (s.hmOnGrant s.now = HmState.hmClosed) } }) gate

theorem forcedTogether_eq (s : State) : s.forcedTogether = decide (s.defrost.st = .hold ∧ s.defrost.trigger = .forced ∧
    s.defrost.stateTime = 0 ∧ s.defrost.startedAt = max s.now s.defrost.secondAt) := by
  unfold State.forcedTogether
  simp only [Bool.decide_and, Bool.and_assoc]

/-- Settles O45: the end of DUE, the end of HOLD, and the second that falls together with a DEFROST NOW. -/
theorem dueAndHoldEnd : Obligations.DueAndHoldEnd := by
  unfold Obligations.DueAndHoldEnd
  intro s running
  have counts := defrostCounts_keeps s
  obtain ⟨-, now, ice, disp, line, gate, link, setup, senses⟩ := counts
  have enters {held : Bool} (hold : s.defrost.st = .hold) :
      (enterHeat held (defrostCounts s)).defrost.st = .heat ∧
        (enterHeat held (defrostCounts s)).defrost.stateTime = 0 ∧
        (enterHeat held (defrostCounts s)).defrost.compHeld = held ∧
        (enterHeat held (defrostCounts s)).defrost.heaterOn = 0 ∧
        (enterHeat held (defrostCounts s)).defrost.estimate = s.defrost.estimate ∧
        (enterHeat held (defrostCounts s)).gate.reqState .dh ≠ .noRequest ∧
        (s.gate.reqState .dh = .noRequest →
          (enterHeat held (defrostCounts s)).defrost.heatBegun = (enterHeat held (defrostCounts s)).drives.dh) ∧
        (enterHeat held (defrostCounts s)).line = s.line ∧ (enterHeat held (defrostCounts s)).link = s.link ∧
        KeepsSetup s (enterHeat held (defrostCounts s)) ∧ KeepsSenses s (enterHeat held (defrostCounts s)) := by
    obtain ⟨st, time, comp, on, estimate, requests, begun, shell⟩ := enterHeat_leaves held (defrostCounts s)
    have kept : (defrostCounts s).defrost.estimate = s.defrost.estimate := by rw [defrostCounts_cycle (.inl hold)]; rfl
    exact ⟨st, time, comp, on, estimate.trans kept, requests, begun, shell.line, shell.link, shell.setup, shell.senses⟩
  refine ⟨fun due long => ?_, fun due door pour deliver heat rake => ?_, fun hold tests running' long => ?_,
    fun hold tests fresh off => ?_, forcedTogether_eq s, fun together => ?_,
    fun held m hold tests moment ends none empty fits => ?_⟩
  · have tests := forcedTogether_of_ne (s := s) (by simp [due])
    have ended : defrostTest (defrostCounts s) = enterDefrost .hold (defrostCounts s) :=
      (defrostTest_due (u := defrostCounts s) due).trans (dueTest_ends (u := defrostCounts s) (.inl (by rw [defrostCounts_due due]; exact long)))
    have deferred : (defrostCounts s).deferLong = true :=
      decide_eq_true (by rw [defrostCounts_due due]; exact long)
    refine ⟨enterDefrost .hold (defrostCounts s),
      congrArg Host.Outcome.next ((defrostEnding_row (ended := State.deferLong) running due tests deferred).trans ended),
      (defrostSecond_row running tests).trans (congrArg Host.Outcome.next ended), rfl, rfl, rfl, ?_, ?_, ?_, rfl,
      rfl, rfl, rfl, rfl, rfl, setup, senses⟩
    · show (decide _ && (false || false) && _ && _) = false
      simp
    · rw [defrostCounts_due due]; rfl
    · rw [defrostCounts_due due]; rfl
  · have clear : (defrostCounts s).defers = false := by
      rw [← Bool.not_eq_true, defers_iff]
      exact fun k => k.elim door (·.elim pour (·.elim deliver (·.elim heat rake)))
    rw [defrostSecond_row running (forcedTogether_of_ne (by simp [due])), defrostTest_due (u := defrostCounts s) due, dueTest_ends (.inr clear),
      defrostCounts_due due]
    rfl
  · have ended : holdTest (defrostCounts s) = enterHeat false (defrostCounts s) :=
      holdTest_ends (u := defrostCounts s) (.inr ⟨rfl, running', by rw [defrostCounts_cycle (.inl hold)]; exact long⟩)
    have waited : (defrostCounts s).holdLong = true :=
      decide_eq_true (by rw [defrostCounts_cycle (.inl hold)]; exact long)
    exact ⟨_, congrArg Host.Outcome.next ((defrostEnding_row (ended := State.holdLong) running hold tests waited).trans
      ((defrostTest_hold (u := defrostCounts s) hold).trans ended)), enters hold⟩
  · have ended : holdTest (defrostCounts s) = enterHeat true (defrostCounts s) := holdTest_ends (u := defrostCounts s) (.inl ⟨rfl, fresh, off⟩)
    exact ⟨_, (defrostSecond_row running tests).trans
      (congrArg Host.Outcome.next ((defrostTest_hold (u := defrostCounts s) hold).trans ended)), enters hold⟩
  · have shape := of_decide_eq_true ((forcedTogether_eq s).symm.trans together)
    obtain ⟨hold, -, began, moment⟩ := shape
    refine ⟨congrArg Host.Outcome.next (if_neg fun k => ?_), ?_⟩
    · exact Bool.false_ne_true (k.2.2.1.symm.trans together)
    · rw [exec_defrostSecond s running, defrostSecond_together together, defrostCounts_cycle (.inl hold), moment, began]
      rfl
  · have ended : holdTest (defrostCounts s) = enterHeat held (defrostCounts s) :=
      holdTest_ends (u := defrostCounts s) (ends.imp_right fun k => ⟨k.1, k.2.1, by rw [defrostCounts_cycle (.inl hold)]; exact k.2.2⟩)
    rw [defrostSecond_row running tests, defrostTest_hold (u := defrostCounts s) hold, ended,
      enterHeat_granted held (s := defrostCounts s) none empty fits, defrostCounts_cycle (.inl hold), moment]
    rfl

/-! ### The end of the heat -/

/-- HM, CLOSED before, follows the heaters (R131). -/
theorem settledHm_closed {u : State} (closed : u.gate.hm = .hmClosed) : settledHm u =
    if u.gate.heaterGranted = true then .hmClosed else .hmHolding (u.afterSeconds u.tables.general.hmhold) := by
  unfold settledHm
  rw [closed]
  cases u.gate.heaterGranted <;> rfl

/-- HM and the head of the list once a heater has been released with HM CLOSED (R125, R126, R131). -/
theorem passAndSettle_released {u : State} (closed : u.gate.hm = .hmClosed) :
    (u.gate.wait = [] → (passAndSettle u).gate = { u.gate with
      hm := if u.gate.heaterGranted = true then .hmClosed else .hmHolding (u.afterSeconds u.tables.general.hmhold) }) ∧
    (∀ (w : WaitEntry) (rest : List WaitEntry), u.gate.wait = w :: rest → w.out = .th ∨ w.out = .ft →
      u.gate.weightInUse w.out ≤ u.gate.budgetFree →
      (∀ x xs, rest = x :: xs →
        ({ u.gate with granted := u.gate.granted.set w.out true, wait := rest } : Gate).budgetFree <
          ({ u.gate with granted := u.gate.granted.set w.out true, wait := rest } : Gate).weightInUse x.out) →
      (passAndSettle u).gate =
        { u.gate with granted := u.gate.granted.set w.out true, wait := rest, hm := .hmClosed }) := by
  refine ⟨fun empty => ?_, fun w rest wait heater fits behind => ?_⟩
  · rw [passAndSettle_blocked u fun w ws hw => (by cases empty.symm.trans hw), settleHm_gate, settledHm_closed closed]
  · have isHeater : w.out.isHeater = true := by rcases heater with h | h <;> rw [h] <;> rfl
    have head := grantHead_heater w rest u isHeater
    have granted : ({ u.gate with granted := u.gate.granted.set w.out true, wait := rest } : Gate).heaterGranted =
        true := by rcases heater with h | h <;> simp [Gate.heaterGranted, GrantSet.set, h]
    rw [passAndSettle_head w rest u wait fits (by rw [head]; exact behind), head, settleHm_gate,
      settledHm_closed (u := u.setGate { u.gate with granted := u.gate.granted.set w.out true, wait := rest }) closed,
      State.setGate_gate, if_pos granted]

/-- DH, on before, is given up as the defrost controller leaves HEAT: HM and the head of the list follow (R126, R131). -/
theorem giveUpDh_releases {s : State} (d : Defrost) (on : s.gate.heaterOn .dh = true) :
    ReleasesDh s (giveUpOutput .dh (s.setDefrost d)) := by
  obtain ⟨granted, closed⟩ : s.gate.granted.get .dh = true ∧ s.gate.hm = .hmClosed := by
    unfold Gate.heaterOn at on
    simpa using on
  rintro g rfl
  have released : giveUpOutput .dh (s.setDefrost d) = passAndSettle ((s.setDefrost d).setGate
      { s.gate with granted := { s.gate.granted with dh := false } }) := by
    have state : (s.setDefrost d).gate.reqState .dh = .granted := (Gate.reqState_granted_iff _ _).mpr granted
    unfold giveUpOutput
    rw [state]; rfl
  have heaters : ({ s.gate with granted := { s.gate.granted with dh := false } } : Gate).heaterGranted = true ↔
      s.gate.granted.th = true ∨ s.gate.granted.ft = true := by simp [Gate.heaterGranted]
  have now : (giveUpOutput .dh (s.setDefrost d)).now = s.now := giveUpOutput_now .dh _
  obtain ⟨alone, next⟩ := passAndSettle_released (u := (s.setDefrost d).setGate
    { s.gate with granted := { s.gate.granted with dh := false } }) closed
  rw [now, released]
  refine ⟨fun empty => ?_, fun w rest g2 wait heater fits e behind => ?_⟩
  · rw [alone empty]
    simp only [State.setGate_gate, heaters]
    rfl
  · rw [e] at behind ⊢
    exact next w rest wait heater fits behind

/-- Everything the end of the heat leaves, by its cause (R9, R12, R33). -/
theorem terminateHeat_leaves {s : State} (c : Cause) (thr : Nat)
    (adapted : adaptedThr s.tables.defrost s.defrost.trigger s.defrost.startEstimate s.defrost.thr s.defrost.heaterOn c =
      thr) :
    (terminateHeat c s).defrost = { s.defrost with
      st := .drip, stateTime := 0, cause := c, thrBefore := s.defrost.thr, thr := thr, thrAfter := thr
      origin := if thr = s.defrost.thr then s.defrost.origin else .adapted } ∧
    (s.apart .dh → (terminateHeat c s).gate.reqState .dh = .noRequest) ∧
    (s.noneWaitsBut .dh → (terminateHeat c s).ice = s.ice ∧ (terminateHeat c s).disp = s.disp) ∧
    (s.gate.heaterOn .dh = true → ReleasesDh s (terminateHeat c s)) ∧ Shell s (terminateHeat c s) := by
  have e : terminateHeat c s = giveUpOutput .dh (s.setDefrost { s.defrost with
      st := .drip, stateTime := 0, cause := c, thrBefore := s.defrost.thr, thr := thr, thrAfter := thr
      origin := if thr = s.defrost.thr then s.defrost.origin else .adapted }) := by
    unfold terminateHeat
    dsimp only
    rw [adapted]
  obtain ⟨defrost, request, others, shell⟩ := giveUpDh_leaves (s := s) (d := { s.defrost with
      st := .drip, stateTime := 0, cause := c, thrBefore := s.defrost.thr, thr := thr, thrAfter := thr
      origin := if thr = s.defrost.thr then s.defrost.origin else .adapted }) (by simp)
  rw [e]
  exact ⟨defrost, request, others, giveUpDh_releases _, shell⟩

end Sys2Proof.Machine
end


section
/-! PROOF. The end of the heat, of the drip and of the fan delay (R9 to R13, R32 to R35). -/

namespace Sys2Proof.Machine

/-- The second that ends the heat, and the rows named after it (R32, R33). -/
theorem heatSecond_ends {s : State} {c : Cause} (running : s.mode = .running) (heat : s.defrost.st = .heat)
    (on : s.gate.heaterOn .dh = true) (ends : (defrostCounts s).heatEnds = some c) :
    exec .defrostSecond s = .next (terminateHeat c (defrostCounts s)) ∧
    (∀ ended : State → Bool, ended (defrostCounts s) = true →
      defrostEndingSecond .heat ended s = terminateHeat c (defrostCounts s)) := by
  have second := defrostSecond_heatEnds s c heat on ends
  exact ⟨(exec_defrostSecond s running).trans (congrArg Host.Outcome.next second), fun ended h =>
    (defrostEndingSecond_eq .heat ended s running heat (forcedTogether_of_ne (by simp [heat])) h).trans second⟩

section
variable {u : State}

theorem heatEnds_temp {temp : Int} (usable : u.usable .evap = some temp) (warm : u.tables.defrost.termtemp ≤ temp) :
    u.heatEnds = some .temp := by
  unfold State.heatEnds; rw [usable]; exact if_pos warm

theorem heatEnds_time {temp : Int} (usable : u.usable .evap = some temp) (cold : temp < u.tables.defrost.termtemp)
    (long : u.tables.defrost.heatmax ≤ u.defrost.heaterOn) : u.heatEnds = some .time := by
  unfold State.heatEnds; rw [usable]; exact (if_neg (not_le.mpr cold)).trans (if_pos long)

theorem heatEnds_fixed (unusable : u.usable .evap = none) (long : u.tables.defrost.fixedheat ≤ u.defrost.heaterOn) :
    u.heatEnds = some .fixed := by
  unfold State.heatEnds; rw [unusable]; exact if_pos long

end

/-- What the second that ends the heat counts. -/
theorem heatSecond_counts {s : State} (heat : s.defrost.st = .heat) (on : s.gate.heaterOn .dh = true) :
    (defrostCounts s).defrost.heaterOn = s.defrost.heaterOn + 1 ∧ (defrostCounts s).defrost.thr = s.defrost.thr ∧
      (defrostCounts s).defrost.origin = s.defrost.origin ∧ (defrostCounts s).defrost.trigger = s.defrost.trigger ∧
      (defrostCounts s).defrost.startEstimate = s.defrost.startEstimate := by
  rw [defrostCounts_heating heat on]
  exact ⟨rfl, rfl, rfl, rfl, rfl⟩

/-- The proportional adaptation of THR at a TEMP end (R9, R10). -/
theorem adaptedThr_temp (p : DefrostParams) (trigger : Trigger) (start thr h : Nat) :
    adaptedThr p trigger start thr h .temp =
      if trigger = .estimate ∨ thr / 2 ≤ start then
        max p.thrmin (min p.thrmax (max (thr * 3 / 4) (min (thr * 5 / 4) (thr * p.targetheat / h))))
      else thr := by
  unfold adaptedThr earnedStart
  dsimp only
  simp only [Bool.or_eq_true, decide_eq_true_iff]
  rfl

/-- The heat's end at the completed second, in the statements' words: by its cause, and by the THR it leaves. -/
theorem heatSecond_leaves {s : State} (c : Cause) (thr : Nat) (heat : s.defrost.st = .heat)
    (on : s.gate.heaterOn .dh = true)
    (adapted : adaptedThr s.tables.defrost s.defrost.trigger s.defrost.startEstimate s.defrost.thr
      (s.defrost.heaterOn + 1) c = thr) :
    ∃ t, terminateHeat c (defrostCounts s) = t ∧ t.defrost.st = .drip ∧ t.defrost.stateTime = 0 ∧ t.defrost.cause = c ∧
      t.defrost.heaterOn = s.defrost.heaterOn + 1 ∧ t.defrost.thr = thr ∧ t.defrost.thrBefore = s.defrost.thr ∧
      t.defrost.thrAfter = thr ∧
      t.defrost.origin = (if thr = s.defrost.thr then s.defrost.origin else .adapted) ∧
      (s.apart .dh → t.gate.reqState .dh = .noRequest) ∧ (s.noneWaitsBut .dh → t.ice = s.ice ∧ t.disp = s.disp) ∧
      ReleasesDh s t ∧ t.line = s.line ∧ t.link = s.link ∧ KeepsSetup s t ∧ KeepsSenses s t := by
  obtain ⟨counted, thrKept, originKept, triggerKept, startKept⟩ := heatSecond_counts heat on
  have adapts : adaptedThr (defrostCounts s).tables.defrost (defrostCounts s).defrost.trigger
      (defrostCounts s).defrost.startEstimate (defrostCounts s).defrost.thr (defrostCounts s).defrost.heaterOn c =
        thr := by
    rw [counted, thrKept, triggerKept, startKept]; exact adapted
  obtain ⟨defrost, request, others, releases, shell⟩ := terminateHeat_leaves (s := defrostCounts s) c thr adapts
  have released := releases on
  have kept : ∀ t, Shell (defrostCounts s) t → t.line = s.line ∧ t.link = s.link ∧ KeepsSetup s t ∧ KeepsSenses s t :=
    fun t h => ⟨h.line, h.link, h.setup, h.senses⟩
  refine ⟨_, rfl, ?_, ?_, ?_, ?_, ?_, ?_, ?_, ?_, request, others, released, kept _ shell⟩
  · rw [defrost]
  · rw [defrost]
  · rw [defrost]
  · rw [defrost]; exact counted
  · rw [defrost]
  · rw [defrost]; exact thrKept
  · rw [defrost]
  · rw [defrost]
    show (if thr = (defrostCounts s).defrost.thr then (defrostCounts s).defrost.origin else .adapted) = _
    rw [thrKept, originKept]

/-- Settles O46: the heat's two ends by time, THR shortened by the one and left by the other. -/
theorem heatTimeEnds : Obligations.HeatTimeEnds := by
  unfold Obligations.HeatTimeEnds
  intro s running heat on
  have counted : (defrostCounts s).defrost.heaterOn = s.defrost.heaterOn + 1 := (heatSecond_counts heat on).1
  refine ⟨fun temp usable cold long => ?_, fun unusable long => ?_⟩
  · have reached : s.tables.defrost.heatmax ≤ (defrostCounts s).defrost.heaterOn := by rw [counted]; exact long
    have ends : (defrostCounts s).heatEnds = some .time := heatEnds_time usable cold reached
    have row : (defrostCounts s).heatLong = true :=
      Bool.and_eq_true_iff.mpr ⟨Bool.and_eq_true_iff.mpr ⟨on, Option.isSome_iff_exists.mpr ⟨temp, usable⟩⟩,
        decide_eq_true reached⟩
    obtain ⟨t, e, st, time, cause, heater, thr, before, after, origin, rest⟩ :=
      heatSecond_leaves .time (max s.tables.defrost.thrmin (s.defrost.thr * 3 / 4)) heat on rfl
    exact ⟨t, congrArg Host.Outcome.next (((heatSecond_ends running heat on ends).2 State.heatLong row).trans e), st,
      time, cause, heater, thr, before, after.trans thr.symm, by rw [thr]; exact origin, rest⟩
  · have reached : s.tables.defrost.fixedheat ≤ (defrostCounts s).defrost.heaterOn := by rw [counted]; exact long
    have ends : (defrostCounts s).heatEnds = some .fixed := heatEnds_fixed unusable reached
    have row : ((defrostCounts s).gate.heaterOn .dh && decide ((defrostCounts s).heatEnds = some .fixed)) = true :=
      Bool.and_eq_true_iff.mpr ⟨on, decide_eq_true ends⟩
    obtain ⟨t, e, st, time, cause, heater, thr, before, after, origin, rest⟩ :=
      heatSecond_leaves .fixed s.defrost.thr heat on rfl
    exact ⟨t, congrArg Host.Outcome.next (((heatSecond_ends running heat on ends).2
      (fun t => t.gate.heaterOn .dh && decide (t.heatEnds = some .fixed)) row).trans e), st, time, cause, heater, thr,
      before, after, origin.trans (if_pos rfl), rest⟩

/-- Settles O47: THR in proportion to the heat's length, or as it was. -/
theorem tempEndAdapts : Obligations.TempEndAdapts := by
  unfold Obligations.TempEndAdapts
  rintro s temp h running heat on usable warm rfl
  have ends : (defrostCounts s).heatEnds = some .temp := heatEnds_temp usable warm
  obtain ⟨t, e, st, -, cause, heater, thr, before, after, origin, -, -, -, rest⟩ :=
    heatSecond_leaves .temp _ heat on rfl
  rw [adaptedThr_temp] at thr after origin
  exact ⟨t, (heatSecond_ends running heat on ends).1.trans (congrArg Host.Outcome.next e), st, cause, heater, before,
    after.trans thr.symm, thr, by rw [thr]; exact origin, rest⟩

/-- Settles O48: the drip ends by its time, the fan delay by its time or at a cold coil. -/
theorem dripAndFanDelayEnd : Obligations.DripAndFanDelayEnd := by
  unfold Obligations.DripAndFanDelayEnd
  intro s running
  refine ⟨fun drip long => ?_, fun recover long _ => ?_, fun temp recover usable cold => ?_⟩
  · have counts := defrostCounts_cycle (s := s) (.inr (.inl drip))
    have waited : s.tables.defrost.driptime ≤ (defrostCounts s).defrost.stateTime := by rw [counts]; exact long
    refine congrArg Host.Outcome.next ((defrostEnding_row (ended := State.dripLong) running drip
      (forcedTogether_of_ne (by simp [drip])) (decide_eq_true waited)).trans ?_)
    rw [defrostTest_drip (u := defrostCounts s) drip, dripTest_ends (u := defrostCounts s) waited, counts]
    rfl
  · have counts := defrostCounts_cycle (s := s) (.inr (.inr recover))
    have waited : s.tables.defrost.fanmax ≤ (defrostCounts s).defrost.stateTime := by rw [counts]; exact long
    refine congrArg Host.Outcome.next ((defrostEnding_row (ended := State.fanLong) running recover
      (forcedTogether_of_ne (by simp [recover])) (decide_eq_true waited)).trans ?_)
    rw [defrostTest_recover (u := defrostCounts s) recover, recoverTest_ends (u := defrostCounts s) (.inr waited), counts]
    rfl
  · have counts := defrostCounts_cycle (s := s) (.inr (.inr recover))
    rw [defrostSecond_row running (forcedTogether_of_ne (by simp [recover])),
      defrostTest_recover (u := defrostCounts s) recover,
      recoverTest_ends (u := defrostCounts s) (.inl ⟨temp, usable, cold⟩), counts]
    rfl

end Sys2Proof.Machine
end


section
/-! PROOF. The ice maker's second: its work in each state, and the end of the freeze (R71 to R76, R82 to R84). -/

namespace Sys2Proof.Machine

/-! ### The second's work -/

/-- ICE_SECOND: the retry timer's count, and the work of the state. -/
theorem iceSecond_row {s : State} (running : s.mode = .running) :
    exec .iceSecond s = .next (iceWork (iceSecondCounts s)) := exec_iceSecond s running

section
variable {u : State}

theorem iceWork_rest (h : u.ice.st = .off ∨ u.ice.st.inFill = true ∨ u.ice.st = .harvestRake ∨ u.ice.st = .binfull ∨
    u.ice.st = .fault) : iceWork u = u := by
  unfold iceWork
  cases st : u.ice.st
  case park | freeze | harvestHeat => rw [st] at h; simp [IceState.inFill] at h
  all_goals rfl

theorem iceWork_park (h : u.ice.st = .park) : iceWork u = parkWork u := by unfold iceWork; rw [h]
theorem iceWork_freeze (h : u.ice.st = .freeze) : iceWork u = freezeWork u := by unfold iceWork; rw [h]
theorem iceWork_heat (h : u.ice.st = .harvestHeat) : iceWork u = heatWork u := by unfold iceWork; rw [h]

/-! ### The freeze -/

/-- The freeze counts, by what they come to (R82). -/
theorem freezeCounts_eq {frozen below : Nat}
    (time : frozen = if u.defrost.st = .heat ∨ u.defrost.st = .drip then u.ice.freezetime
      else min 65535 (u.ice.freezetime + 1))
    (unusable : u.usable .tray = none → below = u.ice.belowtime)
    (usable : ∀ temp, u.usable .tray = some temp →
      below = if temp ≤ u.tables.ice.harvtemp then min 65535 (u.ice.belowtime + 1) else 0) :
    freezeCounts u = u.setIce { u.ice with freezetime := frozen, belowtime := below } := by
  subst time
  unfold freezeCounts
  cases tray : u.usable .tray with
  | none => rw [unusable tray]; rfl
  | some temp => rw [usable temp tray]; rfl

theorem holdTime_eq (u : State) : u.holdTime = if u.obs.fastice.st = .fresh ∧ u.obs.fastice.value ≠ 0
    then u.tables.ice.freezehold / 2 else u.tables.ice.freezehold := by
  unfold State.holdTime State.fastIceOn
  simp only [readsOpen_iff]

theorem freezeHeld_iff (u : State) : u.freezeHeld = true ↔
    (∃ temp, u.usable .tray = some temp) ∧ u.holdTime ≤ u.ice.belowtime := by
  unfold State.freezeHeld
  rw [Bool.and_eq_true, Option.isSome_iff_exists, decide_eq_true_iff]

theorem freezeLong_iff (u : State) : u.freezeLong = true ↔
    (∃ temp, u.usable .tray = some temp) ∧ u.tables.ice.freezemax ≤ u.ice.freezetime := by
  unfold State.freezeLong
  rw [Bool.and_eq_true, Option.isSome_iff_exists, decide_eq_true_iff]

theorem freezeFixed_iff (u : State) : u.freezeFixed = true ↔
    u.usable .tray = none ∧ u.tables.ice.freezefixed ≤ u.ice.freezetime := by
  unfold State.freezeFixed
  rw [Bool.and_eq_true, Option.isNone_iff_eq_none, decide_eq_true_iff]

theorem freezeDone_iff (u : State) :
    u.freezeDone = true ↔ u.freezeHeld = true ∨ u.freezeLong = true ∨ u.freezeFixed = true := by
  unfold State.freezeDone
  rw [Bool.or_eq_true, Bool.or_eq_true, or_assoc]

/-! ### The harvest's heat -/

theorem trayReleased_iff (u : State) :
    u.trayReleased = true ↔ ∃ temp, u.usable .tray = some temp ∧ u.tables.ice.releasetemp ≤ temp := by
  unfold State.trayReleased
  cases u.usable .tray with
  | none => simp
  | some temp => simp

theorem heatWork_off (off : u.gate.heaterOn .th = false) : heatWork u = u := if_neg (by simp [off])

theorem heatWork_counts (on : u.gate.heaterOn .th = true) (short : u.ice.heatTime + 1 < u.tables.ice.harvheatmax)
    (cold : ∀ temp, u.usable .tray = some temp → temp < u.tables.ice.releasetemp) : heatWork u = heatCount u := by
  refine (if_pos on).trans (if_neg fun k => ?_)
  rcases (Bool.or_eq_true _ _).mp k with released | long
  · obtain ⟨temp, usable, warm⟩ := (trayReleased_iff _).mp released
    exact absurd warm (not_le.mpr (cold temp usable))
  · exact absurd (of_decide_eq_true long) (Nat.not_le.mpr short)

theorem heatWork_ends (on : u.gate.heaterOn .th = true) (ends : u.tables.ice.harvheatmax ≤ u.ice.heatTime + 1 ∨
    ∃ temp, u.usable .tray = some temp ∧ u.tables.ice.releasetemp ≤ temp) : heatWork u = enterRake (heatCount u) := by
  refine (if_pos on).trans (if_pos ((Bool.or_eq_true _ _).mpr ?_))
  exact ends.symm.imp (fun warm => (trayReleased_iff _).mpr warm) fun long => decide_eq_true long

/-! ### PARK -/

theorem airTooWarm_iff (u : State) :
    u.airTooWarm = true ↔ ∃ temp, u.usable .fzair = some temp ∧ u.tables.ice.icemaxair < temp := by
  unfold State.airTooWarm
  cases u.usable .fzair with
  | none => simp
  | some temp => simp

theorem parkWork_disabled (h : u.ice.disablePending = true) : parkWork u = enterOff u := if_pos h

theorem parkWork_full (h : u.ice.disablePending = false) (full : u.inputs.binfull = true) :
    parkWork u = enterBinfull u := (if_neg (by simp [h])).trans (if_pos full)

theorem parkWork_waits (h : u.ice.disablePending = false) (room : u.inputs.binfull = false)
    (waits : 0 < u.ice.retry ∨ ∃ temp, u.usable .fzair = some temp ∧ u.tables.ice.icemaxair < temp) :
    parkWork u = u := by
  refine ((if_neg (by simp [h])).trans (if_neg (by simp [room]))).trans ?_
  by_cases retry : 0 < u.ice.retry
  · exact if_pos retry
  · exact (if_neg retry).trans (if_pos ((airTooWarm_iff u).mpr (waits.resolve_left retry)))

theorem parkWork_fills (h : u.ice.disablePending = false) (room : u.inputs.binfull = false) (due : u.ice.retry = 0)
    (cold : ∀ temp, u.usable .fzair = some temp → temp ≤ u.tables.ice.icemaxair) : parkWork u = beginFill u := by
  refine ((if_neg (by simp [h])).trans (if_neg (by simp [room]))).trans ((if_neg (by omega)).trans (if_neg ?_))
  rw [airTooWarm_iff]
  rintro ⟨temp, usable, warm⟩
  exact absurd warm (not_lt.mpr (cold temp usable))

end

/-! ### The start of a fill -/

theorem giveLineToIce_eq (u : State) : giveLineToIce u = if u.line.mustChangeOver u.now .iv = true
    then u.setLine { u.line with st := .changeover .iceMaker } else openIv u := rfl

theorem mustChangeOver_iv_iff (l : Line) (now : Nat) :
    l.mustChangeOver now .iv = true ↔ ∃ e, l.lastClosed = some .wv ∧ l.changeoverEnd = some e ∧ now < e := by
  unfold Line.mustChangeOver
  cases l.lastClosed with
  | none => simp
  | some v => cases l.changeoverEnd <;> cases v <;> simp

theorem mustChangeOver_wv_iff (l : Line) (now : Nat) :
    l.mustChangeOver now .wv = true ↔ ∃ e, l.lastClosed = some .iv ∧ l.changeoverEnd = some e ∧ now < e := by
  unfold Line.mustChangeOver
  cases l.lastClosed with
  | none => simp
  | some v => cases l.changeoverEnd <;> cases v <;> simp

/-- The ice maker once IV has opened for it, as it stood in LINE_WAIT. -/
theorem openIv_ice (u : State) : (openIv u).ice = iceFlowing u := by
  rw [openIv_eq]
  exact requestOutput_ice .ft _ (by simp [iceFlowing])

/-- A fill that finds the line with the other party, or on its way to it, waits (R47). -/
theorem beginFill_waits {u : State} (busy : u.line.st = .pour ∨ u.line.st = .changeover .dispenser)
    (first : u.line.fillWaiting = false) : beginFill u =
      (u.setIce { u.ice with st := .fill .lineWait, opened := false, elapsed := 0 }).setLine
        { u.line with fillWaiting := true, resumes := false } := by
  unfold beginFill fillRequest
  have line : (u.setIce { u.ice with st := .fill .lineWait, opened := false, elapsed := 0 }).line = u.line := rfl
  rw [line]
  rcases busy with h | h <;> rw [h] <;> exact if_neg (by simp [first])

/-- A fill that finds the line idle, with the changeover end ahead, changes over (R47). -/
theorem beginFill_changesOver {u : State} {e : Nat} (idle : u.line.st = .idle) (closed : u.line.lastClosed = some .wv)
    (ends : u.line.changeoverEnd = some e) (ahead : u.now < e) : beginFill u =
      (u.setIce { u.ice with st := .fill .lineWait, opened := false, elapsed := 0 }).setLine
        { u.line with st := .changeover .iceMaker, resumes := false } := by
  have must : Line.mustChangeOver { u.line with resumes := false } u.now .iv = true :=
    (mustChangeOver_iv_iff _ _).mpr ⟨e, closed, ends, ahead⟩
  unfold beginFill fillRequest
  have line : (u.setIce { u.ice with st := .fill .lineWait, opened := false, elapsed := 0 }).line = u.line := rfl
  rw [line, idle]
  exact if_pos must

/-! ### The obligations -/

/-- What the counts of the second leave of a state, in the statements' words. -/
theorem iceSecondCounts_eq (s : State) : iceSecondCounts s = { s with
    now := max s.now s.ice.secondAt
    ice := { s.ice with secondAt := s.ice.secondAt + Config.tickSecond, retry := s.ice.retry - 1 } } := rfl

/-- A freeze's end rows are that second (log 3). -/
theorem freezeEnding_row {s : State} {ended : State → Bool} (running : s.mode = .running) (freeze : s.ice.st = .freeze)
    (h : ended (freezeCounts (iceSecondCounts s)) = true) : freezeEndingSecond ended s = iceSecond s :=
  if_pos ⟨running, freeze, h⟩

/-- The second that opens IV for the ice maker at the PARK evaluation (R50, R76). -/
theorem parkSecond_opens {s : State} {m : Nat} {i : Ice} (moment : m = max s.now s.ice.secondAt)
    (counted : i = { s.ice with secondAt := s.ice.secondAt + Config.tickSecond, retry := s.ice.retry - 1 })
    (idle : s.line.st = .idle)
    (free : ∀ e, s.line.lastClosed = some .wv → s.line.changeoverEnd = some e → e ≤ m) :
    ∃ t, beginFill (iceSecondCounts s) = t ∧ t.now = m ∧
      t.ice = { i with st := .fill .flowing, opened := true, trayLoaded := true, elapsed := 0, trailAt := none } ∧
      t.line = { s.line with
        st := .fill, fillWaiting := false, resumes := false, openedAt := m, flowk := s.tables.water.flowk,
        fillTally := 0, fillOpen := 0, unclaimed := 0, noflowSeen := false
        noflowAt := if s.tables.water.flowk = 0 then none
                    else some (m + s.tables.water.noflowtime * Config.tickSecond) } ∧
      t.gate.reqState .ft ≠ .noRequest ∧ t.link = s.link ∧ KeepsSetup s t ∧ KeepsSenses s t := by
  subst moment counted
  have clear : (iceSecondCounts s).line.mustChangeOver (iceSecondCounts s).now .iv = false :=
    mustChangeOver_false _ _ _ fun c e closed other ends => by
      cases c with
      | iv => exact absurd rfl other
      | wv => exact free e closed ends
  rw [beginFill_opens (iceSecondCounts s) idle clear]
  exact ⟨_, rfl, openIv_now _, openIv_ice _, openIv_line _, openIv_requests _, openIv_link _,
    ⟨openIv_mode _, openIv_restartPending _, openIv_ownAddress _, openIv_tables _, openIv_pending _⟩, openIv_obs _,
    openIv_temps _, openIv_inputs _⟩

/-- Settles O49: by the state of the ice maker. -/
theorem iceSecondCompletes : Obligations.IceSecondCompletes := by
  unfold Obligations.IceSecondCompletes
  intro s m i running moment counted
  have counts : iceSecondCounts s = { s with now := m, ice := i } := by rw [moment, counted]; rfl
  have second := iceSecond_row running
  have st : i.st = s.ice.st := by rw [counted]
  have retry : i.retry = s.ice.retry - 1 := by rw [counted]
  have frozenEq (frozen : Nat) (time : frozen = if s.defrost.st = .heat ∨ s.defrost.st = .drip then s.ice.freezetime
      else min 65535 (s.ice.freezetime + 1)) (below : Nat) (unusable : s.usable .tray = none → below = s.ice.belowtime)
      (usable : ∀ temp, s.usable .tray = some temp →
        below = if temp ≤ s.tables.ice.harvtemp then min 65535 (s.ice.belowtime + 1) else 0) :
      freezeCounts (iceSecondCounts s) = { s with now := m, ice := { i with freezetime := frozen, belowtime := below } } := by
    rw [freezeCounts_eq (u := iceSecondCounts s) time unusable usable, counts]; rfl
  refine ⟨fun rest => ?_, fun due => ?_, fun frozen below freeze time unusable usable => ?_,
    fun frozen freeze time => ?_, fun heat off => ?_, fun heat on short cold => ?_, fun heat on long => ?_,
    fun park => ?_⟩
  · rw [second, counts, iceWork_rest (by dsimp only; rw [st]; exact rest)]
  · exact (congrArg Host.Outcome.next (if_pos ⟨running, due⟩)).trans second.symm
  · have counted' := frozenEq frozen time below (fun k => (unusable k).1) fun temp k => (usable temp k).2.1
    have going : ¬(freezeCounts (iceSecondCounts s)).freezeDone = true := by
      rw [freezeDone_iff, freezeHeld_iff, freezeLong_iff, freezeFixed_iff, holdTime_eq, counted']
      rintro (⟨⟨temp, k⟩, long⟩ | ⟨⟨temp, k⟩, long⟩ | ⟨k, long⟩)
      · exact absurd long (Nat.not_le.mpr (usable temp k).2.2)
      · exact absurd long (Nat.not_le.mpr (usable temp k).1)
      · exact absurd long (Nat.not_le.mpr (unusable k).2)
    rw [second, iceWork_freeze (u := iceSecondCounts s) freeze]
    exact congrArg Host.Outcome.next ((if_neg going).trans counted')
  · have frozenTime : (freezeCounts (iceSecondCounts s)).ice.freezetime = frozen := time.symm
    refine ⟨fun temp usable cold held => ?_, fun temp usable long => ?_, fun unusable long => ?_⟩
    · have counted' := frozenEq frozen time (min 65535 (s.ice.belowtime + 1)) (fun k => by cases usable.symm.trans k)
        (fun temp' k => by cases usable.symm.trans k; exact (if_pos cold).symm)
      have ended : (freezeCounts (iceSecondCounts s)).freezeHeld = true := by
        rw [freezeHeld_iff, holdTime_eq, counted']
        exact ⟨⟨temp, usable⟩, held⟩
      exact second.trans (congrArg Host.Outcome.next (freezeEnding_row running freeze ended)).symm
    · have ended : (freezeCounts (iceSecondCounts s)).freezeLong = true :=
        (freezeLong_iff _).mpr ⟨⟨temp, usable⟩, by rw [frozenTime]; exact long⟩
      exact second.trans (congrArg Host.Outcome.next (freezeEnding_row running freeze ended)).symm
    · have ended : (freezeCounts (iceSecondCounts s)).freezeFixed = true :=
        (freezeFixed_iff _).mpr ⟨unusable, by rw [frozenTime]; exact long⟩
      exact second.trans (congrArg Host.Outcome.next (freezeEnding_row running freeze ended)).symm
  · rw [second, counts, iceWork_heat (by dsimp only; rw [st]; exact heat)]
    exact congrArg Host.Outcome.next (heatWork_off (u := { s with now := m, ice := i }) off)
  · have heatTime : i.heatTime = s.ice.heatTime := by rw [counted]
    rw [second, counts, iceWork_heat (by dsimp only; rw [st]; exact heat)]
    refine congrArg Host.Outcome.next ((heatWork_counts (u := { s with now := m, ice := i }) on
      (by dsimp only; rw [heatTime]; exact short) cold).trans ?_)
    rw [← heatTime]; rfl
  · exact second.trans (congrArg Host.Outcome.next (if_pos ⟨running, heat, on, long⟩)).symm
  · have work : exec .iceSecond s = .next (parkWork (iceSecondCounts s)) :=
      second.trans (congrArg Host.Outcome.next (iceWork_park (u := iceSecondCounts s) park))
    refine ⟨fun disabled => ?_, fun enabled full => ?_, fun enabled room waits => ?_,
      fun enabled room due cold => ⟨fun idle free => ?_, fun e idle closed ends ahead => ?_, fun busy first => ?_⟩⟩
    · have shell := enterOff_shell (iceSecondCounts s)
      have ice := enterOff_ice (iceSecondCounts s)
      refine ⟨_, work.trans (congrArg Host.Outcome.next (parkWork_disabled (u := iceSecondCounts s) disabled)), ?_, ?_,
        shell.line, shell.link, shell.setup, shell.senses⟩
      · rw [ice]
      · rw [ice]
    · rw [work, parkWork_full (u := iceSecondCounts s) enabled full, counts]; rfl
    · have held : 0 < (iceSecondCounts s).ice.retry ∨ ∃ temp, (iceSecondCounts s).usable .fzair = some temp ∧
          (iceSecondCounts s).tables.ice.icemaxair < temp := waits.imp_left fun k => Nat.sub_pos_of_lt k
      rw [work, parkWork_waits (u := iceSecondCounts s) enabled room held, counts]
    all_goals
      have fills : parkWork (iceSecondCounts s) = beginFill (iceSecondCounts s) :=
        parkWork_fills enabled room (Nat.sub_eq_zero_of_le due) cold
    · obtain ⟨t, begun, leaves⟩ := parkSecond_opens moment counted idle free
      have row : exec .iceSecond s = .next t := work.trans (congrArg Host.Outcome.next (fills.trans begun))
      exact ⟨t, row, fun retried => (congrArg Host.Outcome.next (if_pos ⟨running, retried⟩)).trans (second.symm.trans row),
        leaves⟩
    · rw [work, fills, beginFill_changesOver (u := iceSecondCounts s) idle closed ends (by rw [counts]; exact ahead),
        counts]; rfl
    · rw [work, fills, beginFill_waits (u := iceSecondCounts s) busy first, counts]; rfl

/-- Everything the end of the freeze leaves, at the second or in a row named after its outcome. -/
theorem freezeSecond_ends {s : State} {ended : State → Bool} (running : s.mode = .running) (freeze : s.ice.st = .freeze)
    (h : ended (freezeCounts (iceSecondCounts s)) = true)
    (done : (freezeCounts (iceSecondCounts s)).freezeDone = true) :
    ∃ t, freezeEndingSecond ended s = t ∧ t.ice.st = .harvestHeat ∧ t.ice.heatTime = 0 ∧
      t.ice.freezetime = (freezeCounts (iceSecondCounts s)).ice.freezetime ∧
      t.ice.belowtime = (freezeCounts (iceSecondCounts s)).ice.belowtime ∧
      t.gate.reqState .th ≠ .noRequest ∧ t.line = s.line ∧ t.link = s.link ∧ KeepsSetup s t ∧ KeepsSenses s t := by
  have ice := enterHarvestHeat_ice (freezeCounts (iceSecondCounts s))
  have shell := enterHarvestHeat_shell (freezeCounts (iceSecondCounts s))
  refine ⟨_, freezeEndingSecond_eq s ended running freeze h done, ?_, ?_, ?_, ?_, enterHarvestHeat_requests _, shell.line,
    shell.link, shell.setup, shell.senses⟩ <;> rw [ice]

/-- Settles O50: by which of the freeze's limits is reached. -/
theorem freezeEnds : Obligations.FreezeEnds := by
  unfold Obligations.FreezeEnds
  intro s frozen running freeze time
  have frozenTime : (freezeCounts (iceSecondCounts s)).ice.freezetime = frozen := time.symm
  refine ⟨fun temp usable cold held => ?_, fun temp usable long => ?_, fun unusable long => ?_⟩
  · have counted := freezeCounts_eq (u := iceSecondCounts s) time (below := min 65535 (s.ice.belowtime + 1))
      (fun k => by cases usable.symm.trans k) (fun temp' k => by cases usable.symm.trans k; exact (if_pos cold).symm)
    have below : (freezeCounts (iceSecondCounts s)).ice.belowtime = min 65535 (s.ice.belowtime + 1) := by rw [counted]; rfl
    have ended : (freezeCounts (iceSecondCounts s)).freezeHeld = true :=
      (freezeHeld_iff _).mpr ⟨⟨temp, usable⟩, by rw [holdTime_eq, below]; exact held⟩
    obtain ⟨t, row, st, heat, frozen', below', rest⟩ :=
      freezeSecond_ends running freeze ended ((freezeDone_iff _).mpr (.inl ended))
    exact ⟨t, congrArg Host.Outcome.next row, st, heat, frozen'.trans frozenTime, below'.trans below, rest⟩
  · have ended : (freezeCounts (iceSecondCounts s)).freezeLong = true :=
      (freezeLong_iff _).mpr ⟨⟨temp, usable⟩, by rw [frozenTime]; exact long⟩
    obtain ⟨t, row, st, heat, frozen', -, rest⟩ :=
      freezeSecond_ends running freeze ended ((freezeDone_iff _).mpr (.inr (.inl ended)))
    exact ⟨t, congrArg Host.Outcome.next row, st, heat, frozen'.trans frozenTime, rest⟩
  · have counted := freezeCounts_eq (u := iceSecondCounts s) time (below := s.ice.belowtime)
      (fun _ => rfl) (fun temp k => by cases Option.some_ne_none temp (k.symm.trans unusable))
    have below : (freezeCounts (iceSecondCounts s)).ice.belowtime = s.ice.belowtime := by rw [counted]; rfl
    have ended : (freezeCounts (iceSecondCounts s)).freezeFixed = true :=
      (freezeFixed_iff _).mpr ⟨unusable, by rw [frozenTime]; exact long⟩
    obtain ⟨t, row, st, heat, frozen', below', rest⟩ :=
      freezeSecond_ends running freeze ended ((freezeDone_iff _).mpr (.inr (.inr ended)))
    exact ⟨t, congrArg Host.Outcome.next row, st, heat, frozen'.trans frozenTime, below'.trans below, rest⟩

end Sys2Proof.Machine
end


section
/-! PROOF. The ice maker's harvest, the rake's supervision, and the bin (R75, R84 to R89). -/

namespace Sys2Proof.Machine

/-! ### The request for EM -/

/-- Where EM is not GRANTED, TH is still and the rake has not begun (R85, R86). -/
def State.rakeWaits (u : State) : Prop :=
  u.gate.granted.em = true ∨ (u.gate.granted.th = true ∧ u.ice.rakeBegun = false)

theorem grantHead_rakeWaits (w : WaitEntry) (ws : List WaitEntry) {u : State} (h : u.rakeWaits) :
    (grantHead w ws u).rakeWaits := by
  unfold State.rakeWaits at h ⊢
  unfold grantHead ownerTold
  cases w.out with
  | dh => exact h
  | th => exact h.imp_right fun k => ⟨rfl, k.2⟩
  | ft => exact h
  | am => dsimp only [amGranted]; split <;> exact h
  | em => dsimp only [emGranted]; split <;> exact .inl rfl

theorem settleHm_rakeWaits {u : State} (h : u.rakeWaits) : (settleHm u).rakeWaits := by
  unfold settleHm markHeatBegun
  split <;> exact h

theorem requestOutput_rakeWaits (o : Gated) {u : State} (h : u.rakeWaits) : (requestOutput o u).rakeWaits := by
  unfold requestOutput
  split
  · refine settleHm_rakeWaits (grantingPass_keeps State.rakeWaits (fun t w ws k _ _ => grantHead_rakeWaits w ws k) _ _ ?_)
    exact h
  · exact h
  · exact h

/-- HARVEST_RAKE's entry out of HARVEST_HEAT, with TH on (R85, R86). -/
theorem enterRake_leaves {s : State} (on : s.gate.heaterOn .th = true) :
    (enterRake s).ice.st = .harvestRake ∧ (enterRake s).ice.heatTime = s.ice.heatTime ∧
      (enterRake s).gate.reqState .em ≠ .noRequest ∧
      ((enterRake s).gate.granted.em = false →
        (enterRake s).gate.granted.th = true ∧ (enterRake s).ice.rakeBegun = false) ∧
      Shell s (enterRake s) := by
  have granted : s.gate.granted.th = true := (Bool.and_eq_true_iff.mp on).1
  have waits : (enterRake s).rakeWaits := requestOutput_rakeWaits .em (.inr ⟨granted, rfl⟩)
  exact ⟨enterRake_ice_st s, by simp [enterRake], enterRake_requests s,
    fun none => waits.resolve_left (by simp [none]), enterRake_shell s⟩

theorem markHeatBegun_begun {u : State} (h : u.defrost.st = .heat → u.gate.heaterOn .dh = true →
    u.defrost.heatBegun = true) : markHeatBegun u = u := by
  unfold markHeatBegun
  split
  · next on =>
    have same : ({ u.defrost with heatBegun := true } : Defrost) = u.defrost := by rw [← h on.1 on.2]
    rw [same]; rfl
  · rfl

/-- HM settles after a heater has been released with HM CLOSED, and no heat is newly begun (R31, R131). -/
theorem settleHm_released {u : State} (closed : u.gate.hm = .hmClosed)
    (begun : u.defrost.st = .heat → u.gate.granted.dh = true → u.defrost.heatBegun = true) :
    settleHm u = u.setGate { u.gate with
      hm := if u.gate.heaterGranted = true then .hmClosed
            else .hmHolding (u.now + u.tables.general.hmhold * Config.tickSecond) } := by
  unfold settleHm
  rw [settledHm_closed closed]
  exact markHeatBegun_begun fun heat on => begun heat (Bool.and_eq_true_iff.mp on).1

/-- The rake begins with EM's grant (R86). -/
theorem emGranted_rakes {u : State} (h : u.ice.st = .harvestRake) : emGranted u =
    (u.setGate { u.gate with granted := u.gate.granted.set .th false, wait := leaveWait .th u.gate.wait }).setIce
      { u.ice with
        rakeBegun := true, leftMark := !u.inputs.home
        rakeleaveAt := some (u.afterSeconds u.tables.ice.rakeleave)
        rakemaxAt := some (u.afterSeconds u.tables.ice.rakemax) } := if_pos h

/-- EM GRANTED in its own request: TH is given up, HM follows the heaters left, and the rake is supervised from here
(R86, R122, R125, R131). -/
theorem enterRake_granted {s : State} (on : s.gate.heaterOn .th = true)
    (begun : s.defrost.st = .heat → s.gate.heaterOn .dh = true → s.defrost.heatBegun = true)
    (none : s.gate.reqState .em = .noRequest) (empty : s.gate.wait = [])
    (fits : s.gate.weightInUse .em ≤ s.gate.budgetFree) :
    enterRake s = { s with
      gate := { s.gate with
        granted := { s.gate.granted with em := true, th := false }
        hm := if s.gate.granted.dh = true ∨ s.gate.granted.ft = true then .hmClosed
              else .hmHolding (s.now + s.tables.general.hmhold * Config.tickSecond) }
      ice := { s.ice with
        st := .harvestRake, rakeBegun := true, leftMark := !s.inputs.home
        rakeleaveAt := some (s.now + s.tables.ice.rakeleave * Config.tickSecond)
        rakemaxAt := some (s.now + s.tables.ice.rakemax * Config.tickSecond) } } := by
  have closed : s.gate.hm = .hmClosed := of_decide_eq_true (Bool.and_eq_true_iff.mp on).2
  have gate : ({ s.gate with granted := { s.gate.granted with em := true, th := false }, wait := [] } : Gate) =
      { s.gate with granted := { s.gate.granted with em := true, th := false } } := by rw [← empty]
  have told : ownerTold .em ((s.setIce { s.ice with st := .harvestRake, rakeBegun := false }).setGate
      { s.gate with granted := s.gate.granted.set .em true, wait := [] }) =
      (s.setGate { s.gate with granted := { s.gate.granted with em := true, th := false } }).setIce { s.ice with
        st := .harvestRake, rakeBegun := true, leftMark := !s.inputs.home
        rakeleaveAt := some (s.now + s.tables.ice.rakeleave * Config.tickSecond)
        rakemaxAt := some (s.now + s.tables.ice.rakemax * Config.tickSecond) } := by
    rw [← gate]
    exact emGranted_rakes rfl
  refine (requestOutput_alone .em (s.setIce { s.ice with st := .harvestRake, rakeBegun := false }) none empty fits).trans
    ((congrArg settleHm told).trans ?_)
  have dh : s.defrost.st = .heat → s.gate.granted.dh = true → s.defrost.heatBegun = true := fun heat granted =>
    begun heat (Bool.and_eq_true_iff.mpr ⟨granted, decide_eq_true closed⟩)
  refine Eq.trans (settleHm_released closed dh) ?_
  have heaters : ({ s.gate with granted := { s.gate.granted with em := true, th := false } } : Gate).heaterGranted =
      true ↔ s.gate.granted.dh = true ∨ s.gate.granted.ft = true := by simp [Gate.heaterGranted]
  simp only [State.setIce_gate, State.setGate_gate, heaters]
  rfl

/-- Settles O51: the second at which the heat's end is found, and the request for EM it makes. -/
theorem harvestHeatEnds : Obligations.HarvestHeatEnds := by
  unfold Obligations.HarvestHeatEnds
  intro s running heat on
  have work (ends : s.tables.ice.harvheatmax ≤ s.ice.heatTime + 1 ∨
      ∃ temp, s.usable .tray = some temp ∧ s.tables.ice.releasetemp ≤ temp) :
      exec .iceSecond s = .next (enterRake (heatCount (iceSecondCounts s))) :=
    (iceSecond_row running).trans (congrArg Host.Outcome.next
      ((iceWork_heat (u := iceSecondCounts s) heat).trans (heatWork_ends (u := iceSecondCounts s) on ends)))
  obtain ⟨st, time, requests, waits, shell⟩ := enterRake_leaves (s := heatCount (iceSecondCounts s)) on
  have timed : (enterRake (heatCount (iceSecondCounts s))).ice.heatTime = s.ice.heatTime + 1 := time
  refine ⟨fun long => ⟨_, ?_, st, timed, requests, waits, shell.line, shell.link, shell.setup, shell.senses⟩,
    fun temp usable warm => ⟨_, work (.inr ⟨temp, usable, warm⟩), st, timed, requests, waits, shell.line, shell.link,
      shell.setup, shell.senses⟩, fun m moment ends inv none empty fits => ?_⟩
  · exact (congrArg Host.Outcome.next (if_pos ⟨running, heat, on, long⟩)).trans
      ((iceSecond_row running).symm.trans (work (.inl long)))
  · subst moment
    rw [work ends, enterRake_granted (s := heatCount (iceSecondCounts s)) on inv.2.2.2 none empty fits]
    rfl

/-! ### The rake -/

theorem passAndSettle_apart {p : Gated} {u : State} (h : u.gate.apart p) : (passAndSettle u).gate.apart p := by
  unfold passAndSettle
  rw [settleHm_gate]
  exact grantingPass_keeps (fun t => t.gate.apart p) (fun t w ws k wait _ => grantHead_apart w ws t p k wait) _ u h

/-- A giving up leaves every output in one place at most (R121, R126). -/
theorem giveUpOutput_keepsApart (o : Gated) {p : Gated} {u : State} (h : u.apart p) : (giveUpOutput o u).apart p := by
  unfold giveUpOutput
  split
  · exact h
  · exact passAndSettle_apart (Gate.apart_of_sublist h id (leaveWait_sublist _ _))
  · refine passAndSettle_apart (Gate.apart_of_sublist h (fun e => ?_) (List.Sublist.refl _))
    by_cases same : p = o
    · subst same; simp at e
    · simpa [GrantSet.get_set_other _ _ same] using e

/-- A rake that is done (R88). -/
theorem rakeDone_leaves (s : State) :
    (rakeDone s).ice.st = (if s.ice.disablePending = true then .off else .park) ∧
      (rakeDone s).ice.disablePending = false ∧ (rakeDone s).ice.trayLoaded = false ∧
      (rakeDone s).ice.cycles = (s.ice.cycles + 1) % 65536 ∧
      (s.apart .em → (rakeDone s).gate.reqState .em = .noRequest) ∧ Shell s (rakeDone s) := by
  unfold rakeDone
  cases disable : s.ice.disablePending
  · refine ⟨by simp, by simp [stopRake, disable], by simp [stopRake], by simp [stopRake],
      fun apart => giveUpOutput_apart (o := .em) apart, ?_⟩
    exact (((setIce_shell s _).trans (setIce_shell _ _)).trans (setIce_shell _ _)).trans (giveUpOutput_frame .em _).shell
  · refine ⟨by simp [enterOff], by simp [enterOff], by simp [enterOff, stopRake], by simp [enterOff, stopRake],
      fun apart => giveUpOutput_apart (o := .em) (giveUpOutput_keepsApart .ft (p := .em) apart), ?_⟩
    exact (((setIce_shell s _).trans (setIce_shell _ _)).trans (enterOff_shell _)).trans (giveUpOutput_frame .em _).shell

/-- A stall (R87, R89). -/
theorem stall_leaves (s : State) :
    (stall s).ice.st = .fault ∧ (stall s).ice.cause = .stall ∧ (stall s).ice.disablePending = false ∧
      (stall s).ice.retry = 0 ∧ (stall s).ice.trayLoaded = s.ice.trayLoaded ∧
      (s.apart .em → (stall s).gate.reqState .em = .noRequest) ∧ Shell s (stall s) := by
  unfold stall enterFault
  refine ⟨by simp, by simp, by simp, by simp, by simp [stopRake],
    fun apart => giveUpOutput_apart (o := .em) (giveUpOutput_keepsApart .ft (p := .em) apart), ?_⟩
  exact (((setIce_shell s _).trans (setIce_shell _ _)).trans (giveUpOutput_frame .ft _).shell).trans
    (giveUpOutput_frame .em _).shell

theorem raking_iff (u : State) : u.raking = true ↔ u.ice.st = .harvestRake ∧ u.ice.rakeBegun = true := by
  unfold State.raking
  rw [Bool.and_eq_true, decide_eq_true_iff]

/-- RAKELEAVE_EXPIRY (R87). -/
theorem rakeleaveExpiry_eq {s : State} {m : Nat} (runs : s.ice.rakeleaveAt = some m) (raking : s.raking = true)
    (stays : s.ice.leftMark = false) :
    exec .rakeleaveExpiry s = .next (stall ((s.reach m).setIce { s.ice with rakeleaveAt := none })) := by
  have stalls : (((s.reach m).setIce { s.ice with rakeleaveAt := none }).raking &&
      !((s.reach m).setIce { s.ice with rakeleaveAt := none }).ice.leftMark) = true :=
    Bool.and_eq_true_iff.mpr ⟨raking, (Bool.not_eq_true' _).mpr stays⟩
  show execRakeleaveExpiry s = _
  unfold execRakeleaveExpiry
  rw [runs]
  exact congrArg Host.Outcome.next (if_pos stalls)

/-- RAKEMAX_EXPIRY (R87). -/
theorem rakemaxExpiry_eq {s : State} {m : Nat} (runs : s.ice.rakemaxAt = some m) (raking : s.raking = true) :
    exec .rakemaxExpiry s = .next (stall ((s.reach m).setIce { s.ice with rakemaxAt := none })) := by
  show execRakemaxExpiry s = _
  unfold execRakemaxExpiry
  rw [runs]
  exact congrArg Host.Outcome.next (if_pos raking)

/-- The state once the home reading has changed. -/
def State.homeChanged (s : State) (dt : Nat) : State :=
  (s.advance dt).setInputs { s.inputs with home := !s.inputs.home }

/-- HOME_READING_CHANGE, by whether the rake is supervised and where the reading now stands (R86, R87). -/
theorem homeReadingChange_eq (s : State) (dt : Nat) : exec (.homeReadingChange dt) s = .next (
    if s.raking = true then
      if (!s.inputs.home) = true then (if s.ice.leftMark = true then rakeDone (s.homeChanged dt) else s.homeChanged dt)
      else (s.homeChanged dt).setIce { s.ice with leftMark := true }
    else s.homeChanged dt) := rfl

/-- Settles O52: by the change of the reading, and the two timers. -/
theorem rakeSupervised : Obligations.RakeSupervised := by
  unfold Obligations.RakeSupervised
  intro s dt
  refine ⟨fun still => ?_, fun rake begun home => ?_, fun rake begun away left => ?_,
    fun m rake begun stays runs => ?_, fun m rake begun runs => ?_⟩
  · rw [homeReadingChange_eq, if_neg (mt (raking_iff s).mp still)]; rfl
  · rw [homeReadingChange_eq, if_pos ((raking_iff s).mpr ⟨rake, begun⟩), if_neg (by simp [home]), State.homeChanged, home]
    rfl
  · obtain ⟨st, pending, tray, cycles, request, shell⟩ := rakeDone_leaves (s.homeChanged dt)
    obtain ⟨obs, temps, inputs⟩ := shell.senses
    have row : exec (.homeReadingChange dt) s = .next (rakeDone (s.homeChanged dt)) := by
      rw [homeReadingChange_eq, if_pos ((raking_iff s).mpr ⟨rake, begun⟩), if_pos (by simp [away]), if_pos left]
    refine ⟨_, row, inputs.trans ?_, st, pending, tray, cycles, request, shell.line, shell.link, obs, temps, shell.setup⟩
    show { s.inputs with home := !s.inputs.home } = _
    rw [away]; rfl
  · obtain ⟨st, cause, pending, retry, tray, request, shell⟩ :=
      stall_leaves ((s.reach m).setIce { s.ice with rakeleaveAt := none })
    exact ⟨_, rakeleaveExpiry_eq runs ((raking_iff s).mpr ⟨rake, begun⟩) stays, shell.now, st, cause, pending, retry,
      tray, request, shell.line, shell.link, shell.setup, shell.senses⟩
  · obtain ⟨st, cause, pending, retry, tray, request, shell⟩ :=
      stall_leaves ((s.reach m).setIce { s.ice with rakemaxAt := none })
    exact ⟨_, rakemaxExpiry_eq runs ((raking_iff s).mpr ⟨rake, begun⟩), shell.now, st, cause, pending, retry,
      tray, request, shell.line, shell.link, shell.setup, shell.senses⟩

/-! ### The bin -/

/-- BINWAIT_EXPIRY in BINFULL (R75). -/
theorem binwaitExpiry_eq {s : State} {m : Nat} (full : s.ice.st = .binfull) (runs : s.ice.binwaitAt = some m) :
    exec .binwaitExpiry s = .next (
      if s.inputs.binfull = true then enterBinfull ((s.reach m).setIce { s.ice with binwaitAt := none })
      else (s.reach m).setIce { s.ice with st := .park, binwaitAt := none }) := by
  show execBinwaitExpiry s = _
  unfold execBinwaitExpiry
  rw [runs]
  exact congrArg Host.Outcome.next (if_pos full)

/-- Settles O53. -/
theorem binLookedAt : Obligations.BinLookedAt := by
  unfold Obligations.BinLookedAt
  intro s dt
  refine ⟨rfl, fun m full runs room => ?_, fun m full runs filled => ?_⟩
  · rw [binwaitExpiry_eq full runs, if_neg (by simp [room])]; rfl
  · rw [binwaitExpiry_eq full runs, if_pos filled]
    show Host.Outcome.next ((s.reach m).setIce { s.ice with st := .binfull, binwaitAt := _ }) = _
    rw [← full]; rfl

end Sys2Proof.Machine
end


section
/-! PROOF. The water line's openings, the faults of a fill, and the ends of a fill by time (R46 to R58, R76 to R81). -/

namespace Sys2Proof.Machine

/-! ### A fill request -/

section
variable {u : State} {b : Bool}

/-- A fill request that finds the line idle, with no changeover ahead (R47, R50). -/
theorem fillRequest_opens (idle : u.line.st = .idle)
    (free : ∀ c, u.line.lastClosed = some .wv → u.line.changeoverEnd = some c → c ≤ u.now) :
    fillRequest b u = openIv (u.setLine { u.line with resumes := b }) := by
  have clear : ¬Line.mustChangeOver { u.line with resumes := b } u.now .iv = true := by
    rw [mustChangeOver_iv_iff]
    rintro ⟨e, closed, ends, ahead⟩
    exact absurd ahead (Nat.not_lt.mpr (free e closed ends))
  unfold fillRequest
  rw [idle]
  exact if_neg clear

theorem fillRequest_changesOver {c : Nat} (idle : u.line.st = .idle) (closed : u.line.lastClosed = some .wv)
    (ends : u.line.changeoverEnd = some c) (ahead : u.now < c) :
    fillRequest b u = u.setLine { u.line with st := .changeover .iceMaker, resumes := b } := by
  have must : Line.mustChangeOver { u.line with resumes := b } u.now .iv = true :=
    (mustChangeOver_iv_iff _ _).mpr ⟨c, closed, ends, ahead⟩
  unfold fillRequest
  rw [idle]
  exact if_pos must

theorem fillRequest_waits (pours : u.line.st = .pour) (first : u.line.fillWaiting = false) :
    fillRequest b u = u.setLine { u.line with fillWaiting := true, resumes := b } := by
  unfold fillRequest
  rw [pours]
  exact if_neg (by simp [first])

end

theorem openIv_keeps (u : State) : (openIv u).link = u.link ∧ KeepsSetup u (openIv u) ∧ KeepsSenses u (openIv u) :=
  ⟨openIv_link u, ⟨openIv_mode u, openIv_restartPending u, openIv_ownAddress u, openIv_tables u, openIv_pending u⟩,
    openIv_obs u, openIv_temps u, openIv_inputs u⟩

theorem resumeTimerExpiry_eq {s : State} {e : Nat} (runs : s.ice.resumeAt = some e) :
    exec .resumeTimerExpiry s = .next (fillRequest true
      ((s.reach e).setIce { s.ice with st := .fill .lineWait, resumeAt := none })) := by
  show execResumeTimerExpiry s = _
  unfold execResumeTimerExpiry
  rw [runs]

/-- Settles O54: the changeover's end by its party, and the resume timer by where it finds the line. -/
theorem lineOpens : Obligations.LineOpens := by
  unfold Obligations.LineOpens
  intro s m e
  refine ⟨fun changes ends moment => ?_, fun changes ends moment => ?_, fun runs idle moment free => ?_,
    fun runs pours first moment => ?_, fun c runs idle closed ends moment ahead => ?_⟩
  · have row : exec .changeoverEnd s = .next (openWv (s.reach e)) := by
      show execChangeoverEnd s = _
      unfold execChangeoverEnd
      rw [changes, ends]
    rw [row, moment]; rfl
  · have row : exec .changeoverEnd s = .next (openIv (s.reach e)) := by
      show execChangeoverEnd s = _
      unfold execChangeoverEnd
      rw [changes, ends]
    rw [moment]
    exact ⟨_, row, openIv_now _, openIv_line _, openIv_ice _, openIv_requests _, openIv_keeps _⟩
  · subst moment
    have row := resumeTimerExpiry_eq runs
    rw [fillRequest_opens (u := (s.reach e).setIce { s.ice with st := .fill .lineWait, resumeAt := none }) idle free] at row
    refine ⟨_, row, openIv_now _, ?_, ?_, ?_, openIv_ice_st _, ?_, openIv_ice_elapsed _, openIv_requests _, openIv_keeps _⟩
    · rw [openIv_line]; rfl
    · rw [openIv_line]; rfl
    · rw [openIv_line]; rfl
    · rw [openIv_ice]; rfl
  · rw [resumeTimerExpiry_eq runs, fillRequest_waits
      (u := (s.reach e).setIce { s.ice with st := .fill .lineWait, resumeAt := none }) pours first, moment]
    rfl
  · subst moment
    rw [resumeTimerExpiry_eq runs, fillRequest_changesOver
      (u := (s.reach e).setIce { s.ice with st := .fill .lineWait, resumeAt := none }) idle closed ends ahead]
    rfl

/-! ### Faults of a fill -/

theorem startTrail_shell (s : State) : Shell s (startTrail s) := by
  unfold startTrail
  split
  · exact (giveUpOutput_frame .ft s).shell
  · exact setIce_shell s _

/-- The trail touches nothing of the ice maker but its own timer. -/
theorem startTrail_ice {s : State} (h : s.ice.st ≠ .harvestRake) :
    ∃ m, (startTrail s).ice = { s.ice with trailAt := m } := by
  unfold startTrail
  split
  · exact ⟨s.ice.trailAt, giveUpOutput_ice .ft s h⟩
  · exact ⟨_, rfl⟩

/-- A fill that holds IV open is released by closing it (R51). -/
theorem fillRelease_open {s : State} (h : s.line.st = .fill) : fillRelease s = closeValve .iv s := by
  unfold fillRelease; rw [h]

/-- What of a state `t` around the jobs is known from the closing of IV before it. -/
theorem Shell.closedIv {s t : State} (shell : Shell (closeValve .iv s) t) : t.now = s.now ∧
    t.line = (closeValve .iv s).line ∧ t.link = s.link ∧ KeepsSetup s t ∧ KeepsSenses s t :=
  ⟨shell.now, shell.line, shell.link, shell.setup, shell.senses⟩

/-- A fill fault with a retry left (R81). -/
theorem fillFault_parks {s : State} (opened : s.line.st = .fill)
    (retries : min 255 (s.ice.faultCount + 1) ≤ s.tables.ice.retries) :
    (fillFault s).now = s.now ∧ (fillFault s).ice.st = .park ∧ (fillFault s).ice.retry = s.tables.ice.fillretry ∧
      (fillFault s).ice.faultCount = min 255 (s.ice.faultCount + 1) ∧
      (fillFault s).ice.trayLoaded = s.ice.trayLoaded ∧ (fillFault s).line = (closeValve .iv s).line ∧
      (fillFault s).link = s.link ∧ KeepsSetup s (fillFault s) ∧ KeepsSenses s (fillFault s) := by
  have e : fillFault s = startTrail ((closeValve .iv s).setIce { (closeValve .iv s).ice with
      st := .park, faultCount := min 255 (s.ice.faultCount + 1), retry := s.tables.ice.fillretry
      resumeAt := none }) := by
    unfold fillFault
    dsimp only
    rw [fillRelease_open opened]
    exact if_pos retries
  have shell : Shell (closeValve .iv s) (fillFault s) := by
    rw [e]
    exact (setIce_shell _ _).trans (startTrail_shell _)
  obtain ⟨m, ice⟩ := startTrail_ice (s := (closeValve .iv s).setIce { (closeValve .iv s).ice with
    st := .park, faultCount := min 255 (s.ice.faultCount + 1), retry := s.tables.ice.fillretry, resumeAt := none })
    (by simp)
  rw [← e] at ice
  obtain ⟨now, line, link, setup, senses⟩ := shell.closedIv
  exact ⟨now, by rw [ice]; rfl, by rw [ice]; rfl, by rw [ice]; rfl, by rw [ice]; rfl, line, link, setup, senses⟩

/-- A fill fault with no retry left (R81, R89). -/
theorem fillFault_faults {s : State} (opened : s.line.st = .fill)
    (retries : s.tables.ice.retries < min 255 (s.ice.faultCount + 1)) :
    (fillFault s).ice.st = .fault ∧ (fillFault s).ice.cause = .noflow ∧ (fillFault s).ice.retry = 0 ∧
      (fillFault s).ice.disablePending = false ∧ (fillFault s).ice.faultCount = min 255 (s.ice.faultCount + 1) ∧
      (s.apart .ft → (fillFault s).gate.reqState .ft = .noRequest) ∧ (fillFault s).line = (closeValve .iv s).line ∧
      (fillFault s).link = s.link ∧ KeepsSetup s (fillFault s) ∧ KeepsSenses s (fillFault s) := by
  have e : fillFault s = enterFault .noflow ((closeValve .iv s).setIce { (closeValve .iv s).ice with
      faultCount := min 255 (s.ice.faultCount + 1) }) := by
    unfold fillFault
    dsimp only
    rw [fillRelease_open opened]
    exact if_neg (Nat.not_le.mpr retries)
  have shell : Shell (closeValve .iv s) (fillFault s) := by
    rw [e]
    exact ((setIce_shell _ _).trans (setIce_shell _ _)).trans (giveUpOutput_frame .ft _).shell
  have request : s.apart .ft → (fillFault s).gate.reqState .ft = .noRequest := by
    rw [e]
    exact fun apart => giveUpOutput_apart (o := .ft) apart
  obtain ⟨-, line, link, setup, senses⟩ := shell.closedIv
  refine ⟨?_, ?_, ?_, ?_, ?_, request, line, link, setup, senses⟩ <;> rw [e] <;> simp [enterFault]

/-- The line after IV has closed, in the statements' words. -/
theorem closeIv_line (s : State) : (closeValve .iv s).line.st = .idle ∧ (closeValve .iv s).line.lastClosed = some .iv ∧
    (closeValve .iv s).line.closeAt = s.now ∧ (closeValve .iv s).line.fillTally = s.line.fillTally ∧
    (closeValve .iv s).line.nosupply = s.line.nosupply ∧ (closeValve .iv s).line.noflowSeen = s.line.noflowSeen ∧
    (closeValve .iv s).line.fillOpen = s.fillOpenTime := ⟨rfl, rfl, rfl, rfl, rfl, rfl, rfl⟩

/-- NOFLOWTIME_EXPIRY where no flow has not yet been seen (R57, R58). -/
theorem noflowtimeExpiry_eq {s : State} {m : Nat} (runs : s.line.noflowAt = some m) (unseen : s.line.noflowSeen = false) :
    exec .noflowtimeExpiry s = .next (noflowFound
      ((s.reach m).setLine { s.line with noflowAt := none, noflowSeen := true })) := by
  show execNoflowtimeExpiry s = _
  unfold execNoflowtimeExpiry
  rw [runs]
  exact congrArg Host.Outcome.next (if_neg (by simp [unseen]))

theorem noflowFound_fill {u : State} (h : u.line.st = .fill) : noflowFound u = fillFault u := by
  unfold noflowFound; rw [h]

theorem noflowFound_pour {u : State} (h : u.line.st = .pour) : noflowFound u =
    (u.setLine { u.line with nosupply := true }).setDisp
      (if u.disp.measured = .active then { u.disp with measured := .inactive, pauseAt := none } else u.disp) := by
  unfold noflowFound
  rw [h]
  dsimp only
  rw [State.setLine_disp]
  by_cases active : u.disp.measured = .active
  · rw [if_pos active, if_pos active]; rfl
  · rw [if_neg active, if_neg active]; rfl

/-- Settles O57: the pour that goes on, and the fill that faults with and without a retry left. -/
theorem noFlowFound : Obligations.NoFlowFound := by
  unfold Obligations.NoFlowFound
  intro s m runs unseen
  have row := noflowtimeExpiry_eq runs unseen
  refine ⟨fun pours => ?_, fun fills retries => ?_, fun fills retries => ?_⟩
  · rw [row, noflowFound_pour (u := (s.reach m).setLine { s.line with noflowAt := none, noflowSeen := true }) pours]
    rfl
  · rw [noflowFound_fill (u := (s.reach m).setLine { s.line with noflowAt := none, noflowSeen := true }) fills] at row
    obtain ⟨now, st, retry, count, tray, line, rest⟩ :=
      fillFault_parks (s := (s.reach m).setLine { s.line with noflowAt := none, noflowSeen := true }) fills retries
    exact ⟨_, row, now, st, retry, count, tray, by rw [line]; rfl, by rw [line]; rfl, by rw [line]; rfl,
      by rw [line]; rfl, rest⟩
  · rw [noflowFound_fill (u := (s.reach m).setLine { s.line with noflowAt := none, noflowSeen := true }) fills] at row
    obtain ⟨st, cause, -, -, count, -, line, rest⟩ :=
      fillFault_faults (s := (s.reach m).setLine { s.line with noflowAt := none, noflowSeen := true }) fills retries
    exact ⟨_, row, st, cause, count, decide_eq_true st, by rw [line]; rfl, by rw [line]; rfl, rest⟩

end Sys2Proof.Machine
end


section
/-! PROOF. The ends of a fill by FILLMAX and by volume, and of a measured fill without a meter (R46, R56, R77 to R81,
R105, R113). -/

namespace Sys2Proof.Machine

/-! ### Open times and volumes without a meter -/

/-- The milliseconds of open time that a volume takes come to that volume (R56). -/
theorem volume_of_msForVolume {volume rate ms : Nat} (positive : 0 < rate) (h : msForVolume volume rate ≤ ms) :
    volume ≤ ms * rate / 10000 := by
  have rounds : volume * 10000 ≤ msForVolume volume rate * rate := by
    unfold msForVolume
    have := Nat.lt_div_mul_add (a := volume * 10000 + rate - 1) positive
    omega
  exact (Nat.le_div_iff_mul_le (by decide)).mpr (rounds.trans (Nat.mul_le_mul_right rate h))

theorem msForVolume_le {volume rate bound : Nat} (positive : 0 < rate) (h : volume ≤ bound) :
    msForVolume volume rate ≤ bound * 10000 := by
  unfold msForVolume
  refine Nat.lt_succ_iff.mp ((Nat.div_lt_iff_lt_mul positive).mpr ?_)
  have grows : bound * 10000 ≤ bound * 10000 * rate := Nat.le_mul_of_pos_right _ positive
  rw [Nat.succ_mul]
  omega

/-- The moment at which an opening has lasted `n` milliseconds has been reached. -/
theorem le_msOpen {s : State} {n : Nat} (h : s.line.openedAt + n * Config.tickMs ≤ s.now) : n ≤ s.msOpen := by
  unfold State.msOpen
  exact (Nat.le_div_iff_mul_le (by decide)).mpr (by omega)

/-- An open time that has run for long enough has come to `ms`. -/
theorem le_openTime {ms before opened : Nat} (small : ms ≤ Config.max32) (h : ms - before ≤ opened) :
    ms ≤ satAdd Config.max32 before opened := by
  unfold satAdd; omega

theorem fillOpenTime_open {s : State} (h : s.line.st = .fill) :
    s.fillOpenTime = satAdd Config.max32 s.line.fillOpen s.msOpen := if_pos h

theorem pourOpenTime_open {s : State} (h : s.line.st = .pour) :
    s.pourOpenTime = satAdd Config.max32 s.line.pourOpen s.msOpen := if_pos h

theorem fillVolume_unmetered {s : State} (h : s.line.flowk = 0) :
    s.fillVolume = s.fillOpenTime * s.tables.water.fillrate / 10000 := if_pos h

theorem fillVolume_metered {s : State} (h : s.line.flowk ≠ 0) :
    s.fillVolume = s.line.fillTally * 1000 / s.line.flowk := if_neg h

theorem pourVolume_unmetered {s : State} (h : s.line.flowk = 0) :
    s.pourVolume = s.pourOpenTime * s.tables.water.pourrate / 10000 := if_pos h

theorem pourVolume_metered {s : State} (h : s.line.flowk ≠ 0) :
    s.pourVolume = s.line.pourTally * 1000 / s.line.flowk := if_neg h

/-- Rates and the fill volume in range (R188). -/
theorem inRange_rates {t : Tables} (h : t.inRange) :
    0 < t.water.fillrate ∧ 0 < t.water.pourrate ∧ t.ice.fillvol ≤ 250 := by
  have fillrate : (paramRange 9 1).lo ≤ t.param 9 1 := (le_max_left _ _).trans_eq
    ((paramClamp_eq fun k => absurd k.2.1 (by decide)).symm.trans (h 9 1 (by decide) (by decide) (by decide)))
  have pourrate : (paramRange 9 14).lo ≤ t.param 9 14 := (le_max_left _ _).trans_eq
    ((paramClamp_eq fun k => absurd k.2.1 (by decide)).symm.trans (h 9 14 (by decide) (by decide) (by decide)))
  have fillvol := (paramClamp_eq_self_iff (by decide) (by decide) (by decide) _).mp
    (h 8 0 (by decide) (by decide) (by decide))
  exact ⟨Int.ofNat_lt.mp (lt_of_lt_of_le (by decide) fillrate),
    Int.ofNat_lt.mp (lt_of_lt_of_le (by decide) pourrate), Int.ofNat_le.mp fillvol.2⟩

/-! ### The end of a fill -/

/-- What the successful end of an open fill leaves of the line and the ice maker (R51, R79, R80). -/
theorem fillSuccess_closes {s : State} (opened : s.line.st = .fill) :
    (fillSuccess s).line = (closeValve .iv s).line ∧ (fillSuccess s).ice.elapsed = s.fillElapsed ∧
      (fillSuccess s).now = s.now ∧ (fillSuccess s).ice.st = .freeze ∧ (fillSuccess s).ice.belowtime = 0 ∧
      (fillSuccess s).ice.freezetime = 0 ∧ (fillSuccess s).ice.faultCount = 0 ∧ (fillSuccess s).link = s.link ∧
      KeepsSetup s (fillSuccess s) ∧ KeepsSenses s (fillSuccess s) := by
  obtain ⟨line, now, link, st, below, freeze, count, -, setup, senses⟩ := fillSuccess_leaves s
  rw [fillRelease_open opened] at line
  refine ⟨line, ?_, now, st, below, freeze, count, link, setup, senses⟩
  unfold fillSuccess
  dsimp only
  rw [fillRelease_open opened]
  obtain ⟨m, ice⟩ := startTrail_ice (s := enterFreeze ((closeValve .iv s).setIce
    { (closeValve .iv s).ice with faultCount := 0, resumeAt := none })) (by simp [enterFreeze])
  rw [ice]; rfl

/-- FILLMAX_EXPIRY in FLOWING (R77). -/
theorem fillmaxExpiry_eq {s : State} (flowing : s.ice.st = .fill .flowing) :
    exec .fillmaxExpiry s = .next (endFillByTime
      (s.reach (s.line.openedAt + (s.tables.ice.fillmax * 1000 - s.ice.elapsed) * Config.tickMs))) :=
  congrArg Host.Outcome.next (if_pos flowing)

theorem endFillByTime_succeeds {u : State} (h : u.line.flowk = 0 ∨ u.tables.ice.fillvol / 4 ≤ u.fillVolume) :
    endFillByTime u = fillSuccess u :=
  if_neg fun k => h.elim k.1 (Nat.not_le.mpr k.2)

theorem endFillByTime_faults {u : State} (metered : u.line.flowk ≠ 0) (low : u.fillVolume < u.tables.ice.fillvol / 4) :
    endFillByTime u = fillFault u := if_pos ⟨metered, low⟩

/-- The fill elapsed at the moment FILLMAX runs out (R77). -/
theorem fillmax_elapsed {s : State} (flowing : s.ice.st = .fill .flowing) (opened : s.line.st = .fill) :
    s.tables.ice.fillmax * 1000 ≤
      (s.reach (s.line.openedAt + (s.tables.ice.fillmax * 1000 - s.ice.elapsed) * Config.tickMs)).fillElapsed := by
  have open' : s.tables.ice.fillmax * 1000 - s.ice.elapsed ≤
      (s.reach (s.line.openedAt + (s.tables.ice.fillmax * 1000 - s.ice.elapsed) * Config.tickMs)).msOpen :=
    le_msOpen (le_max_right _ _)
  rw [State.fillElapsed, if_pos ⟨opened, flowing⟩]
  exact Nat.sub_le_iff_le_add'.mp open'

/-- The volume test of a fill that has come to its volume (R77). -/
theorem fillVolumeTest_ends {u : State} (fills : u.ice.st.inFill = true) (opened : u.ice.opened = true)
    (full : u.tables.ice.fillvol ≤ u.fillVolume) : fillVolumeTest u = fillSuccess u :=
  if_pos (by simp [fills, opened, full])

theorem fillVolumeTest_stands {u : State}
    (h : ¬(u.ice.st.inFill = true ∧ u.ice.opened = true ∧ u.tables.ice.fillvol ≤ u.fillVolume)) : fillVolumeTest u = u :=
  if_neg (by simpa [and_assoc] using h)

/-- UNMETERED_VOLUME_REACHED in FLOWING (R56, R77). -/
theorem unmeteredVolumeReached_fill {s : State} (unmetered : s.line.flowk = 0) (opened : s.line.st = .fill)
    (flowing : s.ice.st = .fill .flowing) :
    exec .unmeteredVolumeReached s = .next (fillVolumeTest (s.reach (s.momentOfOpenTime
      (msForVolume s.tables.ice.fillvol s.tables.water.fillrate) s.line.fillOpen))) := by
  refine congrArg Host.Outcome.next ((if_neg (not_not_intro unmetered)).trans ?_)
  rw [opened]
  exact if_pos flowing

/-- The fill volume at that moment is FILLVOL (R56). -/
theorem unmeteredFill_volume {s : State} (unmetered : s.line.flowk = 0) (opened : s.line.st = .fill)
    (range : s.tables.inRange) :
    s.tables.ice.fillvol ≤ (s.reach (s.momentOfOpenTime
      (msForVolume s.tables.ice.fillvol s.tables.water.fillrate) s.line.fillOpen)).fillVolume := by
  obtain ⟨positive, -, small⟩ := inRange_rates range
  have bound : msForVolume s.tables.ice.fillvol s.tables.water.fillrate ≤ Config.max32 :=
    (msForVolume_le positive small).trans (by decide)
  refine (volume_of_msForVolume positive ?_).trans_eq (fillVolume_unmetered (s := s.reach _) unmetered).symm
  rw [fillOpenTime_open (show (s.reach _).line.st = .fill from opened)]
  exact le_openTime bound (le_msOpen (le_max_right _ _))

/-! ### The end of a measured fill -/

/-- UNMETERED_VOLUME_REACHED in a measured fill (R56, R113). -/
theorem unmeteredVolumeReached_pour {s : State} (unmetered : s.line.flowk = 0) (pours : s.line.st = .pour)
    (active : s.disp.measured = .active) :
    exec .unmeteredVolumeReached s = .next (pourVolumeChanged (s.reach (s.momentOfOpenTime
      (msForVolume (s.disp.target - s.disp.pouredBase) s.tables.water.pourrate) s.line.pourOpen))) := by
  refine congrArg Host.Outcome.next ((if_neg (not_not_intro unmetered)).trans ?_)
  rw [pours]
  exact if_pos active

/-- Poured at that moment is the target or more (R56, R105). -/
theorem unmeteredPour_volume {s : State} (unmetered : s.line.flowk = 0) (pours : s.line.st = .pour)
    (range : s.tables.inRange) (small : s.disp.target ≤ 2000) :
    s.disp.target ≤ s.disp.pouredBase + (s.reach (s.momentOfOpenTime
      (msForVolume (s.disp.target - s.disp.pouredBase) s.tables.water.pourrate) s.line.pourOpen)).pourVolume := by
  obtain ⟨-, positive, -⟩ := inRange_rates range
  have bound : msForVolume (s.disp.target - s.disp.pouredBase) s.tables.water.pourrate ≤ Config.max32 :=
    (msForVolume_le positive ((Nat.sub_le _ _).trans small)).trans (by decide)
  refine Nat.sub_le_iff_le_add'.mp ((volume_of_msForVolume positive ?_).trans_eq (pourVolume_unmetered (s := s.reach _) unmetered).symm)
  rw [pourOpenTime_open (show (s.reach _).line.st = .pour from pours)]
  exact le_openTime bound (le_msOpen (le_max_right _ _))

/-- A pour's release with no fill to hand the line on to (R51). -/
theorem pourRelease_idle {s : State} (pours : s.line.st = .pour) (noWait : s.line.fillWaiting = false)
    (noSuspended : s.line.fillSuspended = false) : pourRelease s = closeValve .wv s := by
  have waits : (closeValve .wv s).line.fillWaiting = false := noWait
  have suspended : (closeValve .wv s).line.fillSuspended = false := noSuspended
  unfold pourRelease
  rw [pours]
  dsimp only
  unfold handOn
  rw [waits, suspended]; rfl

/-- Closing WV leaves the ice maker, and of the dispenser all but poured (R46, R105). -/
theorem closeWv_eq {s : State} (pours : s.line.st = .pour) :
    closeValve .wv s = (s.setLine (closeValve .wv s).line).setDisp { s.disp with poured := s.pouredNow } := by
  have elapsed : s.fillElapsed = s.ice.elapsed := if_neg (by simp [pours])
  have split : closeValve .wv s = ((s.setLine (closeValve .wv s).line).setIce
      { s.ice with elapsed := s.fillElapsed }).setDisp { s.disp with poured := s.pouredNow } := rfl
  rw [elapsed] at split
  exact split

/-- The completion of an ACTIVE measured fill, with no fill to hand the line on to (R105, R113). -/
theorem pourVolumeChanged_completes {s : State} (active : s.disp.measured = .active) (pours : s.line.st = .pour)
    (noWait : s.line.fillWaiting = false) (noSuspended : s.line.fillSuspended = false)
    (full : s.disp.target ≤ s.disp.pouredBase + s.pourVolume) :
    pourVolumeChanged s = (s.setLine (closeValve .wv s).line).setDisp { s.disp with
      poured := s.disp.pouredBase + s.pourVolume, measured := .inactive, pourAt := none, st := .lockout
      press := .spent, completed := s.line.flowk ≠ 0 } := by
  have takes : s.disp.takesPour = true := by simp [Disp.takesPour, active]
  have kept : (s.setDisp { s.disp with poured := s.disp.pouredBase + s.pourVolume }).pouredNow =
      s.disp.pouredBase + s.pourVolume := by
    by_cases metered : s.line.flowk = 0
    · exact if_pos (by simp [active, metered, pours])
    · exact pouredNow_metered _ metered
  have closed := closeWv_eq (s := s.setDisp { s.disp with poured := s.disp.pouredBase + s.pourVolume }) pours
  rw [kept] at closed
  unfold pourVolumeChanged
  rw [if_pos takes]
  unfold measuredTest
  refine (if_pos full).trans ?_
  rw [State.setDisp_disp, active]
  dsimp only
  rw [pourRelease_idle (s := s.setDisp { s.disp with poured := s.disp.pouredBase + s.pourVolume }) pours noWait
    noSuspended, closed]
  rfl

/-- FT_TRAIL_EXPIRY (R80). -/
theorem ftTrailExpiry_eq {s : State} {m : Nat} (runs : s.ice.trailAt = some m) :
    exec .ftTrailExpiry s = .next (giveUpOutput .ft ((s.reach m).setIce { s.ice with trailAt := none })) := by
  show execFtTrailExpiry s = _
  unfold execFtTrailExpiry
  rw [runs]

/-- Settles O55: the fill by FILLMAX and by volume, the measured fill by volume, and the trail. -/
theorem fillEnds : Obligations.FillEnds := by
  unfold Obligations.FillEnds
  intro s
  refine ⟨fun flowing opened metered full small => ?_, fun flowing opened metered low retries => ?_,
    fun flowing opened metered low retries => ?_, fun flowing opened unmetered started range _ => ?_,
    fun flowing opened unmetered => ?_, fun pours unmetered active range small _ noWait noSuspended => ?_,
    fun m runs => ?_⟩
  · have row := fillmaxExpiry_eq flowing
    rw [endFillByTime_succeeds (.inr (by rw [fillVolume_metered (s := s.reach _) metered]; exact full))] at row
    obtain ⟨line, -, now, st, below, freeze, count, rest⟩ := fillSuccess_closes
      (s := s.reach (s.line.openedAt + (s.tables.ice.fillmax * 1000 - s.ice.elapsed) * Config.tickMs)) opened
    have filter : satAdd Config.max32 s.line.filterTotal
        ((s.reach (s.line.openedAt + (s.tables.ice.fillmax * 1000 - s.ice.elapsed) * Config.tickMs)).openingEstimate .iv) =
          s.line.filterTotal := by
      rw [openingEstimate_metered _ (s.reach _) metered]; exact satAdd_zero _ _ small
    exact ⟨_, row, st, below, freeze, count, by rw [line]; rfl, by rw [line]; rfl, by rw [line, now]; rfl,
      by rw [line]; rfl, by rw [line]; exact filter, rest⟩
  · have row := fillmaxExpiry_eq flowing
    rw [endFillByTime_faults (u := s.reach _) metered
      (by rw [fillVolume_metered (s := s.reach _) metered]; exact low)] at row
    obtain ⟨-, st, retry, count, -, line, rest⟩ := fillFault_parks
      (s := s.reach (s.line.openedAt + (s.tables.ice.fillmax * 1000 - s.ice.elapsed) * Config.tickMs)) opened retries
    exact ⟨_, row, st, retry, count, by rw [line]; rfl, by rw [line]; rfl, by rw [line]; rfl, rest⟩
  · have row := fillmaxExpiry_eq flowing
    rw [endFillByTime_faults (u := s.reach _) metered
      (by rw [fillVolume_metered (s := s.reach _) metered]; exact low)] at row
    obtain ⟨st, cause, retry, pending, -, request, line, rest⟩ := fillFault_faults
      (s := s.reach (s.line.openedAt + (s.tables.ice.fillmax * 1000 - s.ice.elapsed) * Config.tickMs)) opened retries
    exact ⟨_, row, st, cause, retry, pending, by rw [line]; rfl, by rw [line]; rfl, request, rest⟩
  · have volume := unmeteredFill_volume unmetered opened range
    have row := unmeteredVolumeReached_fill unmetered opened flowing
    rw [fillVolumeTest_ends (u := s.reach _) (by rw [State.reach_ice, flowing]; rfl) started volume] at row
    obtain ⟨line, -, -, st, -, -, count, rest⟩ := fillSuccess_closes (s := s.reach (s.momentOfOpenTime
      (msForVolume s.tables.ice.fillvol s.tables.water.fillrate) s.line.fillOpen)) opened
    refine ⟨_, row, st, by rw [line]; rfl, by rw [line]; rfl, count, ?_, rest⟩
    rw [line]
    exact volume.trans_eq (fillVolume_unmetered (s := s.reach _) unmetered)
  · have row := fillmaxExpiry_eq flowing
    rw [endFillByTime_succeeds (u := s.reach _) (.inl unmetered)] at row
    obtain ⟨line, elapsed, now, st, below, freeze, count, rest⟩ := fillSuccess_closes
      (s := s.reach (s.line.openedAt + (s.tables.ice.fillmax * 1000 - s.ice.elapsed) * Config.tickMs)) opened
    exact ⟨_, row, st, below, freeze, count, by rw [line]; rfl, by rw [line]; rfl, by rw [line, now]; rfl,
      by rw [elapsed]; exact fillmax_elapsed flowing opened, rest⟩
  · have full := unmeteredPour_volume unmetered pours range small
    have row := unmeteredVolumeReached_pour unmetered pours active
    rw [pourVolumeChanged_completes (s := s.reach _) active pours noWait noSuspended full] at row
    refine ⟨_, row, rfl, rfl, rfl, rfl, rfl, full, ?_, rfl, rfl, rfl, rfl, rfl, rfl, ⟨rfl, rfl, rfl, rfl, rfl⟩, rfl, rfl,
      rfl⟩
    exact congrArg (s.disp.pouredBase + ·) (pourVolume_unmetered (s := s.reach _) unmetered)
  · have frame := (giveUpOutput_frame .ft ((s.reach m).setIce { s.ice with trailAt := none })).shell
    refine ⟨_, ftTrailExpiry_eq runs, frame.now, by simp, fun apart => giveUpOutput_apart (o := .ft) apart,
      fun alone => giveUpOutput_alone .ft ((s.reach m).setIce { s.ice with trailAt := none }) rfl alone, frame.line,
      frame.link, frame.setup, frame.senses⟩

end Sys2Proof.Machine
end


section
/-! PROOF. A pulse of the flow meter: the filter, the tally it is credited to, and the volume that ends a fill or a
measured fill (R52 to R63, R77, R105, R113). -/

namespace Sys2Proof.Machine

/-! ### The tally -/

section
variable {u : State}

theorem creditOf_fill (h : u.line.st = .fill) : u.creditOf = .fill := by unfold State.creditOf; rw [h]

theorem creditOf_pour (h : u.line.st = .pour) : u.creditOf = .pour := by unfold State.creditOf; rw [h]

theorem inCoast_iff (u : State) :
    u.inCoast = true ↔ u.now < u.line.closeAt + u.tables.water.coast * Config.tickMs := decide_eq_true_iff

/-- With both valves closed, inside COAST, the side that closed last takes the pulse (R52). -/
theorem creditOf_coastFill (notFill : u.line.st ≠ .fill) (notPour : u.line.st ≠ .pour)
    (closed : u.line.lastClosed = some .iv) (coasts : u.now < u.line.closeAt + u.tables.water.coast * Config.tickMs) :
    u.creditOf = .fill := by
  unfold State.creditOf
  cases st : u.line.st with
  | fill => exact absurd st notFill
  | pour => exact absurd st notPour
  | idle | changeover _ => dsimp only; rw [if_pos ((inCoast_iff u).mpr coasts), closed]

theorem creditOf_coastPour (notFill : u.line.st ≠ .fill) (notPour : u.line.st ≠ .pour)
    (closed : u.line.lastClosed = some .wv) (coasts : u.now < u.line.closeAt + u.tables.water.coast * Config.tickMs) :
    u.creditOf = .pour := by
  unfold State.creditOf
  cases st : u.line.st with
  | fill => exact absurd st notFill
  | pour => exact absurd st notPour
  | idle | changeover _ => dsimp only; rw [if_pos ((inCoast_iff u).mpr coasts), closed]

theorem creditOf_none (notFill : u.line.st ≠ .fill) (notPour : u.line.st ≠ .pour)
    (h : u.line.closeAt + u.tables.water.coast * Config.tickMs ≤ u.now ∨ u.line.lastClosed = none) :
    u.creditOf = .unclaimed := by
  unfold State.creditOf
  cases st : u.line.st with
  | fill => exact absurd st notFill
  | pour => exact absurd st notPour
  | idle | changeover _ =>
    dsimp only
    split
    · next coasts =>
      rw [h.resolve_left (Nat.not_le.mpr ((inCoast_iff u).mp coasts))]
    · rfl

end

/-! ### Closing a valve with a meter -/

/-- The line after a close with a meter: the filter total stands (R46, R62). -/
theorem closeLine_metered (v : Valve) {u : State} (metered : u.line.flowk ≠ 0)
    (small : u.line.filterTotal ≤ Config.max32) :
    (closeValve v u).line = { u.line with
      st := .idle, lastClosed := some v, closeAt := u.now
      changeoverEnd := some (u.now + u.tables.water.changeover * Config.tickMs), noflowAt := none
      fillOpen := u.fillOpenTime, pourOpen := u.pourOpenTime } :=
  congrArg State.line (closeValve_metered v u metered small)

/-! ### A measured fill -/

section
variable {u : State}

/-- Poured, outside a completion (R105). -/
theorem pourVolumeChanged_inactive (inactive : u.disp.measured = .inactive) :
    pourVolumeChanged u = u.setDisp { u.disp with
      poured := if u.disp.completed = true then u.disp.pouredBase + u.pourVolume else u.disp.poured } := by
  have takes : u.disp.takesPour = u.disp.completed := by simp [Disp.takesPour, inactive]
  unfold pourVolumeChanged
  rw [takes]
  by_cases completed : u.disp.completed = true
  · rw [if_pos completed, if_pos completed]
    unfold measuredTest
    rw [State.setDisp_disp, inactive]
    dsimp only
    exact ite_self _
  · rw [if_neg completed, if_neg completed]; rfl

theorem takesPour_measured (measured : u.disp.measured ≠ .inactive) : u.disp.takesPour = true := by
  simp [Disp.takesPour, measured]

theorem pourVolumeChanged_below (measured : u.disp.measured ≠ .inactive)
    (below : u.disp.pouredBase + u.pourVolume < u.disp.target) :
    pourVolumeChanged u = u.setDisp { u.disp with poured := u.disp.pouredBase + u.pourVolume } :=
  (if_pos (takesPour_measured measured)).trans (if_neg (Nat.not_le.mpr below))

/-- The completion of a PAUSED measured fill (R113). -/
theorem pourVolumeChanged_paused (paused : u.disp.measured = .paused)
    (full : u.disp.target ≤ u.disp.pouredBase + u.pourVolume) :
    pourVolumeChanged u = u.setDisp { u.disp with
      poured := u.disp.pouredBase + u.pourVolume, measured := .inactive, pauseAt := none, completed := true } := by
  unfold pourVolumeChanged
  rw [if_pos (takesPour_measured (by simp [paused]))]
  unfold measuredTest
  refine (if_pos full).trans ?_
  rw [State.setDisp_disp, paused]
  rfl

end

/-- The completion of an ACTIVE measured fill with a meter, with no fill to hand the line on to (R113). -/
theorem pourVolumeChanged_metered {u : State} (active : u.disp.measured = .active) (pours : u.line.st = .pour)
    (noWait : u.line.fillWaiting = false) (noSuspended : u.line.fillSuspended = false) (metered : u.line.flowk ≠ 0)
    (small : u.line.filterTotal ≤ Config.max32) (full : u.disp.target ≤ u.disp.pouredBase + u.pourVolume) :
    pourVolumeChanged u = (u.setLine { u.line with
      st := .idle, lastClosed := some .wv, closeAt := u.now
      changeoverEnd := some (u.now + u.tables.water.changeover * Config.tickMs), noflowAt := none
      pourOpen := min 4294967295 (u.line.pourOpen + (u.now - u.line.openedAt) / Config.tickMs) }).setDisp { u.disp with
        poured := u.disp.pouredBase + u.pourVolume, measured := .inactive, pourAt := none, st := .lockout
        press := .spent, completed := true } := by
  have fillOpen : u.fillOpenTime = u.line.fillOpen := if_neg (by simp [pours])
  rw [pourVolumeChanged_completes active pours noWait noSuspended full, closeLine_metered .wv metered small, fillOpen,
    pourOpenTime_open pours, decide_eq_true metered]
  rfl

/-! ### The pulse -/

/-- The line of a state after a pulse has been counted in the filter (R61, R63). -/
theorem advanceFilter_eq (u : State) : advanceFilter u = u.setLine { u.line with
    filterTotal := min 4294967295 (u.line.filterTotal + (u.line.filterRemainder + 1000) / u.line.flowk)
    filterRemainder := (u.line.filterRemainder + 1000) % u.line.flowk
    filterState :=
      if min 4294967295 (u.line.filterTotal + (u.line.filterRemainder + 1000) / u.line.flowk) = u.line.filterTotal
      then u.line.filterState
      else filterStateFor u.tables.water
        (min 4294967295 (u.line.filterTotal + (u.line.filterRemainder + 1000) / u.line.flowk)) } := rfl

section
variable {s : State} {dt : Nat} {l : Line}

/-- A pulse credited to the fill tally. -/
theorem flowPulse_fill (metered : s.line.flowk ≠ 0) (filtered : advanceFilter (s.advance dt) = (s.advance dt).setLine l)
    (credit : (s.advance dt).creditOf = .fill) : exec (.flowPulse dt) s = .next (fillVolumeTest
      ((s.advance dt).setLine { l with
        fillTally := min 65535 (l.fillTally + 1), noflowAt := if l.st = .fill then none else l.noflowAt })) := by
  refine congrArg Host.Outcome.next ((if_neg metered).trans ?_)
  unfold countPulse
  rw [credit]
  dsimp only
  rw [filtered]; rfl

theorem flowPulse_pour (metered : s.line.flowk ≠ 0) (filtered : advanceFilter (s.advance dt) = (s.advance dt).setLine l)
    (credit : (s.advance dt).creditOf = .pour) : exec (.flowPulse dt) s = .next (pourVolumeChanged
      ((s.advance dt).setLine { l with
        pourTally := min 65535 (l.pourTally + 1), noflowAt := if l.st = .pour then none else l.noflowAt })) := by
  refine congrArg Host.Outcome.next ((if_neg metered).trans ?_)
  unfold countPulse
  rw [credit]
  dsimp only
  rw [filtered]; rfl

theorem flowPulse_unclaimed (metered : s.line.flowk ≠ 0)
    (filtered : advanceFilter (s.advance dt) = (s.advance dt).setLine l)
    (credit : (s.advance dt).creditOf = .unclaimed) : exec (.flowPulse dt) s = .next ((s.advance dt).setLine { l with
      unclaimed := min 65535 (l.unclaimed + 1)
      leak := l.leak || (decide (s.mode = .running) &&
        decide (s.tables.water.leakpulses ≤ min 65535 (l.unclaimed + 1))) }) := by
  refine congrArg Host.Outcome.next ((if_neg metered).trans ?_)
  unfold countPulse
  rw [credit]
  dsimp only
  rw [filtered]; rfl

end

/-- The end of a fill on a coast pulse: the line is the dispenser's or idle, and no fill waits or is suspended (R51,
R77, R79). -/
theorem fillSuccess_coasts {u : State} (h : u.line.st = .changeover .dispenser ∨ u.line.st = .idle) :
    (fillSuccess u).line = { u.line with
      fillSuspended := false, fillWaiting := if u.line.st = .idle then u.line.fillWaiting else false } := by
  rw [(fillSuccess_leaves u).1]
  unfold fillRelease
  rcases h with h | h
  · rw [h, if_neg (by simp)]; rfl
  · rw [h, if_pos rfl]; rfl

/-- Settles O56: by the tally that takes the pulse, and by the volume it comes to. -/
theorem pulseCounted : Obligations.PulseCounted := by
  unfold Obligations.PulseCounted
  intro s dt total fill pour l totalEq fillEq pourEq lEq
  refine ⟨fun unmetered => congrArg Host.Outcome.next (if_pos unmetered), fun metered => ?_⟩
  have filtered : advanceFilter (s.advance dt) = (s.advance dt).setLine l := by rw [advanceFilter_eq, lEq, totalEq]; rfl
  have small : l.filterTotal ≤ Config.max32 := by rw [lEq, totalEq]; exact min_le_left _ _
  have kept : l.st = s.line.st ∧ l.flowk = s.line.flowk ∧ l.fillTally = s.line.fillTally ∧
      l.pourTally = s.line.pourTally ∧ l.unclaimed = s.line.unclaimed ∧ l.leak = s.line.leak ∧
      l.noflowAt = s.line.noflowAt ∧ l.fillWaiting = s.line.fillWaiting ∧ l.fillSuspended = s.line.fillSuspended ∧
      l.pourOpen = s.line.pourOpen ∧ l.openedAt = s.line.openedAt ∧ l.fillOpen = s.line.fillOpen ∧
      l.filterTotal = total := by
    rw [lEq]; exact ⟨rfl, rfl, rfl, rfl, rfl, rfl, rfl, rfl, rfl, rfl, rfl, rfl, rfl⟩
  clear lEq totalEq
  obtain ⟨st, flowk, fillTally, pourTally, unclaimed, leak, noflowAt, waits, suspended, pourOpen, openedAt, fillOpen,
    filterTotal⟩ := kept
  have fillLine (y : Option Nat) (timer : (if l.st = .fill then none else l.noflowAt) = y) :
      ({ l with fillTally := min 65535 (l.fillTally + 1), noflowAt := if l.st = .fill then none else l.noflowAt } : Line) =
        { l with fillTally := min 65535 (s.line.fillTally + 1), noflowAt := y } := by rw [timer, fillTally]
  have pourLine : ({ l with
      pourTally := min 65535 (l.pourTally + 1), noflowAt := if l.st = .pour then none else l.noflowAt } : Line) =
        { l with pourTally := min 65535 (s.line.pourTally + 1)
                 noflowAt := if s.line.st = .pour then none else s.line.noflowAt } := by rw [pourTally, st, noflowAt]
  have fillVolume (y : Option Nat) : ((s.advance dt).setLine
      { l with fillTally := min 65535 (s.line.fillTally + 1), noflowAt := y }).fillVolume = fill := by
    refine Eq.trans (fillVolume_metered (show l.flowk ≠ 0 by rw [flowk]; exact metered)) ?_
    rw [fillEq, ← flowk]; rfl
  have pourVolume (y : Option Nat) : ((s.advance dt).setLine
      { l with pourTally := min 65535 (s.line.pourTally + 1), noflowAt := y }).pourVolume = pour := by
    refine Eq.trans (pourVolume_metered (show l.flowk ≠ 0 by rw [flowk]; exact metered)) ?_
    rw [pourEq, ← flowk]; rfl
  refine ⟨fun notFill notPour apart => ?_, fun short => ⟨fun fills => ?_, fun notFill notPour closed coasts => ?_⟩,
    fun inFill opened full => ⟨fun fills => ?_, fun side closed coasts => ?_⟩, fun pours => ?_⟩
  · rw [flowPulse_unclaimed metered filtered (creditOf_none notFill notPour apart), unclaimed, leak]; rfl
  · have row := flowPulse_fill metered filtered (creditOf_fill (u := s.advance dt) fills)
    rw [fillLine none (if_pos (st.trans fills)), fillVolumeTest_stands (by rw [fillVolume]; exact short)] at row
    exact row
  · have row := flowPulse_fill metered filtered (creditOf_coastFill (u := s.advance dt) notFill notPour closed coasts)
    rw [fillLine l.noflowAt (if_neg fun k => notFill (st.symm.trans k)),
      fillVolumeTest_stands (by rw [fillVolume]; exact short)] at row
    exact row
  · have row := flowPulse_fill metered filtered (creditOf_fill (u := s.advance dt) fills)
    rw [fillLine none (if_pos (st.trans fills)),
      fillVolumeTest_ends (u := (s.advance dt).setLine _) inFill opened (by rw [fillVolume]; exact full)] at row
    obtain ⟨line, -, now, ice, below, freeze, count, rest⟩ := fillSuccess_closes (s := (s.advance dt).setLine
      { l with fillTally := min 65535 (s.line.fillTally + 1), noflowAt := none }) (st.trans fills)
    rw [closeLine_metered .iv (u := (s.advance dt).setLine
      { l with fillTally := min 65535 (s.line.fillTally + 1), noflowAt := none })
      (show l.flowk ≠ 0 by rw [flowk]; exact metered) small] at line
    exact ⟨_, row, now, ice, below, freeze, count, by rw [line], by rw [line], by rw [line]; rfl, by rw [line]; rfl,
      by rw [line]; rfl, by rw [line], by rw [line]; exact filterTotal, by rw [line]; rfl, by rw [line]; rfl, rest⟩
  · have notFill : s.line.st ≠ .fill := by rcases side with h | h <;> simp [h]
    have notPour : s.line.st ≠ .pour := by rcases side with h | h <;> simp [h]
    have row := flowPulse_fill metered filtered (creditOf_coastFill (u := s.advance dt) notFill notPour closed coasts)
    rw [fillLine l.noflowAt (if_neg fun k => notFill (st.symm.trans k)),
      fillVolumeTest_ends (u := (s.advance dt).setLine _) inFill opened (by rw [fillVolume]; exact full)] at row
    obtain ⟨-, now, link, ice, below, freeze, count, resume, setup, senses⟩ := fillSuccess_leaves ((s.advance dt).setLine
      { l with fillTally := min 65535 (s.line.fillTally + 1), noflowAt := l.noflowAt })
    have line := fillSuccess_coasts (u := (s.advance dt).setLine
      { l with fillTally := min 65535 (s.line.fillTally + 1), noflowAt := l.noflowAt }) (by
        rw [← st] at side; exact side)
    refine ⟨_, row, now, ice, below, freeze, count, resume, line.trans ?_, link, setup, senses⟩
    show ({ l with
      fillTally := min 65535 (s.line.fillTally + 1), fillSuspended := false
      fillWaiting := if l.st = .idle then l.fillWaiting else false } : Line) = _
    rw [st, waits]
  · have credit : (s.advance dt).creditOf = .pour := by
      rcases pours with pours | ⟨notFill, closed, coasts⟩
      · exact creditOf_pour (u := s.advance dt) pours
      · by_cases pours : s.line.st = .pour
        · exact creditOf_pour (u := s.advance dt) pours
        · exact creditOf_coastPour (u := s.advance dt) notFill pours closed coasts
    have row := flowPulse_pour metered filtered credit
    rw [pourLine] at row
    have volume := pourVolume (if s.line.st = .pour then none else s.line.noflowAt)
    generalize timer : (if s.line.st = .pour then none else s.line.noflowAt) = y at row volume ⊢
    refine ⟨fun inactive => ?_, fun measured below => ?_, fun paused full => ?_,
      fun active full opened noWait noSuspended => ?_⟩
    · rw [row, pourVolumeChanged_inactive (u := (s.advance dt).setLine _) inactive, volume]; rfl
    · rw [row, pourVolumeChanged_below (u := (s.advance dt).setLine _) measured (by rw [volume]; exact below), volume]; rfl
    · rw [row, pourVolumeChanged_paused (u := (s.advance dt).setLine _) paused (by rw [volume]; exact full), volume]; rfl
    · rw [if_pos opened] at timer
      subst timer
      rw [row, pourVolumeChanged_metered (u := (s.advance dt).setLine
        { l with pourTally := min 65535 (s.line.pourTally + 1), noflowAt := none }) active (st.trans opened)
        (waits.trans noWait) (suspended.trans noSuspended) (show l.flowk ≠ 0 by rw [flowk]; exact metered) small
        (by rw [volume]; exact full), volume, ← pourOpen, ← openedAt]
      rfl

end Sys2Proof.Machine
end


section
/-! PROOF. The paddle: presses for water and for ice, and releases (R48, R51, R78, R102 to R110). -/

namespace Sys2Proof.Machine

/-! ### A press judged -/

theorem held_eq_zero_iff (e : ObsEntry) : e.held = 0 ↔ e.st = .never ∨ e.value = 0 := by
  unfold ObsEntry.held
  by_cases h : e.st = .never
  · simp [h]
  · rw [if_neg h]; simp [h]

theorem held_eq_value {e : ObsEntry} (h : e.st ≠ .never) : e.held = e.value := if_neg h

section
variable {u : State}

/-- A press is ignored where the lock is on or the door reads open (R103). -/
theorem pressIgnored_iff (u : State) : u.pressIgnored = true ↔ (u.obs.lock.st ≠ .never ∧ u.obs.lock.value ≠ 0) ∨
    (u.obs.fzdoor.st = .fresh ∧ u.obs.fzdoor.value ≠ 0) := by
  unfold State.pressIgnored State.doorReadsOpen
  rw [Bool.or_eq_true, decide_eq_true_iff, readsOpen_iff, Ne, held_eq_zero_iff, not_or]

theorem selection_water (h : u.obs.select.st = .never ∨ u.obs.select.value = 0) : u.selection = .water := by
  unfold State.selection
  rw [(held_eq_zero_iff _).mpr h]
  rfl

theorem selection_cubes (h : u.obs.select.st ≠ .never) (v : u.obs.select.value = 1) : u.selection = .cubes := by
  unfold State.selection
  rw [held_eq_value h, v]
  rfl

theorem selection_crushed (h : u.obs.select.st ≠ .never) (v : u.obs.select.value = 2) : u.selection = .crushed := by
  unfold State.selection
  rw [held_eq_value h, v]
  rfl

theorem judgePress_spent (h : u.mode = .loading ∨ u.pressIgnored = true) : judgePress u = setPress .spent u :=
  if_neg fun k => h.elim (fun loading => by cases loading.symm.trans k.1)
    fun ignored => Bool.false_ne_true (k.2.2.symm.trans ignored)

theorem judgePress_accepts (running : u.mode = .running) (ready : u.disp.st = .idle ∨ u.disp.st = .flaphold)
    (heard : u.pressIgnored = false) : judgePress u = acceptPress u := if_pos ⟨running, ready, heard⟩

end

/-- The state once the paddle reading has changed. -/
def State.paddleAt (s : State) (dt : Nat) (pressed : Bool) : State :=
  (s.advance dt).setInputs { s.inputs with paddle := pressed }

theorem press_row {s : State} (dt : Nat) (h : s.inputs.paddle = false) :
    exec (.press dt) s = .next (judgePress (s.paddleAt dt true)) :=
  congrArg Host.Outcome.next (if_neg (by simp [h]))

theorem release_row {s : State} (dt : Nat) (h : s.inputs.paddle = true) :
    exec (.release dt) s = .next (paddleReleased (s.paddleAt dt false)) :=
  congrArg Host.Outcome.next (if_pos h)

/-! ### A press for water -/

section
variable {u : State}

theorem settleMeasured_none (inactive : u.disp.measured = .inactive) (zero : u.obs.measure.held = 0) :
    settleMeasured u = u := by
  unfold settleMeasured
  rw [inactive]
  exact if_pos zero

/-- A volume keyed in (R104). -/
theorem settleMeasured_keyed (inactive : u.disp.measured = .inactive) (heard : u.obs.measure.st ≠ .never)
    (volume : u.obs.measure.value ≠ 0) :
    settleMeasured u = (u.setDisp { u.disp with
      measured := .active, target := u.obs.measure.value, poured := 0, pouredBase := 0, completed := false }).setObs
        (u.obs.set .measure { u.obs.measure with value := 0 }) := by
  unfold settleMeasured
  rw [inactive, held_eq_value heard]
  exact if_neg volume

theorem settleMeasured_paused (paused : u.disp.measured = .paused) :
    settleMeasured u = u.setDisp { u.disp with measured := .active, pauseAt := none } := by
  unfold settleMeasured
  rw [paused]

/-- A pour request that finds the line idle, with no changeover ahead (R48, R50). -/
theorem pourRequest_opens (idle : u.line.st = .idle)
    (free : ∀ e, u.line.lastClosed = some .iv → u.line.changeoverEnd = some e → e ≤ u.now) :
    pourRequest u = openWv u := by
  have clear : ¬u.line.mustChangeOver u.now .wv = true := by
    rw [mustChangeOver_wv_iff]
    rintro ⟨e, closed, ends, ahead⟩
    exact absurd ahead (Nat.not_lt.mpr (free e closed ends))
  unfold pourRequest
  rw [idle]
  exact if_neg clear

theorem pourRequest_changesOver {e : Nat} (idle : u.line.st = .idle) (closed : u.line.lastClosed = some .iv)
    (ends : u.line.changeoverEnd = some e) (ahead : u.now < e) :
    pourRequest u = u.setLine { u.line with st := .changeover .dispenser } := by
  unfold pourRequest
  rw [idle]
  exact if_pos ((mustChangeOver_wv_iff _ _).mpr ⟨e, closed, ends, ahead⟩)

theorem pourRequest_takes (h : u.line.st = .changeover .iceMaker) :
    pourRequest u = openWv (u.setLine { u.line with fillWaiting := true }) := by
  unfold pourRequest; rw [h]

/-- A pour request suspends a fill; with a meter the filter total stands (R48, R62, R78). -/
theorem pourRequest_suspends (h : u.line.st = .fill) (flowing : u.ice.st = .fill .flowing) (metered : u.line.flowk ≠ 0)
    (small : u.line.filterTotal ≤ Config.max32) :
    pourRequest u = (u.setIce { u.ice with
      st := .fill .suspended, elapsed := u.ice.elapsed + (u.now - u.line.openedAt) / Config.tickMs }).setLine { u.line with
        st := .changeover .dispenser, fillSuspended := true, lastClosed := some .iv, closeAt := u.now
        changeoverEnd := some (u.now + u.tables.water.changeover * Config.tickMs), noflowAt := none
        fillOpen := min 4294967295 (u.line.fillOpen + (u.now - u.line.openedAt) / Config.tickMs) } := by
  have pourOpen : u.pourOpenTime = u.line.pourOpen := if_neg (by simp [h])
  have elapsed : u.fillElapsed = u.ice.elapsed + u.msOpen := if_pos ⟨h, flowing⟩
  unfold pourRequest
  rw [h]
  dsimp only
  rw [closeValve_metered .iv u metered small, fillOpenTime_open h, pourOpen, elapsed]
  rfl

/-- WV opens; an ACTIVE measured fill sets its poured base, another leaves it (R50, R105). -/
theorem openWv_unmeasured (h : u.disp.measured ≠ .active) : openWv u = (u.setLine { u.line with
      st := .pour, openedAt := u.now, flowk := u.tables.water.flowk, pourTally := 0, pourOpen := 0
      unclaimed := 0, noflowSeen := false, noflowAt := u.noflowStart }).setDisp { u.disp with completed := false } := by
  unfold openWv
  rw [if_neg h]

end

/-- The pour that an accepted press starts, over the state the measured fill has been settled in. -/
def State.startingPour (u : State) (pourAt : Nat) : State :=
  u.setDisp { u.disp with st := .pour, flapAt := none, flap := false, pourAt := some pourAt }

/-- The state in which an accepted press has latched its selection. -/
def State.latching (u : State) (x : Selection) : State := u.setDisp { u.disp with press := .taken, latched := x }

theorem acceptPress_water {u : State} (water : u.selection = .water) :
    acceptPress u = pourRequest ((settleMeasured (u.latching .water)).startingPour
      (u.now + u.tables.water.pourmax * Config.tickSecond)) := by
  unfold acceptPress
  rw [water]
  rfl

theorem acceptPress_ice {u : State} (x : Selection) (ice : u.selection = x) (notWater : x ≠ .water) :
    acceptPress u = startDelivery (u.latching x) := by
  unfold acceptPress
  rw [ice]
  cases x with
  | water => exact absurd rfl notWater
  | cubes => rfl
  | crushed => rfl

/-! ### A press for ice -/

/-- The flap, once out, stays out through a grant (R109). -/
theorem requestOutput_flap (o : Gated) {u : State} (h : u.disp.flap = true) : (requestOutput o u).disp.flap = true := by
  have granted (w : WaitEntry) (ws : List WaitEntry) {t : State} (k : t.disp.flap = true) :
      (grantHead w ws t).disp.flap = true := by
    unfold grantHead ownerTold
    cases w.out with
    | dh | th | ft => exact k
    | am => dsimp only [amGranted]; split <;> [rfl; exact k]
    | em => dsimp only [emGranted]; split <;> exact k
  have settled {t : State} (k : t.disp.flap = true) : (settleHm t).disp.flap = true := by
    unfold settleHm markHeatBegun
    split <;> exact k
  unfold requestOutput
  split
  · exact settled (grantingPass_keeps (fun t => t.disp.flap = true) (fun t w ws k _ _ => granted w ws k) _ _ h)
  · exact h
  · exact h

/-- What the start of a delivery leaves, and its request for AM (R108, R109). -/
theorem startDelivery_leaves (u : State) :
    (startDelivery u).disp.st = .deliver ∧ (startDelivery u).disp.press = u.disp.press ∧
      (startDelivery u).disp.latched = u.disp.latched ∧
      (startDelivery u).disp.adReverse = decide (u.disp.latched = .crushed) ∧ (startDelivery u).disp.flapAt = none ∧
      (u.disp.flap = true → (startDelivery u).disp.flap = true) ∧ (startDelivery u).gate.reqState .am ≠ .noRequest ∧
      Shell u (startDelivery u) := by
  refine ⟨?_, ?_, ?_, ?_, ?_, fun out => requestOutput_flap .am out, requestOutput_requested .am _ (.inl (by decide)),
    (setDisp_shell u _).trans (requestOutput_frame .am _).shell⟩ <;> simp [startDelivery]

/-- AM GRANTED at the press itself (R109, R122, R125). -/
theorem startDelivery_granted {u : State} (inv : u.heaterInv) (unasked : u.gate.reqState .am = .noRequest)
    (empty : u.gate.wait = []) (fits : u.gate.weightInUse .am ≤ u.gate.budgetFree) :
    startDelivery u = { u with
      gate := { u.gate with granted := { u.gate.granted with am := true } }
      disp := { u.disp with
        st := .deliver, adReverse := decide (u.disp.latched = .crushed), delivered := true, flap := true, flapAt := none
        augerAt := some (u.now + u.tables.water.augermax * Config.tickSecond) } } := by
  obtain ⟨closes, closed, -, begun⟩ := inv
  have gate : ({ u.gate with granted := { u.gate.granted with am := true }, wait := [] } : Gate) =
      { u.gate with granted := { u.gate.granted with am := true } } := by rw [← empty]
  have told : ownerTold .am ((u.setDisp { u.disp with
        st := .deliver, adReverse := decide (u.disp.latched = .crushed), delivered := false, flapAt := none }).setGate
      { u.gate with granted := u.gate.granted.set .am true, wait := [] }) =
      (u.setGate { u.gate with granted := { u.gate.granted with am := true } }).setDisp { u.disp with
        st := .deliver, adReverse := decide (u.disp.latched = .crushed), delivered := true, flap := true, flapAt := none
        augerAt := some (u.now + u.tables.water.augermax * Config.tickSecond) } := by
    rw [← gate]
    unfold ownerTold amGranted
    exact if_pos rfl
  refine (requestOutput_alone .am (u.setDisp { u.disp with
    st := .deliver, adReverse := decide (u.disp.latched = .crushed), delivered := false, flapAt := none }) unasked empty
    fits).trans ((congrArg settleHm told).trans ?_)
  exact settleHm_still _ closes closed begun

/-! ### Releases -/

/-- The dispenser once a pour has ended (R106, R107). -/
def State.pourEnded (u : State) (st : DispState) (press : PressStanding) : Disp :=
  { u.disp with
    st := st, press := press, pourAt := none
    measured := if u.disp.measured = .active then .paused else u.disp.measured
    pauseAt := if u.disp.measured = .active
               then some (u.now + u.tables.water.measurehold * Config.tickSecond) else u.disp.pauseAt }

/-- A pour's end over the line's release, where that leaves the dispenser. -/
theorem endPour_of {u v : State} (released : pourRelease u = v) (disp : v.disp = u.disp) (st : DispState)
    (press : PressStanding) : endPour st press u = v.setDisp (u.pourEnded st press) := by
  have now : v.now = u.now := released ▸ pourRelease_now u
  have tables : v.tables = u.tables := released ▸ pourRelease_tables u
  unfold endPour State.pourEnded
  rw [released, pauseMeasured_eq, State.afterSeconds, now, tables, disp]
  rfl

/-- The line after WV has closed with a meter, before it is handed on (R46, R62). -/
def State.wvClosed (u : State) : Line :=
  { u.line with
    lastClosed := some .wv, closeAt := u.now
    changeoverEnd := some (u.now + u.tables.water.changeover * Config.tickMs), noflowAt := none
    pourOpen := min 4294967295 (u.line.pourOpen + (u.now - u.line.openedAt) / Config.tickMs) }

section
variable {u : State}

theorem closeWv_metered (pours : u.line.st = .pour) (metered : u.line.flowk ≠ 0)
    (small : u.line.filterTotal ≤ Config.max32) : closeValve .wv u = u.setLine { u.wvClosed with st := .idle } := by
  have fillOpen : u.fillOpenTime = u.line.fillOpen := if_neg (by simp [pours])
  rw [closeWv_eq pours, closeLine_metered .wv metered small, pouredNow_metered u metered, fillOpen,
    pourOpenTime_open pours]
  rfl

/-- A line that no fill waits for is left idle, and a suspended fill is told (R51, R78). -/
theorem handOn_noWait (noWait : u.line.fillWaiting = false) : handOn u =
    (u.setLine { u.line with fillSuspended := false }).setIce
      (if u.line.fillSuspended = true
       then { u.ice with resumeAt := some (u.now + u.tables.water.resumedelay * Config.tickSecond) } else u.ice) := by
  unfold handOn
  rw [if_neg (by simp [noWait])]
  by_cases suspended : u.line.fillSuspended = true
  · rw [if_pos suspended, if_pos suspended]; rfl
  · have off : u.line.fillSuspended = false := by simpa using suspended
    have same : ({ u.line with fillSuspended := false } : Line) = u.line := by rw [← off]
    rw [if_neg suspended, if_neg suspended, same]; rfl

theorem pourRelease_closing (pours : u.line.st = .pour) (metered : u.line.flowk ≠ 0)
    (small : u.line.filterTotal ≤ Config.max32) :
    pourRelease u = handOn (u.setLine { u.wvClosed with st := .idle }) := by
  unfold pourRelease
  rw [pours]
  exact congrArg handOn (closeWv_metered pours metered small)

theorem pourRelease_changing (changes : u.line.st = .changeover .dispenser) :
    pourRelease u = handOn (u.setLine { u.line with st := .idle }) := by
  unfold pourRelease; rw [changes]

/-- A pour that leaves the line to a fill that waits: the line changes over (R46, R51). -/
theorem pourRelease_handsOver (pours : u.line.st = .pour) (metered : u.line.flowk ≠ 0)
    (small : u.line.filterTotal ≤ Config.max32) (waits : u.line.fillWaiting = true)
    (changeover : u.tables.water.changeover ≠ 0) :
    pourRelease u = u.setLine { u.wvClosed with st := .changeover .iceMaker } := by
  have must : Line.mustChangeOver { u.wvClosed with st := .idle } u.now .iv = true :=
    (mustChangeOver_iv_iff _ _).mpr ⟨_, rfl, rfl,
      Nat.lt_add_of_pos_right (Nat.mul_pos (Nat.pos_of_ne_zero changeover) (by decide))⟩
  rw [pourRelease_closing pours metered small]
  exact (if_pos waits).trans (if_pos must)

/-- A wait for the changeover that leaves the line to a fill: IV, the last to close, opens at once (R46, R51). -/
theorem pourRelease_reopens (changes : u.line.st = .changeover .dispenser) (waits : u.line.fillWaiting = true)
    (closed : u.line.lastClosed = some .iv) : pourRelease u = openIv (u.setLine { u.line with st := .idle }) := by
  have clear : ¬Line.mustChangeOver { u.line with st := .idle } u.now .iv = true := by
    rw [mustChangeOver_iv_iff]
    rintro ⟨e, k, -, -⟩
    cases closed.symm.trans k
  rw [pourRelease_changing changes]
  exact (if_pos waits).trans (if_neg clear)

/-- A release, or POURMAX, hands the line on (R51, R78, R106, R107): with no fill waiting. -/
theorem endPour_idle (st : DispState) (press : PressStanding) (pours : u.line.st = .pour) (metered : u.line.flowk ≠ 0)
    (small : u.line.filterTotal ≤ Config.max32) (noWait : u.line.fillWaiting = false) :
    endPour st press u = ((u.setLine { u.wvClosed with st := .idle, fillSuspended := false }).setIce
      (if u.line.fillSuspended = true
       then { u.ice with resumeAt := some (u.now + u.tables.water.resumedelay * Config.tickSecond) } else u.ice)).setDisp
      (u.pourEnded st press) :=
  endPour_of ((pourRelease_closing pours metered small).trans (handOn_noWait noWait)) rfl st press

/-- The same, with a fill waiting. -/
theorem endPour_handsOver (st : DispState) (press : PressStanding) (pours : u.line.st = .pour)
    (metered : u.line.flowk ≠ 0) (small : u.line.filterTotal ≤ Config.max32) (waits : u.line.fillWaiting = true)
    (changeover : u.tables.water.changeover ≠ 0) :
    endPour st press u =
      (u.setLine { u.wvClosed with st := .changeover .iceMaker }).setDisp (u.pourEnded st press) :=
  endPour_of (pourRelease_handsOver pours metered small waits changeover) rfl st press

/-- A changeover to the dispenser broken off, with no fill waiting. -/
theorem endPour_changing (st : DispState) (press : PressStanding) (changes : u.line.st = .changeover .dispenser)
    (noWait : u.line.fillWaiting = false) :
    endPour st press u = ((u.setLine { u.line with st := .idle, fillSuspended := false }).setIce
      (if u.line.fillSuspended = true
       then { u.ice with resumeAt := some (u.now + u.tables.water.resumedelay * Config.tickSecond) } else u.ice)).setDisp
      (u.pourEnded st press) :=
  endPour_of ((pourRelease_changing changes).trans (handOn_noWait noWait)) rfl st press

/-- A changeover to the dispenser broken off, with a fill waiting: IV opens. -/
theorem endPour_reopens (st : DispState) (press : PressStanding) (pours : u.disp.st = .pour)
    (changes : u.line.st = .changeover .dispenser) (waits : u.line.fillWaiting = true)
    (closed : u.line.lastClosed = some .iv) :
    ∃ t, endPour st press u = t ∧ t.now = u.now ∧ t.disp = u.pourEnded st press ∧
      t.line = { u.line with
        st := .fill, fillWaiting := false, openedAt := u.now, flowk := u.tables.water.flowk
        fillTally := if u.line.resumes then u.line.fillTally else 0
        fillOpen := if u.line.resumes then u.line.fillOpen else 0
        unclaimed := 0, noflowSeen := false
        noflowAt := if u.tables.water.flowk = 0 then none
                    else some (u.now + u.tables.water.noflowtime * Config.tickSecond) } ∧
      t.ice = { u.ice with st := .fill .flowing, opened := true, trayLoaded := true, trailAt := none } ∧
      t.gate.reqState .ft ≠ .noRequest ∧ t.link = u.link ∧ KeepsSetup u t ∧ KeepsSenses u t := by
  have disp : (openIv (u.setLine { u.line with st := .idle })).disp = u.disp := by
    rw [openIv_eq]
    exact requestOutput_disp .ft _ (by show u.disp.st ≠ _; simp [pours])
  exact ⟨_, endPour_of (pourRelease_reopens changes waits closed) disp st press, openIv_now _, rfl, openIv_line _,
    openIv_ice _, openIv_requests _, openIv_keeps _⟩

theorem paddleReleased_pour (h : u.disp.st = .pour) : paddleReleased u = endPour .idle .noPress u := by
  unfold paddleReleased; rw [h]

theorem paddleReleased_deliver (h : u.disp.st = .deliver) : paddleReleased u = endDelivery .noPress u := by
  unfold paddleReleased; rw [h]

theorem paddleReleased_rest (h : u.disp.st = .idle ∨ u.disp.st = .flaphold ∨ u.disp.st = .lockout) :
    paddleReleased u = u.setDisp { u.disp with
      press := .noPress, st := if u.disp.st = .lockout then .idle else u.disp.st } := by
  unfold paddleReleased
  rcases h with h | h | h
  · rw [h, if_neg (by simp)]; exact congrArg u.setDisp (by rw [← h])
  · rw [h, if_neg (by simp)]; exact congrArg u.setDisp (by rw [← h])
  · rw [h, if_pos rfl]

end

end Sys2Proof.Machine
end


section
/-! PROOF. The paddle's presses and releases (O58), the dispenser's timers (O59). -/

namespace Sys2Proof.Machine

/-! ### The accepted press -/

/-- WV opens into an ACTIVE measured fill: its poured base is set (R50, R105). -/
theorem openWv_measured {u : State} (h : u.disp.measured = .active) : openWv u = (u.setLine { u.line with
      st := .pour, openedAt := u.now, flowk := u.tables.water.flowk, pourTally := 0, pourOpen := 0
      unclaimed := 0, noflowSeen := false, noflowAt := u.noflowStart }).setDisp
        { u.disp with pouredBase := u.disp.poured, completed := false } := by
  unfold openWv
  rw [if_pos h]

section
variable {s : State} {dt : Nat}

/-- Neither the lock nor the door has a press ignored (R103). -/
theorem pressIgnored_not (unlocked : s.obs.lock.st = .never ∨ s.obs.lock.value = 0)
    (closed : s.obs.fzdoor.st ≠ .fresh ∨ s.obs.fzdoor.value = 0) : s.pressIgnored = false :=
  Bool.eq_false_iff.mpr fun ignored => ((pressIgnored_iff s).mp ignored).elim
    (fun locked => unlocked.elim locked.1 locked.2) (fun opened => closed.elim (absurd opened.1) opened.2)

theorem spentPress_row (up : s.inputs.paddle = false) (h : s.mode = .loading ∨ s.pressIgnored = true) :
    exec (.press dt) s = .next (setPress .spent (s.paddleAt dt true)) :=
  (press_row dt up).trans (congrArg Host.Outcome.next (judgePress_spent (u := s.paddleAt dt true) h))

theorem acceptedPress_row (up : s.inputs.paddle = false) (running : s.mode = .running)
    (ready : s.disp.st = .idle ∨ s.disp.st = .flaphold) (heard : s.pressIgnored = false) :
    exec (.press dt) s = .next (acceptPress (s.paddleAt dt true)) :=
  (press_row dt up).trans
    (congrArg Host.Outcome.next (judgePress_accepts (u := s.paddleAt dt true) running ready heard))

theorem waterPress_row (up : s.inputs.paddle = false) (running : s.mode = .running)
    (ready : s.disp.st = .idle ∨ s.disp.st = .flaphold) (heard : s.pressIgnored = false)
    (water : s.selection = .water) :
    exec (.press dt) s = .next (pourRequest ((settleMeasured ((s.paddleAt dt true).latching .water)).startingPour
      (s.now + dt + s.tables.water.pourmax * Config.tickSecond))) :=
  (acceptedPress_row up running ready heard).trans
    (congrArg Host.Outcome.next (acceptPress_water (u := s.paddleAt dt true) water))

/-- With no measured fill and none keyed, the pour is asked for from the dispenser as the press found it. -/
theorem plainPress_row (up : s.inputs.paddle = false) (running : s.mode = .running)
    (ready : s.disp.st = .idle ∨ s.disp.st = .flaphold) (heard : s.pressIgnored = false)
    (water : s.selection = .water) (unkeyed : s.obs.measure.st = .never ∨ s.obs.measure.value = 0)
    (inactive : s.disp.measured = .inactive) :
    exec (.press dt) s = .next (pourRequest (((s.paddleAt dt true).latching .water).startingPour
      (s.now + dt + s.tables.water.pourmax * Config.tickSecond))) := by
  rw [waterPress_row up running ready heard water, settleMeasured_none (u := (s.paddleAt dt true).latching .water)
    inactive ((held_eq_zero_iff _).mpr unkeyed)]

theorem icePress_row {x : Selection} (up : s.inputs.paddle = false) (running : s.mode = .running)
    (ready : s.disp.st = .idle ∨ s.disp.st = .flaphold) (heard : s.pressIgnored = false) (ice : s.selection = x)
    (notWater : x ≠ .water) :
    exec (.press dt) s = .next (startDelivery ((s.paddleAt dt true).latching x)) :=
  (acceptedPress_row up running ready heard).trans
    (congrArg Host.Outcome.next (acceptPress_ice (u := s.paddleAt dt true) x ice notWater))

/-- The selection of ice, and the drum's direction (R108). -/
theorem selection_ice (heard : s.obs.select.st ≠ .never) (ice : s.obs.select.value = 1 ∨ s.obs.select.value = 2) :
    s.selection = (if s.obs.select.value = 1 then .cubes else .crushed) ∧ s.selection ≠ .water ∧
      decide (s.selection = .crushed) = decide (s.obs.select.value = 2) := by
  rcases ice with one | two
  · rw [selection_cubes heard one, one]; exact ⟨rfl, by simp, rfl⟩
  · rw [selection_crushed heard two, two]; exact ⟨rfl, by simp, rfl⟩

theorem pourRow (down : s.inputs.paddle = true) (pours : s.disp.st = .pour) :
    exec (.release dt) s = .next (endPour .idle .noPress (s.paddleAt dt false)) :=
  (release_row dt down).trans (congrArg Host.Outcome.next (paddleReleased_pour (u := s.paddleAt dt false) pours))

theorem deliverRow (down : s.inputs.paddle = true) (delivers : s.disp.st = .deliver) :
    exec (.release dt) s = .next (endDelivery .noPress (s.paddleAt dt false)) :=
  (release_row dt down).trans (congrArg Host.Outcome.next (paddleReleased_deliver (u := s.paddleAt dt false) delivers))

end

/-- Settles O58: presses by mode, lock, door and selection, releases by the dispenser's state. -/
theorem pressAndRelease : Obligations.PressAndRelease := by
  unfold Obligations.PressAndRelease
  intro s dt
  refine ⟨fun up ignored => ?ignored, fun up running ready unlocked closed select => ?water,
    fun up running ready unlocked closed heard ice => ?ice, fun down rests => ?rests,
    fun down pours line noWait noSuspended metered small => ?pourAlone,
    fun down pours d l resumeAt hd hl hresume => ?pour, fun down delivers => ?deliver⟩
  case ignored =>
    exact spentPress_row up (ignored.imp_right (pressIgnored_iff s).mpr)
  case water =>
    have heard := pressIgnored_not unlocked closed
    have water := selection_water select
    rintro d l rfl rfl
    refine ⟨fun unkeyed inactive idle free => ?_, fun measure volume inactive idle free => ?_,
      fun paused idle free => ?_, fun unkeyed inactive fills flowing metered small => ?_,
      fun unkeyed inactive changes => ?_, fun e unkeyed inactive idle iv ends ahead => ?_⟩
    · rw [plainPress_row up running ready heard water unkeyed inactive]
      refine congrArg Host.Outcome.next ((pourRequest_opens (u := ((s.paddleAt dt true).latching .water).startingPour _)
        idle free).trans ((openWv_unmeasured ?_).trans rfl))
      show s.disp.measured ≠ .active
      simp [inactive]
    · rw [waterPress_row up running ready heard water,
        settleMeasured_keyed (u := (s.paddleAt dt true).latching .water) inactive measure volume]
      exact congrArg Host.Outcome.next (Eq.trans (pourRequest_opens (by exact idle) (by exact free))
        (openWv_measured (by rfl)))
    · rw [waterPress_row up running ready heard water,
        settleMeasured_paused (u := (s.paddleAt dt true).latching .water) paused]
      exact congrArg Host.Outcome.next (Eq.trans (pourRequest_opens (by exact idle) (by exact free))
        (openWv_measured (by rfl)))
    · rw [plainPress_row up running ready heard water unkeyed inactive]
      exact congrArg Host.Outcome.next ((pourRequest_suspends
        (u := ((s.paddleAt dt true).latching .water).startingPour _) fills flowing metered small).trans rfl)
    · rw [plainPress_row up running ready heard water unkeyed inactive]
      refine congrArg Host.Outcome.next ((pourRequest_takes (u := ((s.paddleAt dt true).latching .water).startingPour _)
        changes).trans ((openWv_unmeasured ?_).trans rfl))
      show s.disp.measured ≠ .active
      simp [inactive]
    · rw [plainPress_row up running ready heard water unkeyed inactive]
      exact congrArg Host.Outcome.next ((pourRequest_changesOver
        (u := ((s.paddleAt dt true).latching .water).startingPour _) idle iv ends ahead).trans rfl)
  case ice =>
    obtain ⟨selected, notWater, reverse⟩ := selection_ice heard ice
    rw [← selected, ← reverse]
    obtain ⟨st, press, latched, adReverse, flapAt, flap, requested, shell⟩ :=
      startDelivery_leaves ((s.paddleAt dt true).latching s.selection)
    exact ⟨_, icePress_row up running ready (pressIgnored_not unlocked closed) rfl notWater, st, press, latched,
      adReverse, flapAt, flap, requested, shell.line, shell.link, shell.senses.1, shell.senses.2.1, shell.setup,
      fun inv unasked empty fits =>
        startDelivery_granted (u := (s.paddleAt dt true).latching s.selection) inv unasked empty fits⟩
  case rests =>
    exact (release_row dt down).trans
      (congrArg Host.Outcome.next (paddleReleased_rest (u := s.paddleAt dt false) rests))
  case pourAlone =>
    rw [pourRow down pours]
    exact congrArg Host.Outcome.next
      (endPour_alone .idle .noPress (s.paddleAt dt false) line metered small noWait noSuspended)
  case pour =>
    subst hd hl hresume
    rw [pourRow down pours]
    refine ⟨fun line metered small waits changeover => ?_, fun line metered small noWait suspended => ?_,
      fun changes noWait => ?_, fun changes waits iv => ?_⟩
    · exact congrArg Host.Outcome.next
        (endPour_handsOver (u := s.paddleAt dt false) .idle .noPress line metered small waits changeover)
    · refine congrArg Host.Outcome.next
        ((endPour_idle (u := s.paddleAt dt false) .idle .noPress line metered small noWait).trans ?_)
      rw [if_pos (by exact suspended)]; rfl
    · exact congrArg Host.Outcome.next (endPour_changing (u := s.paddleAt dt false) .idle .noPress changes noWait)
    · obtain ⟨t, ended, now, disp, line, ice, requested, link, setup, obs, temps, inputs⟩ :=
        endPour_reopens (u := s.paddleAt dt false) .idle .noPress pours changes waits iv
      exact ⟨t, congrArg Host.Outcome.next ended, now, inputs, disp, line, ice, requested, link, obs, temps, setup⟩
  case deliver =>
    obtain ⟨st, press, auger, line, link, -, ⟨obs, temps, inputs⟩, setup⟩ :=
      endDelivery_leaves .noPress (s.paddleAt dt false)
    obtain ⟨free, parks⟩ := endDelivery_gate_ice .noPress (s.paddleAt dt false)
    exact ⟨_, deliverRow down delivers, st, press, auger, endDelivery_flapAt .noPress (s.paddleAt dt false), free, parks,
      inputs, line, link, obs, temps, setup⟩

/-! ### The dispenser's timers -/

theorem pourmaxExpiry_eq {s : State} {m : Nat} (h : s.disp.pourAt = some m) :
    exec .pourmaxExpiry s = .next (endPour .lockout .spent (s.reach m)) := by
  show execPourmaxExpiry s = _
  unfold execPourmaxExpiry
  rw [h]

theorem augermaxExpiry_eq {s : State} {m : Nat} (h : s.disp.augerAt = some m) :
    exec .augermaxExpiry s = .next (endDelivery .spent (s.reach m)) := by
  show execAugermaxExpiry s = _
  unfold execAugermaxExpiry
  rw [h]

theorem flapholdExpiry_eq {s : State} {m : Nat} (h : s.disp.flapAt = some m) : exec .flapholdExpiry s =
    .next ((s.reach m).setDisp { s.disp with flapAt := none, flap := false, st := .idle }) := by
  show execFlapholdExpiry s = _
  unfold execFlapholdExpiry
  rw [h]

theorem measureholdExpiry_eq {s : State} {m : Nat} (h : s.disp.pauseAt = some m) :
    exec .measureholdExpiry s = .next (cancelMeasured (s.reach m)) := by
  show execMeasureholdExpiry s = _
  unfold execMeasureholdExpiry
  rw [h]

theorem handOn_measured (u : State) : (handOn u).disp.measured = u.disp.measured := by
  unfold handOn giveLineToIce
  split
  · split
    · rfl
    · simp [openIv_eq]
  · split <;> rfl

theorem pourRelease_measured (u : State) : (pourRelease u).disp.measured = u.disp.measured := by
  unfold pourRelease
  split <;> simp [handOn_measured]

/-- The end of a pour pauses an ACTIVE measured fill (R106, R107). -/
theorem endPour_measured (st : DispState) (press : PressStanding) (u : State) : (endPour st press u).disp.measured =
    if u.disp.measured = .active then .paused else u.disp.measured := by
  unfold endPour
  rw [pauseMeasured_eq]
  show (if (pourRelease u).disp.measured = .active then _ else (pourRelease u).disp.measured) = _
  rw [pourRelease_measured]

/-- Settles O59: POURMAX over the line's hand-over, AUGERMAX over the delivery's end, FLAPHOLD and MEASUREHOLD. -/
theorem dispenserTimers : Obligations.DispenserTimers := by
  unfold Obligations.DispenserTimers
  intro s m
  refine ⟨fun runs => ?pourmax, fun runs M d l resumeAt hM hd hl hresume => ?handedOn, fun runs => ?augermax,
    fun runs => flapholdExpiry_eq runs, fun runs => measureholdExpiry_eq runs⟩
  case pourmax =>
    obtain ⟨st, press, at', line, link, now, senses, setup⟩ := endPour_leaves .lockout .spent (s.reach m)
    refine ⟨_, pourmaxExpiry_eq runs, now, st, press, at', endPour_measured .lockout .spent (s.reach m),
      fun pours => ?_, link, setup, senses⟩
    obtain ⟨left, closed, closeAt⟩ := line pours
    exact ⟨closed, closeAt, left⟩
  case handedOn =>
    subst hd hl hresume hM
    rw [pourmaxExpiry_eq runs]
    refine ⟨fun line metered small noWait => ?_, fun line metered small waits changeover => ?_,
      fun changes noWait => ?_, fun pours changes waits iv => ?_⟩
    · exact congrArg Host.Outcome.next (endPour_idle (u := s.reach m) .lockout .spent line metered small noWait)
    · exact congrArg Host.Outcome.next
        (endPour_handsOver (u := s.reach m) .lockout .spent line metered small waits changeover)
    · exact congrArg Host.Outcome.next (endPour_changing (u := s.reach m) .lockout .spent changes noWait)
    · obtain ⟨t, ended, rest⟩ := endPour_reopens (u := s.reach m) .lockout .spent pours changes waits iv
      exact ⟨t, congrArg Host.Outcome.next ended, rest⟩
  case augermax =>
    obtain ⟨st, press, auger, line, link, now, senses, setup⟩ := endDelivery_leaves .spent (s.reach m)
    obtain ⟨free, parks⟩ := endDelivery_gate_ice .spent (s.reach m)
    exact ⟨_, augermaxExpiry_eq runs, now, st, press, auger, endDelivery_flapAt .spent (s.reach m), free, parks, line,
      link, setup, senses⟩

end Sys2Proof.Machine
end


section
/-! PROOF. The load gate's timers (O60): promotion, a promoted head granted, HM's two timers. -/

namespace Sys2Proof.Machine

/-! ### The wait list of a promotion -/

/-- An entry of class 0 joins a sorted list behind the entries of class 0 (R123). -/
theorem joinWait_first {e : WaitEntry} (first : e.cls = 0) {l : List WaitEntry}
    (sorted : l.Pairwise (fun x y => x.cls ≤ y.cls)) :
    joinWait e l = l.filter (fun x => x.cls = 0) ++ [e] ++ l.filter (fun x => x.cls ≠ 0) := by
  induction l with
  | nil => rfl
  | cons w ws ih =>
    obtain ⟨least, rest⟩ := List.pairwise_cons.mp sorted
    unfold joinWait
    by_cases zero : w.cls = 0
    · rw [if_pos (by omega), ih rest]
      simp [zero]
    · have none : (w :: ws).filter (fun x => x.cls = 0) = [] := List.filter_eq_nil_iff.mpr fun x hx => by
        rcases List.mem_cons.mp hx with rfl | hx
        · simpa using zero
        · have := least x hx
          simp; omega
      have all : (w :: ws).filter (fun x => x.cls ≠ 0) = w :: ws := List.filter_eq_self.mpr fun x hx => by
        have := List.filter_eq_nil_iff.mp none x hx
        simpa using this
      rw [if_neg (by omega), none, all]
      rfl

section
variable {o : Gated} {w : WaitEntry} {before after : List WaitEntry}

/-- An output on the list once at most has its entry alone (R123). -/
theorem alone_between (own : w.out = o) (once : ((before ++ w :: after).filter (fun x => x.out = o)).length ≤ 1) :
    ∀ x ∈ before ++ after, x.out ≠ o := by
  rw [List.filter_append, List.filter_cons_of_pos (by simpa using own), List.length_append, List.length_cons] at once
  have ahead : before.filter (fun x => x.out = o) = [] := List.eq_nil_of_length_eq_zero (by omega)
  have behind : after.filter (fun x => x.out = o) = [] := List.eq_nil_of_length_eq_zero (by omega)
  intro x hx
  rcases List.mem_append.mp hx with hx | hx
  · simpa using List.filter_eq_nil_iff.mp ahead x hx
  · simpa using List.filter_eq_nil_iff.mp behind x hx

theorem leaveWait_between (own : w.out = o) (alone : ∀ x ∈ before ++ after, x.out ≠ o) :
    leaveWait o (before ++ w :: after) = before ++ after := by
  have stays : leaveWait o (before ++ after) = before ++ after :=
    List.filter_eq_self.mpr fun x hx => by simpa using alone x hx
  rw [← stays]
  simp [leaveWait, own]

theorem find_between (own : w.out = o) (alone : ∀ x ∈ before ++ after, x.out ≠ o) :
    (before ++ w :: after).find? (fun x => x.out = o) = some w := by
  have ahead : before.find? (fun x => x.out = o) = none :=
    List.find?_eq_none.mpr fun x hx => by simpa using alone x (List.mem_append_left _ hx)
  rw [List.find?_append, ahead, Option.none_or, List.find?_cons_of_pos (by simpa using own)]

end

/-- The state in which an output's entry has been promoted, before the pass (R124). -/
def State.promoting (s : State) (m : Nat) (o : Gated) (ws : List WaitEntry) : State :=
  (s.reach m).setGate { s.gate with wait := joinWait { out := o, cls := 0, since := max s.now m, ageAt := none } ws }

section
variable {s : State} {m : Nat} {o : Gated} {w : WaitEntry} {before after : List WaitEntry}

theorem agingTimerExpiry_eq (inv : s.loadInv) (wait : s.gate.wait = before ++ w :: after) (own : w.out = o)
    (cls : w.cls ≠ 0) (age : w.ageAt = some m) :
    exec (.agingTimerExpiry o) s = .next (passAndSettle (s.promoting m o (before ++ after))) := by
  obtain ⟨⟨-, apart, -, -⟩, -⟩ := inv
  have alone := alone_between own (wait ▸ (apart o).2)
  have promoted : promoteOutput w (s.reach m) = passAndSettle (s.promoting m o (before ++ after)) := by
    unfold promoteOutput
    rw [if_neg cls, own, State.reach_gate, wait, leaveWait_between own alone]
    rfl
  show execAgingTimerExpiry o s = _
  unfold execAgingTimerExpiry
  rw [wait, find_between own alone]
  dsimp only
  rw [age]
  exact congrArg Host.Outcome.next promoted

/-- The list once the entry at `w` has left it is sorted still. -/
theorem between_sorted (inv : s.loadInv) (wait : s.gate.wait = before ++ w :: after) :
    (before ++ after).Pairwise (fun x y => x.cls ≤ y.cls) := by
  obtain ⟨⟨-, -, sorted, -⟩, -⟩ := inv
  rw [Gate.sorted, wait] at sorted
  exact sorted.sublist ((List.sublist_cons_self w after).append_left before)

end

/-! ### HM and the heat after a grant -/

theorem heaterInv_of_loadInv {s : State} (inv : s.loadInv) : s.heaterInv := by
  obtain ⟨⟨-, -, -, heaters⟩, -⟩ := inv
  exact heaters

theorem markHeatBegun_eq (u : State) : markHeatBegun u = u.setDefrost { u.defrost with
    heatBegun := u.defrost.heatBegun || decide (u.defrost.st = .heat ∧ u.gate.heaterOn .dh = true) } := by
  unfold markHeatBegun
  split
  · next on => rw [decide_eq_true on, Bool.or_true]
  · next off => rw [decide_eq_false off, Bool.or_false]; rfl

/-- HM and the heat once a heater has been GRANTED, by the state `s` before (R31, R130). -/
theorem settleHm_heater {s u : State} (heaters : u.gate.heaterGranted = true) (hm : u.gate.hm = s.gate.hm)
    (tables : u.tables = s.tables) :
    settleHm u = (u.setGate { u.gate with hm := s.hmOnGrant u.now }).setDefrost { u.defrost with
      heatBegun := u.defrost.heatBegun ||
        decide (u.defrost.st = .heat ∧ (u.gate.granted.dh && decide (s.hmOnGrant u.now = .hmClosed)) = true) } := by
  unfold settleHm
  rw [settledHm_granted s u heaters hm tables, markHeatBegun_eq]
  rfl

theorem hmOnGrant_closed {s : State} {m : Nat} : s.hmOnGrant m = .hmClosed ↔ s.gate.hm = .hmClosed ∨
    ∃ k, s.gate.hm = .hmHolding k := by
  unfold State.hmOnGrant
  cases s.gate.hm <;> simp

/-- Where DH was GRANTED before, a grant to another heater begins no heat (R31). -/
theorem heatBegun_stands {s : State} {m : Nat} (inv : s.heaterInv) :
    (s.defrost.heatBegun ||
      decide (s.defrost.st = .heat ∧ (s.gate.granted.dh && decide (s.hmOnGrant m = .hmClosed)) = true)) =
        s.defrost.heatBegun := by
  obtain ⟨closes, -, -, begun⟩ := inv
  by_cases on : s.defrost.st = .heat ∧ (s.gate.granted.dh && decide (s.hmOnGrant m = .hmClosed)) = true
  · obtain ⟨heat, on⟩ := on
    obtain ⟨granted, now⟩ := Bool.and_eq_true_iff.mp on
    have closed : s.gate.hm = .hmClosed := by
      rcases closes (by simp [Gate.heaterGranted, granted]) with closed | ⟨k, closing⟩
      · exact closed
      · rcases hmOnGrant_closed.mp (of_decide_eq_true now) with closed | ⟨j, holding⟩
        · exact closed
        · cases closing.symm.trans holding
    rw [begun heat (by simp [Gate.heaterOn, GrantSet.get, granted, closed])]
    rfl
  · rw [decide_eq_false on, Bool.or_false]

/-- HM once heaters of the state `s` have been released and none GRANTED (R131). -/
theorem settledHm_fewer {s u : State} (inv : s.heaterInv) (hm : u.gate.hm = s.gate.hm)
    (fewer : u.gate.heaterGranted = true → s.gate.heaterGranted = true) :
    settledHm u = if s.gate.hm = .hmClosed ∧ u.gate.heaterGranted = false
      then .hmHolding (u.now + u.tables.general.hmhold * Config.tickSecond) else s.gate.hm := by
  obtain ⟨closes, -, -, -⟩ := inv
  by_cases closed : s.gate.hm = .hmClosed
  · rw [settledHm_closed (hm.trans closed), closed]
    cases u.gate.heaterGranted <;> rfl
  · rw [if_neg fun k => closed k.1]
    unfold settledHm
    rw [hm]
    cases granted : u.gate.heaterGranted with
    | false => cases at' : s.gate.hm <;> first | rfl | exact absurd at' closed
    | true =>
      obtain ⟨k, closing⟩ := (closes (fewer granted)).resolve_left closed
      rw [closing]

/-- The same once TH alone has been released: a heat that is on has begun before. -/
theorem settleHm_withoutTh {s u : State} (inv : s.heaterInv) (hm : u.gate.hm = s.gate.hm)
    (th : u.gate.granted.th = false) (dh : u.gate.granted.dh = s.gate.granted.dh)
    (ft : u.gate.granted.ft = s.gate.granted.ft) (defrost : u.defrost = s.defrost) :
    settleHm u = u.setGate { u.gate with
      hm := if s.gate.hm = .hmClosed ∧ s.gate.granted.dh = false ∧ s.gate.granted.ft = false
            then .hmHolding (u.now + u.tables.general.hmhold * Config.tickSecond) else s.gate.hm } := by
  have heaters : u.gate.heaterGranted = (s.gate.granted.dh || s.gate.granted.ft) := by
    unfold Gate.heaterGranted
    rw [th, dh, ft, Bool.or_false]
  have fewer : u.gate.heaterGranted = true → s.gate.heaterGranted = true := by
    rw [heaters, Gate.heaterGranted, Bool.or_eq_true, Bool.or_eq_true, Bool.or_eq_true]
    exact fun k => k.imp_left .inl
  unfold settleHm
  rw [settledHm_fewer inv hm fewer, heaters]
  simp only [Bool.or_eq_false_iff]
  refine markHeatBegun_begun fun heat on => ?_
  obtain ⟨-, -, -, begun⟩ := inv
  obtain ⟨granted, closed⟩ := Bool.and_eq_true_iff.mp on
  have before : s.gate.hm = .hmClosed := by
    by_contra other
    have now := of_decide_eq_true closed
    simp only [State.setGate_gate, if_neg (fun k : s.gate.hm = .hmClosed ∧ _ => other k.1)] at now
    exact other now
  show u.defrost.heatBegun = true
  rw [defrost]
  exact begun (defrost ▸ heat) (Bool.and_eq_true_iff.mpr ⟨dh.symm.trans granted, decide_eq_true before⟩)

/-! ### A promoted head GRANTED -/

section
variable {s : State} {m : Nat} {o : Gated} {w : WaitEntry} {before after : List WaitEntry}

theorem promoting_head (inv : s.loadInv) (wait : s.gate.wait = before ++ w :: after)
    (later : ∀ x ∈ before ++ after, x.cls ≠ 0) : (s.promoting m o (before ++ after)).gate.wait =
      { out := o, cls := 0, since := max s.now m, ageAt := none } :: (before ++ after) := by
  have ahead : (before ++ after).filter (fun x => x.cls = 0) = [] :=
    List.filter_eq_nil_iff.mpr fun x hx => by simpa using later x hx
  have behind : (before ++ after).filter (fun x => x.cls ≠ 0) = before ++ after :=
    List.filter_eq_self.mpr fun x hx => by simpa using later x hx
  refine (joinWait_first rfl (between_sorted inv wait)).trans ?_
  rw [ahead, behind]
  rfl

/-- The gate in which the promoted output has been GRANTED (R124, R125). -/
def Gate.grantsHead (g : Gate) (o : Gated) (ws : List WaitEntry) : Gate :=
  { g with granted := g.granted.set o true, wait := ws }

/-- The same, over the state at the timer's moment. -/
def State.grantingHead (s : State) (m : Nat) (o : Gated) (ws : List WaitEntry) : State :=
  (s.reach m).setGate (s.gate.grantsHead o ws)

/-- A heater's grant moves HM by its state, and begins the heat where it is DH's (R31, R127, R130). -/
theorem settleHm_grantingHeater {ws : List WaitEntry} (heater : o.isHeater = true) :
    settleHm (s.grantingHead m o ws) = ((s.reach m).setGate { s.gate.grantsHead o ws with
      hm := s.hmOnGrant (max s.now m) }).setDefrost { s.defrost with
        heatBegun := s.defrost.heatBegun || decide (s.defrost.st = .heat ∧
          ((s.gate.granted.set o true).dh && decide (s.hmOnGrant (max s.now m) = .hmClosed)) = true) } := by
  have heaters : (s.grantingHead m o ws).gate.heaterGranted = true := by
    unfold State.grantingHead Gate.grantsHead Gate.heaterGranted
    cases o <;> simp_all [Gated.isHeater, GrantSet.set]
  exact settleHm_heater (s := s) (u := s.grantingHead m o ws) heaters rfl rfl

/-- The promoted head is GRANTED alone, where its owner leaves the grants and the list. -/
theorem promoted_granted (inv : s.loadInv) (wait : s.gate.wait = before ++ w :: after) (own : w.out = o)
    (cls : w.cls ≠ 0) (age : w.ageAt = some m) (later : ∀ x ∈ before ++ after, x.cls ≠ 0)
    (fits : s.gate.weightInUse o ≤ s.gate.budgetFree) {t : State}
    (told : ownerTold o (s.grantingHead m o (before ++ after)) = t)
    (blocked : ∀ x xs, t.gate.wait = x :: xs → t.gate.budgetFree < t.gate.weightInUse x.out) :
    exec (.agingTimerExpiry o) s = .next (settleHm t) := by
  rw [agingTimerExpiry_eq inv wait own cls age]
  have head : grantHead { out := o, cls := 0, since := max s.now m, ageAt := none } (before ++ after)
      (s.promoting m o (before ++ after)) = t := told
  rw [passAndSettle_head _ _ _ (promoting_head inv wait later) fits (by rw [head]; exact blocked), head]

end

/-- HMSETTLE and HMHOLD run out (R131). -/
theorem hmsettleExpiry_eq {s : State} {m : Nat} (h : s.gate.hm = .hmClosing m) :
    exec .hmsettleExpiry s = .next (settleHm ((s.reach m).setGate { s.gate with hm := .hmClosed })) := by
  show execHmsettleExpiry s = _
  unfold execHmsettleExpiry
  rw [h]
  rfl

theorem hmholdExpiry_eq {s : State} {m : Nat} (h : s.gate.hm = .hmHolding m) :
    exec .hmholdExpiry s = .next ((s.reach m).setGate { s.gate with hm := .hmOpen }) := by
  show execHmholdExpiry s = _
  unfold execHmholdExpiry
  rw [h]

/-! ### The gate's readings -/

theorem reqState_eq (g : Gate) (o : Gated) : g.reqState o = if g.granted.get o = true then .granted
    else if (∃ w ∈ g.wait, w.out = o) then .waiting else .noRequest := by
  unfold Gate.reqState
  simp [List.any_eq_true]

/-- Settles O60: a promotion over a blocked list and to a head that fits, by its output; HM's timers. -/
theorem gateTimers : Obligations.GateTimers := by
  unfold Obligations.GateTimers
  intro s m
  refine ⟨fun o w before after wait inv own cls age heavy => ?blocked,
    fun o w before after M g wait inv own cls age hM later fits hg behind => ?head, fun g o => ?readings,
    fun closing notHeat => ?settles, fun closing heat granted => ?heats, fun holding => hmholdExpiry_eq holding⟩
  case blocked =>
    obtain ⟨closes, closed, -, begun⟩ := heaterInv_of_loadInv inv
    rw [agingTimerExpiry_eq inv wait own cls age, passAndSettle_blocked _ ?heavy,
      settleHm_still (s.promoting m o (before ++ after)) closes closed begun, State.promoting,
      joinWait_first rfl (between_sorted inv wait)]
    case heavy =>
      intro x xs head
      have joined : x ∈ (s.promoting m o (before ++ after)).gate.wait := by rw [head]; exact List.mem_cons_self
      rcases (mem_joinWait _ _ _).mp joined with rfl | kept
      · exact own ▸ heavy w (by simp [wait])
      · refine heavy x ?_
        rw [wait]
        rcases List.mem_append.mp kept with kept | kept <;> simp [kept]
    rfl
  case head =>
    subst hM hg
    have row {t : State} := promoted_granted (t := t) inv wait own cls age later fits
    obtain ⟨closes, closed, onlyInHeat, begun⟩ := heaterInv_of_loadInv inv
    refine ⟨fun heater => ?thft, fun dh => ?dh, fun am delivers => ?am, fun em rakes empty => ?em⟩
    case thft =>
      have stands : ({ s.defrost with heatBegun := s.defrost.heatBegun || decide (s.defrost.st = .heat ∧
          (s.gate.granted.dh && decide (s.hmOnGrant (max s.now m) = .hmClosed)) = true) } : Defrost) = s.defrost := by
        rw [heatBegun_stands (heaterInv_of_loadInv inv)]
      rcases heater with rfl | rfl
      · exact (row rfl behind).trans (congrArg Host.Outcome.next
          ((settleHm_grantingHeater rfl).trans (congrArg (State.setDefrost _) stands)))
      · exact (row rfl behind).trans (congrArg Host.Outcome.next
          ((settleHm_grantingHeater rfl).trans (congrArg (State.setDefrost _) stands)))
    case dh =>
      subst dh
      have heat : s.defrost.st = .heat := by
        by_contra other
        have waits := onlyInHeat other
        rw [reqState_eq, wait] at waits
        split at waits <;> simp_all
      refine (row rfl behind).trans (congrArg Host.Outcome.next
        ((settleHm_grantingHeater rfl).trans (congrArg (State.setDefrost _) ?_)))
      show ({ s.defrost with heatBegun := s.defrost.heatBegun || decide (s.defrost.st = .heat ∧
        (true && decide (s.hmOnGrant (max s.now m) = .hmClosed)) = true) } : Defrost) = _
      simp only [heat, true_and, Bool.true_and, decide_eq_true_eq]
    case am =>
      subst am
      refine (row (if_pos delivers) behind).trans (congrArg Host.Outcome.next ?_)
      exact settleHm_still _ closes closed begun
    case em =>
      subst em
      obtain ⟨rfl, rfl⟩ := List.append_eq_nil_iff.mp empty
      have told : ownerTold .em (s.grantingHead m .em ([] ++ [])) = _ := emGranted_rakes rakes
      refine (row told (fun x xs h => ?_)).trans (congrArg Host.Outcome.next (Eq.trans
        (settleHm_withoutTh (s := s) (heaterInv_of_loadInv inv) (by rfl) (by rfl) (by rfl) (by rfl) (by rfl)) rfl))
      cases h
  case readings =>
    exact ⟨reqState_eq g o, by simp [Gate.heaterOn], by simp [Gate.heaterGranted, or_assoc], rfl,
      fun b => ⟨GrantSet.get_set_same _ _ _, fun p h => GrantSet.get_set_other _ _ h⟩, rfl, rfl⟩
  case settles =>
    rw [hmsettleExpiry_eq closing,
      settleHm_released (u := (s.reach m).setGate { s.gate with hm := .hmClosed }) rfl fun heat => absurd heat notHeat]
    rfl
  case heats =>
    have heaters : s.gate.heaterGranted = true := by simp [Gate.heaterGranted, granted]
    rw [hmsettleExpiry_eq closing]
    unfold settleHm
    rw [settledHm_closed rfl, if_pos (by exact heaters)]
    exact congrArg Host.Outcome.next (if_pos ⟨heat, by
      show (s.gate.granted.dh && true) = true
      rw [granted]; rfl⟩)

end Sys2Proof.Machine
end


section
/-! PROOF. A frame's fate and a frame's observations; the frames from TRUNK for other nodes (O31). -/

namespace Sys2Proof.Machine

/-! ### What a frame lifts -/

/-- A frame at the port lifts the observations `o`, whatever has happened to the link before, and nothing ends by it. -/
def State.observes (s : State) (p : Port) (f : Frame) (m : Nat) (o : ObsTable) : Prop :=
  ∀ u : State, u.tables = s.tables → u.obs = s.obs → u.disp = s.disp → u.now = m →
    takeObservations p f u = u.setObs o

section
variable {s : State} {p : Port} {f : Frame} {m : Nat}

/-- A frame that changes no state lifts nothing. -/
theorem observes_nothing (h : ∀ u : State, u.tables = s.tables → takeObservations p f u = u) :
    s.observes p f m s.obs := fun u tables obs _ _ => by rw [h u tables, ← obs]; rfl

theorem observes_noHits (h : ∀ e ∈ s.tables.route, e.hits p f = false) : s.observes p f m s.obs :=
  observes_nothing fun u tables => takeObservations_noHits p f u (tables ▸ h)

theorem observes_noKinds (h : ∀ x ∈ s.tables.route, x.hits p f = true → x.kind = none) : s.observes p f m s.obs :=
  observes_nothing fun u tables => takeObservations_noKinds p f u (tables ▸ h)

theorem observes_stands (h : s.pourStands (s.liftedObs p f m)) : s.observes p f m (s.liftedObs p f m) := by
  intro u tables obs disp now
  have same : u.liftedObs p f u.now = s.liftedObs p f m := by unfold State.liftedObs; rw [tables, obs, disp, now]
  rw [takeObservations_stands p f u (by rw [same]; unfold State.pourStands; rw [disp]; exact h), same]

section
variable {before after : List RouteEntry} {e : RouteEntry}

theorem observes_oneMiss (route : s.tables.route = before ++ e :: after)
    (others : ∀ x ∈ before ++ after, x.hits p f = false) (hit : e.hits p f = true)
    (misses : e.kind = none ∨ ∃ k, e.kind = some k ∧ decodeValue e f.payload k = none) : s.observes p f m s.obs :=
  observes_nothing fun u tables => takeObservations_oneMiss p f u before after e (tables ▸ route) others hit misses

theorem observes_oneHit {k : ObsKind} {v : Nat} (route : s.tables.route = before ++ e :: after)
    (others : ∀ x ∈ before ++ after, x.hits p f = false) (hit : e.hits p f = true) (kind : e.kind = some k)
    (value : decodeValue e f.payload k = some v) (free : k = .measure → s.disp.measured = .inactive)
    (noPour : s.disp.st ≠ .pour) (noDelivery : s.disp.st ≠ .deliver) :
    s.observes p f m (s.obs.set k
      { value := v, st := .fresh, age := 0, source := .route before.length, ageAt := m + Config.tickSecond }) := by
  intro u tables obs disp now
  rw [← now, ← obs]
  exact takeObservations_oneHit p f u before after e k v (tables ▸ route) others hit kind value (disp ▸ free)
    (disp ▸ noPour) (disp ▸ noDelivery)

end

section
variable {before mid after : List RouteEntry} {a b : RouteEntry} {k l : ObsKind} {v : Nat}

/-- Two entries match, and the first lifts a value: the second's is stored after it, or the first's stands. -/
theorem observes_twoHits (route : s.tables.route = before ++ a :: (mid ++ b :: after))
    (others : ∀ x ∈ before ++ mid ++ after, x.hits p f = false) (hitA : a.hits p f = true) (hitB : b.hits p f = true)
    (kindA : a.kind = some k) (kindB : b.kind = some l) (value : decodeValue a f.payload k = some v)
    (free : k = .measure ∨ l = .measure → s.disp.measured = .inactive)
    (noPour : s.disp.st ≠ .pour) (noDelivery : s.disp.st ≠ .deliver) :
    (∀ w, decodeValue b f.payload l = some w → s.observes p f m ((s.obs.set k
      { value := v, st := .fresh, age := 0, source := .route before.length, ageAt := m + Config.tickSecond }).set l
      { value := w, st := .fresh, age := 0, source := .route (before.length + 1 + mid.length)
        ageAt := m + Config.tickSecond })) ∧
    (decodeValue b f.payload l = none → s.observes p f m (s.obs.set k
      { value := v, st := .fresh, age := 0, source := .route before.length, ageAt := m + Config.tickSecond })) := by
  have freeA : k ≠ .measure ∨ s.disp.measured = .inactive := (em _).imp_right (fun h => free (.inl (not_not.mp h)))
  have freeB : l ≠ .measure ∨ s.disp.measured = .inactive := (em _).imp_right (fun h => free (.inr (not_not.mp h)))
  have row (u : State) (tables : u.tables = s.tables) (disp : u.disp = s.disp) :=
    takeObservations_twoHits p f u before mid after a b k l (tables ▸ route) others hitA hitB kindA kindB
      (disp ▸ noPour) (disp ▸ noDelivery)
  refine ⟨fun w second u tables obs disp now => ?_, fun missed u tables obs disp now => ?_⟩
  · rw [row u tables disp, value, second, ← now, ← obs]
    show updateObs l w _ (updateObs k v _ u) = _
    rw [updateObs_stores (s := u) v _ (disp ▸ freeA), updateObs_stores w _ (by exact disp ▸ freeB)]
    rfl
  · rw [row u tables disp, value, missed, ← now, ← obs]
    exact updateObs_stores (s := u) v _ (disp ▸ freeA)

end

/-- A frame that lifts an open FZDOOR ends a pour or a delivery (R106, R110, R148). -/
theorem takeObservations_ends {u : State} (now : u.now = m) (setup : KeepsSetup s u) (senses : KeepsSenses s u)
    (jobs : KeepsJobs s u) (runs : s.disp.st = .pour ∨ s.disp.st = .deliver) (lifts : s.liftsDoor p f)
    (opened : (s.liftedObs p f m).fzdoor.value ≠ 0) :
    ∃ t, takeObservations p f u = t ∧ t.now = m ∧ EndsByDoor s t ∧ t.obs = s.liftedObs p f m ∧ t.temps = s.temps ∧
      t.inputs = s.inputs ∧ KeepsSetup s t ∧ t.link = u.link := by
  obtain ⟨mode, restart, own, tables, pending⟩ := setup
  obtain ⟨obs, temps, inputs⟩ := senses
  obtain ⟨-, -, disp, line, -⟩ := jobs
  have same : u.liftedObs p f u.now = s.liftedObs p f m := by unfold State.liftedObs; rw [tables, obs, disp, now]
  obtain ⟨ends, link, now', ⟨obs', temps', inputs'⟩, mode', restart', own', tables', pending'⟩ :=
    doorOpened_ends (u.setObs (s.liftedObs p f m)) (by exact disp ▸ runs)
  refine ⟨_, takeObservations_opens p f u (by unfold State.liftsDoor; rw [tables]; exact lifts) (by rw [same]; exact opened),
    ?_⟩
  rw [same]
  refine ⟨now'.trans now, ?_, obs', temps'.trans temps, inputs'.trans inputs,
    ⟨mode'.trans mode, restart'.trans restart, own'.trans own, tables'.trans tables, pending'.trans pending⟩, link⟩
  unfold EndsByDoor
  rw [← disp, ← line]
  exact ends

end

/-! ### A frame's fate -/

section
variable {s : State} {p : Port} {f : Frame} {a : RouteAction}

theorem decidingAction_decided (h : s.decidedBy p f a) : decidingAction p f s.tables.route = some a := by
  obtain ⟨decides, before, after, e, route, notes, hit, action⟩ := h
  rw [route, decidingAction_first p f before after e notes hit (action ▸ decides), action]

theorem decidingAction_noted (h : s.onlyNoted p f) : decidingAction p f s.tables.route = none :=
  decidingAction_onlyNotes p f _ h

theorem onlyNoted_noHits (h : ∀ e ∈ s.tables.route, e.hits p f = false) : s.onlyNoted p f :=
  fun x hx hit => absurd hit (by simp [h x hx])

section
variable {before after : List RouteEntry} {e : RouteEntry}

theorem decidedBy_alone (route : s.tables.route = before ++ e :: after)
    (others : ∀ x ∈ before ++ after, x.hits p f = false) (hit : e.hits p f = true) (action : e.action = a)
    (decides : a ≠ .noteOnly) : s.decidedBy p f a :=
  ⟨decides, before, after, e, route,
    fun x hx hit => absurd hit (by simp [others x (List.mem_append_left _ hx)]), hit, action⟩

theorem onlyNoted_alone (route : s.tables.route = before ++ e :: after)
    (others : ∀ x ∈ before ++ after, x.hits p f = false) (notes : e.action = .noteOnly) : s.onlyNoted p f := by
  intro x hx hit
  rw [route] at hx
  rcases List.mem_append.mp hx with hx | hx
  · exact absurd hit (by simp [others x (List.mem_append_left _ hx)])
  · rcases List.mem_cons.mp hx with rfl | hx
    · exact notes
    · exact absurd hit (by simp [others x (List.mem_append_right _ hx)])

end

/-- Two entries match: the first decides, or it only notes and the second decides (R166). -/
theorem keepsBack_twoHits {before mid after : List RouteEntry} {x y : RouteEntry}
    (route : s.tables.route = before ++ x :: (mid ++ y :: after))
    (others : ∀ z ∈ before ++ mid ++ after, z.hits .trunk f = false) (hitX : x.hits .trunk f = true)
    (hitY : y.hits .trunk f = true)
    (fate : x.action = .discard ∨ (x.action = .noteOnly ∧
      (y.action = .discard ∨ (y.action = .noteOnly ∧ s.tables.general.trunkdefault = 2)))) : s.keepsBack f := by
  have missed {z : RouteEntry} {q : Prop} (hz : z ∈ before ++ mid ++ after) (hit : z.hits .trunk f = true) : q :=
    absurd hit (by simp [others z hz])
  rcases fate with discards | ⟨notes, discards | ⟨notes', default⟩⟩
  · exact .inl ⟨by decide, before, _, x, route, fun z hz hit => missed (by simp [hz]) hit, hitX, discards⟩
  · refine .inl ⟨by decide, before ++ x :: mid, after, y, by rw [route]; simp, fun z hz hit => ?_, hitY, discards⟩
    rcases List.mem_append.mp hz with hz | hz
    · exact missed (by simp [hz]) hit
    · rcases List.mem_cons.mp hz with rfl | hz
      · exact notes
      · exact missed (by simp [hz]) hit
  · refine .inr ⟨fun z hz hit => ?_, .inl default⟩
    rw [route] at hz
    rcases List.mem_append.mp hz with hz | hz
    · exact missed (by simp [hz]) hit
    · rcases List.mem_cons.mp hz with rfl | hz
      · exact notes
      · rcases List.mem_append.mp hz with hz | hz
        · exact missed (by simp [hz]) hit
        · rcases List.mem_cons.mp hz with rfl | hz
          · exact notes'
          · exact missed (by simp [hz]) hit

theorem forwardsTrunk_sendsOn (h : s.sendsOn f) : s.tables.forwardsTrunk f = true := by
  unfold Tables.forwardsTrunk
  rcases h with decided | ⟨noted, always | ⟨byDoorSet, listed⟩⟩
  · rw [decidingAction_decided decided]; rfl
  · rw [decidingAction_noted noted, always]; rfl
  · rw [decidingAction_noted noted, byDoorSet]
    rcases listed with listed | listed <;> simp [listed]

theorem forwardsTrunk_keepsBack (h : s.keepsBack f) : s.tables.forwardsTrunk f = false := by
  unfold Tables.forwardsTrunk
  rcases h with decided | ⟨noted, never | ⟨byDoorSet, other, unlisted⟩⟩
  · rw [decidingAction_decided decided]; rfl
  · rw [decidingAction_noted noted, never]; rfl
  · rw [decidingAction_noted noted, byDoorSet]
    simp [other, unlisted]

end

/-! ### A frame for another node, complete at TRUNK -/

/-- A good frame for another node completes at TRUNK. -/
abbrev State.completesTrunk (s : State) (f : Frame) : Prop :=
  s.link.trunk.tx = .idle ∧ s.link.trunk.rx = .atCheck f.lead f.kind f.payload ∧
    f.check = frameCheck f.lead f.kind f.payload ∧ f.kind ≠ 0x7F#8 ∧ f.lead ≠ s.ownAddress

/-- The state once a frame complete at TRUNK has been offered to the relay queue. -/
def State.relayed (s : State) (dt : Nat) (f : Frame) : State :=
  (s.heard dt .trunk .waiting).setLink
    ((s.heard dt .trunk .waiting).link.offerRelay s.tables.general (s.now + dt) f)

section
variable {s : State} {dt : Nat} {f : Frame}

theorem kept_row (complete : s.completesTrunk f) (kept : s.tables.forwardsTrunk f = false) :
    exec (.trunkFrameReceived dt f.check) s = .next (takeObservations .trunk f (s.heard dt .trunk .waiting)) := by
  obtain ⟨idle, atCheck, good, known, other⟩ := complete
  rw [trunkFrame_good dt idle atCheck good]
  unfold classifyTrunk
  rw [if_neg known, if_neg (by exact other), if_neg (by exact fun k => Bool.false_ne_true (kept.symm.trans k))]

theorem sent_row (complete : s.completesTrunk f) (sends : s.tables.forwardsTrunk f = true) :
    exec (.trunkFrameReceived dt f.check) s = .next (takeObservations .trunk f (s.relayed dt f)) := by
  obtain ⟨idle, atCheck, good, known, other⟩ := complete
  rw [trunkFrame_good dt idle atCheck good]
  unfold classifyTrunk
  rw [if_neg known, if_neg (by exact other), if_pos (by exact sends)]
  rfl

/-- A frame with room in the relay queue joins it (R169, R172, R173, R175). -/
theorem relayed_joins (isOpen : s.link.flow = .flowOpen) (room : s.link.relay.length ≤ 3) (o : ObsTable) :
    JoinsRelayLifting s ((s.relayed dt f).setObs o) dt f o := by
  have expects : f.expectsReply = (decide (f.kind.toNat ≤ 126) && decide (f.lead ≠ 63#8)) := by
    unfold Frame.expectsReply
    rw [show decide (f.kind.toNat < 127) = decide (f.kind.toNat ≤ 126) from decide_eq_decide.mpr (by omega)]
  have link : ((s.relayed dt f).setObs o).link = Link.kickDoor (s.now + dt) (Link.flowAfterAppend s.tables.general
      { (s.heard dt .trunk .waiting).link with
        relay := s.link.relay ++ [{ frame := f, expectsReply := f.expectsReply }] }) :=
    if_pos ⟨isOpen, Nat.lt_succ_of_le room⟩
  obtain ⟨sends, stays⟩ := kickDoor_leaves (s.now + dt) (Link.flowAfterAppend s.tables.general
      { (s.heard dt .trunk .waiting).link with
        relay := s.link.relay ++ [{ frame := f, expectsReply := f.expectsReply }] }) (by simp)
  simp only [flowAfterAppend_door, flowAfterAppend_doorSide] at sends stays
  refine ⟨?_, ?_, ?_, ?_, ?_, ?_, ?_, ?_, rfl, ⟨rfl, rfl, rfl, rfl, rfl⟩, ⟨rfl, rfl, rfl⟩, rfl, rfl, rfl, rfl, rfl⟩ <;>
    rw [link]
  · rw [kickDoor_relay, flowAfterAppend_relay, expects]
  · rw [kickDoor_flow, flowAfterAppend_flow]
    simp only [List.length_append, List.length_cons, List.length_nil, Nat.zero_add]
    exact congrArg (fun x => if s.tables.general.relayhigh ≤ s.link.relay.length + 1 then RelayFlow.flowBusy else x) isOpen
  · exact sends
  · exact stays
  · simp; rfl
  · simp; rfl
  · simp; rfl
  · simp; rfl

/-- A frame without room, or with the flow BUSY, is refused: counted, and a request's sender told (R172, R178, R179). -/
theorem relayed_refused (refuses : s.link.flow = .flowBusy ∨ 4 ≤ s.link.relay.length)
    (queue : s.link.uplink.length ≤ 3) : s.relayed dt f = { s with
      now := s.now + dt
      link := { s.link with
        trunk := { rx := .waiting, tx := .idle, lastChar := some (s.now + dt) }
        doorCount := { s.link.doorCount with busy := min 65535 (s.link.doorCount.busy + 1) }
        trunkCount := if f.kind.toNat ≤ 126 ∧ f.lead ≠ 63#8 ∧ s.link.uplink.length = 3
          then { s.link.trunkCount with dropped := min 65535 (s.link.trunkCount.dropped + 1) }
          else s.link.trunkCount
        uplink := if f.kind.toNat ≤ 126 ∧ f.lead ≠ 63#8 ∧ s.link.uplink.length ≤ 2 then
                    s.link.uplink ++ [{ frame := Frame.build f.lead 0xFF [f.lead, f.kind, 2], isRestartReply := false }]
                  else s.link.uplink } } := by
  have full : ¬(s.link.flow = .flowOpen ∧ s.link.relay.length < 4) := by
    rintro ⟨isOpen, room⟩
    rcases refuses with busy | full
    · cases isOpen.symm.trans busy
    · omega
  have offered : (s.heard dt .trunk .waiting).link.offerRelay s.tables.general (s.now + dt) f =
      if f.expectsReply then Link.offerUplink (s.now + dt) (relayNotice f noticeBusy) false
        (s.heard dt .trunk .waiting).link.countBusy else (s.heard dt .trunk .waiting).link.countBusy := if_neg full
  have expects : f.expectsReply = true ↔ f.kind.toNat ≤ 126 ∧ f.lead ≠ 63#8 := by
    unfold Frame.expectsReply
    simp only [Bool.and_eq_true, decide_eq_true_iff]
    exact and_congr_left' Nat.lt_succ_iff
  unfold State.relayed
  rw [offered]
  by_cases request : f.kind.toNat ≤ 126 ∧ f.lead ≠ 63#8
  · rw [if_pos (expects.mpr request)]
    obtain ⟨low, other⟩ := request
    by_cases room : s.link.uplink.length ≤ 2
    · rw [offerUplink_noisy _ _ _ (s.heard dt .trunk .waiting).link.countBusy (Nat.lt_succ_of_le room) 
          (quiet_of_justHeard (s.now + dt) (s.heard dt .trunk .waiting).link.trunk rfl), if_neg (by omega),
        if_pos ⟨low, other, room⟩]
      rfl
    · rw [offerUplink_full _ _ _ (s.heard dt .trunk .waiting).link.countBusy (by show 3 ≤ s.link.uplink.length; omega), if_pos ⟨low, other, by omega⟩,
        if_neg fun k => room k.2.2]
      rfl
  · rw [if_neg fun k => request (expects.mp k), if_neg fun k => request ⟨k.1, k.2.1⟩,
      if_neg fun k => request ⟨k.1, k.2.1⟩]
    rfl

variable {o : ObsTable}

theorem kept_observes (complete : s.completesTrunk f) (kept : s.keepsBack f)
    (obs : s.observes .trunk f (s.now + dt) o) :
    exec (.trunkFrameReceived dt f.check) s = .next { s with
      now := s.now + dt, obs := o
      link := { s.link with trunk := { rx := .waiting, tx := .idle, lastChar := some (s.now + dt) } } } := by
  rw [kept_row complete (forwardsTrunk_keepsBack kept), obs (s.heard dt .trunk .waiting) rfl rfl rfl rfl]
  rfl

theorem sent_joins (complete : s.completesTrunk f) (sends : s.sendsOn f) (obs : s.observes .trunk f (s.now + dt) o)
    (isOpen : s.link.flow = .flowOpen) (room : s.link.relay.length ≤ 3) :
    ∃ t, exec (.trunkFrameReceived dt f.check) s = .next t ∧ JoinsRelayLifting s t dt f o := by
  rw [sent_row complete (forwardsTrunk_sendsOn sends), obs (s.relayed dt f) rfl rfl rfl rfl]
  exact ⟨_, rfl, relayed_joins isOpen room o⟩

theorem sent_refused (complete : s.completesTrunk f) (sends : s.sendsOn f) (obs : s.observes .trunk f (s.now + dt) o)
    (refuses : s.link.flow = .flowBusy ∨ 4 ≤ s.link.relay.length) (queue : s.link.uplink.length ≤ 3) :
    exec (.trunkFrameReceived dt f.check) s = .next { s with
      now := s.now + dt, obs := o
      link := { s.link with
        trunk := { rx := .waiting, tx := .idle, lastChar := some (s.now + dt) }
        doorCount := { s.link.doorCount with busy := min 65535 (s.link.doorCount.busy + 1) }
        trunkCount := if f.kind.toNat ≤ 126 ∧ f.lead ≠ 63#8 ∧ s.link.uplink.length = 3
          then { s.link.trunkCount with dropped := min 65535 (s.link.trunkCount.dropped + 1) }
          else s.link.trunkCount
        uplink := if f.kind.toNat ≤ 126 ∧ f.lead ≠ 63#8 ∧ s.link.uplink.length ≤ 2 then
                    s.link.uplink ++ [{ frame := Frame.build f.lead 0xFF [f.lead, f.kind, 2], isRestartReply := false }]
                  else s.link.uplink } } := by
  rw [sent_row complete (forwardsTrunk_sendsOn sends), obs (s.relayed dt f) rfl rfl rfl rfl, relayed_refused refuses queue]
  rfl

end

theorem hits_iff (e : RouteEntry) (p : Port) (f : Frame) : e.hits p f = true ↔
    e.valid = true ∧ e.direction = p ∧ (e.address = none ∨ e.address = some f.lead) ∧
      e.kindLow.toNat ≤ f.kind.toNat ∧ f.kind.toNat ≤ e.kindHigh.toNat := by
  unfold RouteEntry.hits
  cases e.address <;> simp [and_assoc]

end Sys2Proof.Machine
end


section
/-! PROOF. A good frame from TRUNK for another node (O31). -/

namespace Sys2Proof.Machine

section
variable {s : State} {dt : Nat} {f : Frame} {o : ObsTable}

/-- The refusal with a place for the notice in the uplink queue: nothing is dropped (R172, R178). -/
theorem sent_refusedWithRoom (complete : s.completesTrunk f) (sends : s.sendsOn f)
    (obs : s.observes .trunk f (s.now + dt) o) (refuses : s.link.flow = .flowBusy ∨ 4 ≤ s.link.relay.length)
    (queue : s.link.uplink.length ≤ 2) :
    exec (.trunkFrameReceived dt f.check) s = .next { s with
      now := s.now + dt, obs := o
      link := { s.link with
        trunk := { rx := .waiting, tx := .idle, lastChar := some (s.now + dt) }
        doorCount := { s.link.doorCount with busy := min 65535 (s.link.doorCount.busy + 1) }
        uplink := if f.kind.toNat ≤ 126 ∧ f.lead ≠ 63#8 then
                    s.link.uplink ++ [{ frame := Frame.build f.lead 0xFF [f.lead, f.kind, 2], isRestartReply := false }]
                  else s.link.uplink } } := by
  have room : ¬(f.kind.toNat ≤ 126 ∧ f.lead ≠ 63#8 ∧ s.link.uplink.length = 3) := fun k => by omega
  rw [sent_refused complete sends obs refuses (by omega), if_neg room]
  simp only [queue, and_true]

/-- A frame from TRUNK that lifts an open FZDOOR, whatever its fate (R106, R110). -/
theorem trunkFrame_opens (complete : s.completesTrunk f) (runs : s.disp.st = .pour ∨ s.disp.st = .deliver)
    (lifts : s.liftsDoor .trunk f) (opened : (s.liftedObs .trunk f (s.now + dt)).fzdoor.value ≠ 0) :
    ∃ t, exec (.trunkFrameReceived dt f.check) s = .next t ∧ t.now = s.now + dt ∧ EndsByDoor s t ∧
      t.obs = s.liftedObs .trunk f (s.now + dt) ∧ t.temps = s.temps ∧ t.inputs = s.inputs ∧ KeepsSetup s t ∧
      (s.keepsBack f → t.link = { s.link with
        trunk := { rx := .waiting, tx := .idle, lastChar := some (s.now + dt) } }) ∧
      (s.sendsOn f → s.link.flow = .flowOpen → s.link.relay.length ≤ 3 →
        t.link.relay = s.link.relay ++
          [{ frame := f, expectsReply := decide (f.kind.toNat ≤ 126) && decide (f.lead ≠ 63#8) }]) := by
  by_cases sends : s.tables.forwardsTrunk f = true
  · obtain ⟨t, row, now, ends, obs, temps, inputs, setup, link⟩ := takeObservations_ends (u := s.relayed dt f) (s := s)
      (m := s.now + dt) rfl ⟨rfl, rfl, rfl, rfl, rfl⟩ ⟨rfl, rfl, rfl⟩ ⟨rfl, rfl, rfl, rfl, rfl⟩ runs lifts opened
    refine ⟨t, (sent_row complete sends).trans (congrArg _ row), now, ends, obs, temps, inputs, setup, fun kept => ?_,
      fun _ isOpen room => ?_⟩
    · exact absurd sends (by rw [forwardsTrunk_keepsBack kept]; exact Bool.false_ne_true)
    · obtain ⟨joins, -⟩ := relayed_joins (dt := dt) (f := f) isOpen room s.obs
      rw [link]
      exact joins
  · have kept := Bool.eq_false_iff.mpr sends
    obtain ⟨t, row, now, ends, obs, temps, inputs, setup, link⟩ := takeObservations_ends
      (u := s.heard dt .trunk .waiting) (s := s) (m := s.now + dt) rfl ⟨rfl, rfl, rfl, rfl, rfl⟩ ⟨rfl, rfl, rfl⟩
      ⟨rfl, rfl, rfl, rfl, rfl⟩ runs lifts opened
    exact ⟨t, (kept_row complete kept).trans (congrArg _ row), now, ends, obs, temps, inputs, setup, fun _ => link,
      fun sent => absurd (forwardsTrunk_sendsOn sent) sends⟩

end

/-- Settles O31: by TRUNKDEFAULT, by one entry, by the first of several that decides, with what the frame lifts. -/
theorem trunkFrameForwarded : Obligations.TrunkFrameForwarded := by
  unfold Obligations.TrunkFrameForwarded
  refine ⟨fun s dt f idle atCheck good known other misses byDoorSet => ?doorSet,
    fun s dt f idle atCheck good known other => ⟨?always, ?never, ?one⟩, fun e p f => hits_iff e p f,
    fun s dt f idle atCheck good known other => ⟨?noKinds, ?two⟩,
    fun s dt f o idle atCheck good known other lifted => ⟨?stands, ?opens⟩⟩
  case doorSet =>
    have complete : s.completesTrunk f := ⟨idle, atCheck, good, known, other⟩
    have noted := onlyNoted_noHits misses
    exact ⟨fun apart unlisted => kept_observes complete (.inr ⟨noted, .inr ⟨byDoorSet, apart, unlisted⟩⟩)
        (observes_noHits misses),
      fun listed => sent_joins complete (.inr ⟨noted, .inr ⟨byDoorSet, listed⟩⟩) (observes_noHits misses),
      fun listed => sent_refusedWithRoom complete (.inr ⟨noted, .inr ⟨byDoorSet, listed⟩⟩) (observes_noHits misses)⟩
  case always =>
    exact fun misses default => sent_joins ⟨idle, atCheck, good, known, other⟩
      (.inr ⟨onlyNoted_noHits misses, .inl default⟩) (observes_noHits misses)
  case never =>
    exact fun misses default => kept_observes ⟨idle, atCheck, good, known, other⟩
      (.inr ⟨onlyNoted_noHits misses, .inl default⟩) (observes_noHits misses)
  case one =>
    intro before after e route others valid direction address low high
    have complete : s.completesTrunk f := ⟨idle, atCheck, good, known, other⟩
    have hit := hits_of .trunk f e valid direction address low high
    have kept (fate : e.action = .discard ∨ (e.action = .noteOnly ∧ s.tables.general.trunkdefault = 2)) :
        s.keepsBack f := fate.imp (fun discards => decidedBy_alone route others hit discards (by decide))
      fun ⟨notes, default⟩ => ⟨onlyNoted_alone route others notes, .inl default⟩
    refine ⟨fun fate nothing => kept_observes complete (kept fate) (observes_oneMiss route others hit nothing),
      fun k v fate kind value free noPour noDelivery => kept_observes complete (kept fate)
        (observes_oneHit route others hit kind value free noPour noDelivery), fun fate kind => sent_joins complete
        (fate.imp (fun forwards => decidedBy_alone route others hit forwards (by decide))
          fun ⟨notes, default⟩ => ⟨onlyNoted_alone route others notes, .inl default⟩)
        (observes_oneMiss route others hit (.inl kind))⟩
  case noKinds =>
    intro noKinds
    have complete : s.completesTrunk f := ⟨idle, atCheck, good, known, other⟩
    exact ⟨fun before after e route notes hit =>
        ⟨fun discards => kept_observes complete (.inl ⟨by decide, before, after, e, route, notes, hit, discards⟩)
          (observes_noKinds noKinds),
        fun forwards => sent_joins complete (.inl ⟨by decide, before, after, e, route, notes, hit, forwards⟩)
          (observes_noKinds noKinds)⟩,
      fun noted => ⟨fun default => kept_observes complete (.inr ⟨noted, .inl default⟩) (observes_noKinds noKinds),
        fun default => sent_joins complete (.inr ⟨noted, .inl default⟩) (observes_noKinds noKinds)⟩⟩
  case two =>
    intro before mid after a b k l v route others hitA hitB fate kindA kindB value free noPour noDelivery
    have complete : s.completesTrunk f := ⟨idle, atCheck, good, known, other⟩
    have kept := keepsBack_twoHits route others hitA hitB fate
    obtain ⟨both, first⟩ :=
      observes_twoHits (m := s.now + dt) route others hitA hitB kindA kindB value free noPour noDelivery
    exact ⟨fun w second => kept_observes complete kept (both w second),
      fun missed => kept_observes complete kept (first missed)⟩
  case stands =>
    subst lifted
    intro stands
    have complete : s.completesTrunk f := ⟨idle, atCheck, good, known, other⟩
    have obs := observes_stands stands
    exact ⟨fun kept => kept_observes complete kept obs, fun sends => sent_joins complete sends obs,
      fun sends => sent_refused complete sends obs⟩
  case opens =>
    subst lifted
    exact trunkFrame_opens ⟨idle, atCheck, good, known, other⟩

end Sys2Proof.Machine
end


section
/-! PROOF. A frame complete at DOOR: the candidate's end, a request kind, a reply not awaited (O33). -/

namespace Sys2Proof.Machine

/-! ### The consumers over any state -/

/-- What a frame's observations leave, whether or not they end a pour or a delivery (R106, R110, R148). -/
theorem takeObservations_frame (p : Port) (f : Frame) (u : State) :
    (takeObservations p f u).obs = u.liftedObs p f u.now ∧ (takeObservations p f u).temps = u.temps ∧
      (takeObservations p f u).inputs = u.inputs ∧ (takeObservations p f u).now = u.now ∧
      (takeObservations p f u).link = u.link ∧ KeepsSetup u (takeObservations p f u) := by
  have opened (v : State) : (doorOpened v).link = v.link ∧ (doorOpened v).now = v.now ∧ KeepsSenses v (doorOpened v) ∧
      KeepsSetup v (doorOpened v) := by
    by_cases runs : v.disp.st = .pour ∨ v.disp.st = .deliver
    · exact (doorOpened_ends v runs).2
    · have rest : doorOpened v = v := by
        unfold doorOpened
        cases at' : v.disp.st <;> first | rfl | exact absurd at' (by simp_all)
      rw [rest]
      exact ⟨rfl, rfl, ⟨rfl, rfl, rfl⟩, rfl, rfl, rfl, rfl, rfl⟩
  rw [takeObservations_lifted]
  unfold consumersAct
  split
  · obtain ⟨link, now, ⟨obs, temps, inputs⟩, setup⟩ := opened (u.setObs (u.liftedObs p f u.now))
    exact ⟨obs, temps, inputs, now, link, setup⟩
  · exact ⟨rfl, rfl, rfl, rfl, rfl, rfl, rfl, rfl, rfl, rfl⟩

/-! ### The candidate -/

/-- DOOR's counters after the candidate has completed (R162, R168). -/
def State.candidateCount (s : State) (f : Frame) : DoorCounters :=
  if f.check ≠ frameCheck f.lead f.kind f.payload
  then { s.link.doorCount with check := min 65535 (s.link.doorCount.check + 1) }
  else if f.kind.toNat ≤ 127 then { s.link.doorCount with request := min 65535 (s.link.doorCount.request + 1) }
  else s.link.doorCount

/-- What ends the exchange of the head: the reply it awaits, or a BAD_FRAME notice (R176, R177, R178). -/
def candidateAnswer (h : RelayEntry) (f : Frame) : Frame :=
  if f.check = frameCheck f.lead f.kind f.payload ∧ f.kind = h.frame.kind + 0x80#8 then f
  else relayNotice h.frame noticeBadFrame

/-- DOOR's port at the moment a frame has completed there. -/
def State.doorHeard (s : State) (dt : Nat) (count : DoorCounters) : Link :=
  { s.link with door := { rx := .waiting, tx := .idle, lastChar := some (s.now + dt) }, doorCount := count }

theorem isReplyKind_iff (k : Byte) : isReplyKind k = true ↔ 128 ≤ k.toNat := decide_eq_true_iff

section
variable {s : State} {dt : Nat} {f : Frame} {h : RelayEntry} {rest : List RelayEntry}

theorem awaited_isReply (request : h.frame.kind.toNat ≤ 126) (awaited : f.kind = h.frame.kind + 0x80#8) :
    128 ≤ f.kind.toNat := by
  rw [awaited, BitVec.toNat_add]
  simp only [BitVec.toNat_ofNat]
  omega

/-- The end of the candidate with a notice, over DOOR's counters as counted. -/
theorem candidateBad_heard (taking : s.link.doorSide = .taking) (queue : s.link.relay = h :: rest)
    (count : DoorCounters) : candidateBad ((s.heard dt .door .waiting).setLink (s.doorHeard dt count)) =
      s.exchangeEnded (s.now + dt) (s.doorHeard dt count) (relayNotice h.frame noticeBadFrame) := by
  rw [candidateBad_taking (s := (s.heard dt .door .waiting).setLink (s.doorHeard dt count)) taking]
  exact congrArg (State.setLink _) (endWithNotice_eq (l := s.doorHeard dt count) _ _ _ queue)

/-- A reply kind that completes in TAKING, before its observations (R168, R176, R177). -/
theorem candidateReply_row (idle : s.link.door.tx = .idle) (atCheck : s.link.door.rx = .atCheck f.lead f.kind f.payload)
    (good : f.check = frameCheck f.lead f.kind f.payload) (taking : s.link.doorSide = .taking)
    (queue : s.link.relay = h :: rest) (reply : 128 ≤ f.kind.toNat) :
    exec (.doorFrameReceived dt f.check) s = .next (takeObservations .door f
      (s.exchangeEnded (s.now + dt) (s.doorHeard dt s.link.doorCount) (candidateAnswer h f))) := by
  have awaited : (s.heard dt .door .waiting).link.awaitedKind = some (h.frame.kind + 0x80#8) :=
    congrArg (fun q : List RelayEntry => q.head?.map fun e : RelayEntry => replyKind e.frame.kind) queue
  rw [doorFrame_good dt idle atCheck good]
  unfold classifyDoor
  rw [if_pos ((isReplyKind_iff _).mpr reply)]
  refine congrArg (fun u => Host.Outcome.next (takeObservations .door f u)) ?_
  unfold replyFate candidateAnswer
  rw [if_pos (by exact taking), awaited]
  by_cases same : f.kind = h.frame.kind + 0x80#8
  · rw [if_pos (by rw [same]), if_pos ⟨good, same⟩]
    rfl
  · rw [if_neg (fun k => same (Option.some.inj k).symm), if_neg (fun k => same k.2)]
    exact candidateBad_heard taking queue s.link.doorCount

/-- The candidate's end where its frame lifts nothing (R168, R177, R178). -/
theorem candidate_row (idle : s.link.door.tx = .idle) (atCheck : s.link.door.rx = .atCheck f.lead f.kind f.payload)
    (taking : s.link.doorSide = .taking) (queue : s.link.relay = h :: rest) (request : h.frame.kind.toNat ≤ 126)
    (misses : ∀ e ∈ s.tables.route, e.hits .door f = false) :
    exec (.doorFrameReceived dt f.check) s = .next
      (s.exchangeEnded (s.now + dt) (s.doorHeard dt (s.candidateCount f)) (candidateAnswer h f)) := by
  by_cases good : f.check = frameCheck f.lead f.kind f.payload
  · by_cases reply : 128 ≤ f.kind.toNat
    · have count : s.candidateCount f = s.link.doorCount := by
        unfold State.candidateCount
        rw [if_neg (not_not_intro good), if_neg (by omega)]
      rw [candidateReply_row idle atCheck good taking queue reply, count, takeObservations_noHits _ _ _ (by exact misses)]
    · have answer : candidateAnswer h f = relayNotice h.frame noticeBadFrame :=
        if_neg fun k => reply (awaited_isReply request k.2)
      have count : s.candidateCount f =
          { s.link.doorCount with request := min 65535 (s.link.doorCount.request + 1) } := by
        unfold State.candidateCount
        rw [if_neg (not_not_intro good), if_pos (by omega)]
      rw [doorFrame_good dt idle atCheck good, answer, count]
      unfold classifyDoor
      rw [if_neg fun k => reply ((isReplyKind_iff _).mp k)]
      exact congrArg Host.Outcome.next (candidateBad_heard taking queue _)
  · have answer : candidateAnswer h f = relayNotice h.frame noticeBadFrame := if_neg fun k => good k.1
    have count : s.candidateCount f = { s.link.doorCount with check := min 65535 (s.link.doorCount.check + 1) } :=
      if_pos good
    rw [doorFrame_bad dt idle atCheck good, answer, count]
    exact congrArg Host.Outcome.next (candidateBad_heard taking queue _)

/-- What the candidate's end leaves (R173, R175 to R179): DOOR has just been heard, so nothing is sent at once. -/
theorem candidate_leaves (queue : s.link.relay = h :: rest) (count : DoorCounters) (a : Frame) :
    FreesDoor s (s.exchangeEnded (s.now + dt) (s.doorHeard dt count) a) rest ∧
      (s.exchangeEnded (s.now + dt) (s.doorHeard dt count) a).link.door =
        { rx := .waiting, tx := .idle, lastChar := some (s.now + dt) } ∧
      OffersUplink s (s.exchangeEnded (s.now + dt) (s.doorHeard dt count) a) a ∧
      (s.exchangeEnded (s.now + dt) (s.doorHeard dt count) a).link.doorCount = count :=
  exchangeEnded_noisy s (s.now + dt) (s.doorHeard dt count) a queue rfl rfl rfl rfl (not_quietAt_justHeard rfl)

end

/-! ### Outside TAKING -/

/-- A reply not awaited is discarded without a count (R168). -/
abbrev State.dropsReply (s : State) (f : Frame) : Prop := s.decidedBy .door f .discard ∨
  (s.onlyNoted .door f ∧ s.tables.general.doordefault ≠ 0 ∧ s.tables.general.doordefault ≠ 1)

/-- A reply not awaited is forwarded (R168). -/
abbrev State.passesReply (s : State) (f : Frame) : Prop :=
  s.decidedBy .door f .forward ∨ (s.onlyNoted .door f ∧ s.tables.general.doordefault = 1)

section
variable {u : State} {f : Frame}

theorem replyNotAwaited_drops (h : u.dropsReply f) : replyNotAwaited f u = u := by
  unfold replyNotAwaited
  rcases h with decided | ⟨noted, notStray, notPassed⟩
  · rw [decidingAction_decided decided]
  · rw [decidingAction_noted noted]
    dsimp only
    split
    · next stray => exact absurd stray notStray
    · next passed => exact absurd passed notPassed
    · rfl

theorem replyNotAwaited_passes (h : u.passesReply f) :
    replyNotAwaited f u = u.setLink (u.link.offerUplink u.now f false) := by
  unfold replyNotAwaited
  rcases h with decided | ⟨noted, passed⟩
  · rw [decidingAction_decided decided]
  · rw [decidingAction_noted noted, passed]; rfl

theorem replyNotAwaited_stray (noted : u.onlyNoted .door f) (stray : u.tables.general.doordefault = 0) :
    replyNotAwaited f u = u.setLink u.link.countStray := by
  unfold replyNotAwaited
  rw [decidingAction_noted noted, stray]
  rfl

/-- Whatever the fate of a reply not awaited, the link alone moves, and neither the relay queue nor the door side. -/
theorem replyNotAwaited_leaves (f : Frame) (u : State) : (replyNotAwaited f u).now = u.now ∧
    KeepsSetup u (replyNotAwaited f u) ∧ KeepsSenses u (replyNotAwaited f u) ∧ KeepsJobs u (replyNotAwaited f u) ∧
    (replyNotAwaited f u).link.relay = u.link.relay ∧ (replyNotAwaited f u).link.doorSide = u.link.doorSide := by
  have still : u.now = u.now ∧ KeepsSetup u u ∧ KeepsSenses u u ∧ KeepsJobs u u ∧ u.link.relay = u.link.relay ∧
      u.link.doorSide = u.link.doorSide :=
    ⟨rfl, ⟨rfl, rfl, rfl, rfl, rfl⟩, ⟨rfl, rfl, rfl⟩, ⟨rfl, rfl, rfl, rfl, rfl⟩, rfl, rfl⟩
  have offered := And.intro (offerUplink_relay u.now f false u.link) (offerUplink_doorSide u.now f false u.link)
  unfold replyNotAwaited
  split
  · exact ⟨rfl, ⟨rfl, rfl, rfl, rfl, rfl⟩, ⟨rfl, rfl, rfl⟩, ⟨rfl, rfl, rfl, rfl, rfl⟩, offered⟩
  · exact still
  · split
    · exact ⟨rfl, ⟨rfl, rfl, rfl, rfl, rfl⟩, ⟨rfl, rfl, rfl⟩, ⟨rfl, rfl, rfl, rfl, rfl⟩, rfl, rfl⟩
    · exact ⟨rfl, ⟨rfl, rfl, rfl, rfl, rfl⟩, ⟨rfl, rfl, rfl⟩, ⟨rfl, rfl, rfl, rfl, rfl⟩, offered⟩
    · exact still

end

/-- A good reply-kind frame completes at DOOR outside TAKING. -/
abbrev State.completesDoor (s : State) (f : Frame) : Prop :=
  s.link.door.tx = .idle ∧ s.link.door.rx = .atCheck f.lead f.kind f.payload ∧
    f.check = frameCheck f.lead f.kind f.payload ∧ s.link.doorSide ≠ .taking ∧ 128 ≤ f.kind.toNat

/-- The state once a frame complete at DOOR has been offered to the uplink queue. -/
def State.offered (s : State) (dt : Nat) (f : Frame) : State :=
  (s.heard dt .door .waiting).setLink ((s.heard dt .door .waiting).link.offerUplink (s.now + dt) f false)

section
variable {s : State} {dt : Nat} {f : Frame} {o : ObsTable}

theorem replyNotAwaited_offers (passes : s.passesReply f) :
    replyNotAwaited f (s.heard dt .door .waiting) = s.offered dt f :=
  replyNotAwaited_passes (u := s.heard dt .door .waiting) passes

theorem reply_row (complete : s.completesDoor f) : exec (.doorFrameReceived dt f.check) s =
    .next (takeObservations .door f (replyNotAwaited f (s.heard dt .door .waiting))) := by
  obtain ⟨idle, atCheck, good, outside, reply⟩ := complete
  rw [doorFrame_good dt idle atCheck good]
  unfold classifyDoor
  rw [if_pos ((isReplyKind_iff _).mpr reply)]
  unfold replyFate
  rw [if_neg (by exact outside)]

/-- A request kind at DOOR outside TAKING is counted (R168). -/
theorem request_row (idle : s.link.door.tx = .idle) (atCheck : s.link.door.rx = .atCheck f.lead f.kind f.payload)
    (good : f.check = frameCheck f.lead f.kind f.payload) (outside : s.link.doorSide ≠ .taking)
    (request : f.kind.toNat ≤ 127) :
    exec (.doorFrameReceived dt f.check) s = .next { s with
      now := s.now + dt
      link := { s.link with
        door := { rx := .waiting, tx := .idle, lastChar := some (s.now + dt) }
        doorCount := { s.link.doorCount with request := min 65535 (s.link.doorCount.request + 1) } } } := by
  rw [doorFrame_good dt idle atCheck good]
  unfold classifyDoor
  rw [if_neg fun k => absurd ((isReplyKind_iff _).mp k) (by omega)]
  exact congrArg Host.Outcome.next (candidateBad_outside outside)

theorem dropped_observes (complete : s.completesDoor f) (drops : s.dropsReply f)
    (obs : s.observes .door f (s.now + dt) o) : exec (.doorFrameReceived dt f.check) s = .next { s with
      now := s.now + dt, obs := o
      link := { s.link with door := { rx := .waiting, tx := .idle, lastChar := some (s.now + dt) } } } := by
  rw [reply_row complete, replyNotAwaited_drops (by exact drops), obs (s.heard dt .door .waiting) rfl rfl rfl rfl]
  rfl

theorem stray_observes (complete : s.completesDoor f) (noted : s.onlyNoted .door f)
    (stray : s.tables.general.doordefault = 0) (obs : s.observes .door f (s.now + dt) o) :
    exec (.doorFrameReceived dt f.check) s = .next { s with
      now := s.now + dt, obs := o
      link := { s.link with
        door := { rx := .waiting, tx := .idle, lastChar := some (s.now + dt) }
        doorCount := { s.link.doorCount with stray := min 65535 (s.link.doorCount.stray + 1) } } } := by
  rw [reply_row complete, replyNotAwaited_stray (by exact noted) (by exact stray),
    obs ((s.heard dt .door .waiting).setLink (s.heard dt .door .waiting).link.countStray) rfl rfl rfl rfl]
  rfl

/-- The offer of a reply not awaited, and what it leaves (R168, R179). -/
theorem passed_observes (complete : s.completesDoor f) (passes : s.passesReply f)
    (obs : s.observes .door f (s.now + dt) o) :
    ∃ t, exec (.doorFrameReceived dt f.check) s = .next t ∧ t.now = s.now + dt ∧ OffersUplink s t f ∧
      t.link.door = { rx := .waiting, tx := .idle, lastChar := some (s.now + dt) } ∧
      t.link.relay = s.link.relay ∧ t.link.doorSide = s.link.doorSide ∧ t.link.flow = s.link.flow ∧
      t.link.doorCount = s.link.doorCount ∧ t.obs = o ∧ t.temps = s.temps ∧ t.inputs = s.inputs ∧
      KeepsSetup s t ∧ KeepsJobs s t := by
  rw [reply_row complete, replyNotAwaited_offers passes, obs (s.offered dt f) rfl rfl rfl rfl]
  refine ⟨_, rfl, rfl, ?_, ?_, ?_, ?_, ?_, ?_, rfl, rfl, rfl, ⟨rfl, rfl, rfl, rfl, rfl⟩, rfl, rfl, rfl, rfl, rfl⟩
  · exact offerUplink_offers s _ f (s.heard dt .door .waiting).link (s.now + dt) rfl rfl rfl rfl rfl rfl rfl
  · exact offerUplink_door _ _ _ _
  · exact offerUplink_relay _ _ _ _
  · exact offerUplink_doorSide _ _ _ _
  · exact offerUplink_flow _ _ _ _
  · exact offerUplink_doorCount _ _ _ _

/-- The offer to a full uplink queue: dropped and counted (R179). -/
theorem passed_dropped (complete : s.completesDoor f) (passes : s.passesReply f)
    (obs : s.observes .door f (s.now + dt) o) (full : s.link.uplink.length = 3) :
    exec (.doorFrameReceived dt f.check) s = .next { s with
      now := s.now + dt, obs := o
      link := { s.link with
        door := { rx := .waiting, tx := .idle, lastChar := some (s.now + dt) }
        trunkCount := { s.link.trunkCount with dropped := min 65535 (s.link.trunkCount.dropped + 1) } } } := by
  rw [reply_row complete, replyNotAwaited_offers passes, obs (s.offered dt f) rfl rfl rfl rfl, State.offered,
    offerUplink_full _ _ _ (s.heard dt .door .waiting).link (by show 3 ≤ s.link.uplink.length; omega)]
  rfl

end

end Sys2Proof.Machine
end


section
/-! PROOF. The candidate's end and the frames outside TAKING (O33). -/

namespace Sys2Proof.Machine

section
variable {s : State} {dt : Nat} {f : Frame} {h : RelayEntry} {rest : List RelayEntry}

theorem candidateAnswer_reply (good : f.check = frameCheck f.lead f.kind f.payload)
    (awaited : f.kind = h.frame.kind + 0x80#8) : candidateAnswer h f = f := if_pos ⟨good, awaited⟩

theorem candidateAnswer_other (other : f.kind ≠ h.frame.kind + 0x80#8) :
    candidateAnswer h f = Frame.build h.frame.lead 0xFF [h.frame.lead, h.frame.kind, 3] := if_neg fun k => other k.2

theorem candidateAnswer_bad (bad : f.check ≠ frameCheck f.lead f.kind f.payload) :
    candidateAnswer h f = Frame.build h.frame.lead 0xFF [h.frame.lead, h.frame.kind, 3] := if_neg fun k => bad k.1

theorem candidateCount_good (good : f.check = frameCheck f.lead f.kind f.payload) :
    s.candidateCount f = if f.kind.toNat ≤ 127
      then { s.link.doorCount with request := min 65535 (s.link.doorCount.request + 1) } else s.link.doorCount :=
  if_neg (not_not_intro good)

/-- What the candidate's end leaves where its reply kind lifts observations (R148, R168, R176, R177). -/
theorem candidateReply_leaves (queue : s.link.relay = h :: rest) {o : ObsTable}
    (lifted : o = s.liftedObs .door f (s.now + dt)) {t : State}
    (ends : takeObservations .door f
      (s.exchangeEnded (s.now + dt) (s.doorHeard dt s.link.doorCount) (candidateAnswer h f)) = t) :
    t.now = s.now + dt ∧ FreesDoor s t rest ∧
      t.link.door = { rx := .waiting, tx := .idle, lastChar := some (s.now + dt) } ∧
      t.link.doorCount = s.link.doorCount ∧ t.obs = o ∧ t.temps = s.temps ∧ t.inputs = s.inputs ∧ KeepsSetup s t ∧
      OffersUplink s t (candidateAnswer h f) ∧ (s.pourStands o → KeepsJobs s t) ∧
      (s.disp.st = .pour ∨ s.disp.st = .deliver → s.liftsDoor .door f → o.fzdoor.value ≠ 0 → EndsByDoor s t) := by
  subst lifted
  obtain ⟨frees, door, offers, count⟩ := candidate_leaves (s := s) (dt := dt) queue s.link.doorCount (candidateAnswer h f)
  obtain ⟨setup, senses, jobs⟩ :=
    exchangeEnded_keeps s (s.now + dt) (s.doorHeard dt s.link.doorCount) (candidateAnswer h f)
  have now : (s.exchangeEnded (s.now + dt) (s.doorHeard dt s.link.doorCount) (candidateAnswer h f)).now = s.now + dt :=
    rfl
  have same : (s.exchangeEnded (s.now + dt) (s.doorHeard dt s.link.doorCount) (candidateAnswer h f)).liftedObs .door f
      (s.now + dt) = s.liftedObs .door f (s.now + dt) := rfl
  generalize s.exchangeEnded (s.now + dt) (s.doorHeard dt s.link.doorCount) (candidateAnswer h f) = u at *
  obtain ⟨obs, temps, inputs, now', link, mode, restart, own, tables, pending⟩ := takeObservations_frame .door f u
  rw [ends] at obs temps inputs now' link mode restart own tables pending
  obtain ⟨mode', restart', own', tables', pending'⟩ := setup
  refine ⟨now'.trans now, ?_, by rw [link]; exact door, by rw [link]; exact count, ?_, temps.trans senses.2.1,
    inputs.trans senses.2.2, ⟨mode.trans mode', restart.trans restart', own.trans own', tables.trans tables',
      pending.trans pending'⟩, ?_, fun stands => ?_, fun runs lifts opened => ?_⟩
  · unfold FreesDoor; rw [link]; exact frees
  · rw [obs, now, same]
  · unfold OffersUplink; rw [link, now']; exact offers
  · have whole := observes_stands stands u tables' senses.1 jobs.2.2.1 now
    rw [← ends, whole]
    exact jobs
  · obtain ⟨t', row, -, byDoor, -⟩ :=
      takeObservations_ends now ⟨mode', restart', own', tables', pending'⟩ senses jobs runs lifts opened
    rw [← ends, row]
    exact byDoor

/-- A reply not awaited that lifts an open FZDOOR, whatever its fate (R106, R110, R148). -/
theorem doorFrame_opens (complete : s.completesDoor f) (runs : s.disp.st = .pour ∨ s.disp.st = .deliver)
    (lifts : s.liftsDoor .door f) (opened : (s.liftedObs .door f (s.now + dt)).fzdoor.value ≠ 0) :
    ∃ t, exec (.doorFrameReceived dt f.check) s = .next t ∧ t.now = s.now + dt ∧ EndsByDoor s t ∧
      t.obs = s.liftedObs .door f (s.now + dt) ∧ t.temps = s.temps ∧ t.inputs = s.inputs ∧ KeepsSetup s t ∧
      t.link.relay = s.link.relay ∧ t.link.doorSide = s.link.doorSide := by
  obtain ⟨now, setup, senses, jobs, relay, side⟩ := replyNotAwaited_leaves f (s.heard dt .door .waiting)
  obtain ⟨t, row, now', ends, obs, temps, inputs, setup', link⟩ :=
    takeObservations_ends (s := s) now setup senses jobs runs lifts opened
  exact ⟨t, (reply_row complete).trans (congrArg _ row), now', ends, obs, temps, inputs, setup',
    (congrArg Link.relay link).trans relay, (congrArg Link.doorSide link).trans side⟩

end

/-- Settles O33: the candidate in TAKING, with and without a place for its answer, and the reply not awaited. -/
theorem doorCandidateEnds : Obligations.DoorCandidateEnds := by
  unfold Obligations.DoorCandidateEnds
  refine ⟨fun s dt f h rest idle atCheck taking queue request room misses => ?taking,
    fun s dt f idle atCheck good outside => ⟨?request, ?default, ?passed, ?one⟩, fun e p f => hits_iff e p f,
    fun s dt f idle atCheck good outside reply noKinds => ⟨?decided, ?noted⟩,
    fun s dt f h rest idle atCheck taking queue request full misses => ?full,
    fun s dt f h rest o idle atCheck good taking queue request reply lifted => ?lifts,
    fun s dt f o idle atCheck good outside reply lifted => ⟨?stands, ?opens⟩⟩
  case taking =>
    obtain ⟨⟨relay, side, flow⟩, door, ⟨roomy, -⟩, counted⟩ :=
      candidate_leaves (s := s) (dt := dt) queue (s.candidateCount f) (candidateAnswer h f)
    obtain ⟨uplink, trunkCount, -, -⟩ := roomy room
    obtain ⟨setup, senses, jobs⟩ :=
      exchangeEnded_keeps s (s.now + dt) (s.doorHeard dt (s.candidateCount f)) (candidateAnswer h f)
    refine ⟨_, candidate_row idle atCheck taking queue request misses, relay, side, flow, door, trunkCount, rfl, setup,
      senses, jobs, fun good awaited => ?_, fun good other => ?_, fun bad => ?_⟩
    · rw [uplink, counted, candidateAnswer_reply good awaited, candidateCount_good good,
        if_neg (by have := awaited_isReply request awaited; omega)]
      exact ⟨rfl, rfl⟩
    · rw [uplink, counted, candidateAnswer_other other, candidateCount_good good]
      exact ⟨rfl, rfl⟩
    · rw [uplink, counted, candidateAnswer_bad bad, State.candidateCount, if_pos bad]
      exact ⟨rfl, rfl⟩
  case request =>
    exact request_row idle atCheck good outside
  case default =>
    intro reply misses notPassed
    have complete : s.completesDoor f := ⟨idle, atCheck, good, outside, reply⟩
    by_cases stray : s.tables.general.doordefault = 0
    · rw [if_pos stray]
      exact stray_observes complete (onlyNoted_noHits misses) stray (observes_noHits misses)
    · rw [if_neg stray]
      exact dropped_observes complete (.inr ⟨onlyNoted_noHits misses, stray, notPassed⟩) (observes_noHits misses)
  case passed =>
    intro reply misses passed room
    obtain ⟨t, row, now, offers, door, relay, side, flow, count, obs, temps, inputs, setup, jobs⟩ := passed_observes
      (dt := dt) (s := s) ⟨idle, atCheck, good, outside, reply⟩ (.inr ⟨onlyNoted_noHits misses, passed⟩)
      (observes_noHits misses)
    obtain ⟨uplink, trunkCount, -, -⟩ := offers.1 room
    exact ⟨t, row, uplink, door, relay, side, flow, trunkCount, count, now, setup, ⟨obs, temps, inputs⟩, jobs⟩
  case one =>
    intro before after e reply route others valid direction address low high
    have complete : s.completesDoor f := ⟨idle, atCheck, good, outside, reply⟩
    have hit := hits_of .door f e valid direction address low high
    refine ⟨fun discards kind => dropped_observes complete (.inl (decidedBy_alone route others hit discards (by decide)))
      (observes_oneMiss route others hit (.inl kind)), fun forwards kind room => ?_,
      fun k v discards kind value free noPour noDelivery => dropped_observes complete
        (.inl (decidedBy_alone route others hit discards (by decide)))
        (observes_oneHit route others hit kind value free noPour noDelivery)⟩
    obtain ⟨t, row, -, offers, door, -, -, -, count, obs, temps, inputs, setup, jobs⟩ := passed_observes (dt := dt) complete
      (.inl (decidedBy_alone route others hit forwards (by decide))) (observes_oneMiss route others hit (.inl kind))
    exact ⟨t, row, (offers.1 room).1, door, count, setup, ⟨obs, temps, inputs⟩, jobs⟩
  case decided =>
    intro before after e route notes hit
    have complete : s.completesDoor f := ⟨idle, atCheck, good, outside, reply⟩
    have decided {a : RouteAction} (action : e.action = a) (decides : a ≠ .noteOnly) : s.decidedBy .door f a :=
      ⟨decides, before, after, e, route, notes, hit, action⟩
    refine ⟨fun discards => dropped_observes complete (.inl (decided discards (by decide))) (observes_noKinds noKinds),
      fun forwards room => ?_,
      fun forwards => passed_dropped complete (.inl (decided forwards (by decide))) (observes_noKinds noKinds)⟩
    obtain ⟨t, row, -, offers, door, relay, side, -, count, obs, temps, inputs, setup, jobs⟩ := passed_observes (dt := dt)
      complete (.inl (decided forwards (by decide))) (observes_noKinds noKinds)
    obtain ⟨uplink, trunkCount, -, -⟩ := offers.1 room
    exact ⟨t, row, uplink, door, relay, side, count, trunkCount, setup, ⟨obs, temps, inputs⟩, jobs⟩
  case noted =>
    intro noted
    have complete : s.completesDoor f := ⟨idle, atCheck, good, outside, reply⟩
    exact ⟨fun stray => stray_observes complete noted stray (observes_noKinds noKinds),
      fun silent => dropped_observes complete (.inr ⟨noted, by omega, by omega⟩) (observes_noKinds noKinds),
      fun passed => passed_dropped complete (.inr ⟨noted, passed⟩) (observes_noKinds noKinds)⟩
  case full =>
    obtain ⟨⟨relay, side, flow⟩, door, ⟨-, dropped⟩, counted⟩ :=
      candidate_leaves (s := s) (dt := dt) queue (s.candidateCount f) (candidateAnswer h f)
    obtain ⟨uplink, -, trunkCount⟩ := dropped full
    obtain ⟨setup, senses, jobs⟩ :=
      exchangeEnded_keeps s (s.now + dt) (s.doorHeard dt (s.candidateCount f)) (candidateAnswer h f)
    exact ⟨_, candidate_row idle atCheck taking queue request misses, relay, side, flow, door, uplink, trunkCount, counted,
      rfl, setup, senses, jobs⟩
  case lifts =>
    obtain ⟨now, frees, door, count, obs, temps, inputs, setup, offers, jobs, ends⟩ :=
      candidateReply_leaves (dt := dt) queue lifted rfl
    refine ⟨_, candidateReply_row idle atCheck good taking queue reply, now, frees, door, count, obs, temps, inputs, setup,
      fun awaited => ?_, fun other => ?_, jobs, ends⟩
    · rwa [candidateAnswer_reply good awaited] at offers ⊢
    · rwa [candidateAnswer_other other] at offers ⊢
  case stands =>
    subst lifted
    intro stands
    have complete : s.completesDoor f := ⟨idle, atCheck, good, outside, reply⟩
    have obs := observes_stands stands
    exact ⟨fun drops => dropped_observes complete
        (drops.imp_right fun ⟨noted, silent⟩ => ⟨noted, by omega, by omega⟩) obs,
      fun noted stray => stray_observes complete noted stray obs, fun passes => passed_observes complete passes obs⟩
  case opens =>
    subst lifted
    exact doorFrame_opens ⟨idle, atCheck, good, outside, reply⟩

end Sys2Proof.Machine
end


section
/-! PROOF. Table Write carried out and answered; what a write of parameters stores, counts and has its owners do
(R187, R188). -/

namespace Sys2Proof.Machine

/-! ### A write that is carried out -/

/-- A Table Write of `n` entries from index `start` that no check of R185 and R188 refuses. -/
structure Write (s : State) (table start n : Nat) (data : List Byte) : Prop where
  hears : s.hears
  free : s.restartPending = false
  known : 1 ≤ table ∧ table ≤ 9
  some : 1 ≤ n
  length : data.length = entryBytes table * n
  short : data.length ≤ 22
  inside : start + n ≤ tableEntries table
  unlocked : lockedInRunning table start = true → s.mode = .loading

theorem byteOf_toNat_of_lt {n : Nat} (h : n < 256) : (byteOf n).toNat = n := by
  unfold byteOf
  rw [BitVec.toNat_ofNat]
  exact Nat.mod_eq_of_lt h

theorem entryBytes_pos (table : Nat) : 0 < entryBytes table := by unfold entryBytes; split <;> decide

theorem tableEntries_le (table : Nat) : tableEntries table ≤ 32 := by unfold tableEntries; split <;> decide

/-- The reply of a command that leaves the link but for the flow state (R173, R184). -/
theorem answer_flow {s v : State} {dt : Nat} {flow : RelayFlow} (hears : s.hears) (kind : Byte) (data : List Byte)
    (link : v.link = { (s.atCommand dt).link with flow := flow }) (now : v.now = s.now + dt)
    (own : v.ownAddress = s.ownAddress) :
    answer kind (v, data) = v.setLink { s.repliedLink dt (replyKind kind) data with flow := flow } := by
  obtain ⟨-, -, room⟩ := hears
  rw [answer_noisy kind (v, data) (by rw [link, now]; rfl) (by rw [link]; exact room)]
  unfold State.reply
  rw [link, own]
  rfl

section
variable {s v : State} {dt table start n count : Nat} {data : List Byte}

/-- The entries are stored, and the reply tells the count (R184, R188). -/
theorem Write.row {flow : RelayFlow} (w : Write s table start n data)
    (stores : storeEntries table start (entriesOf (entryBytes table) n data) (s.atCommand dt) = Option.some (v, count))
    (link : v.link = { (s.atCommand dt).link with flow := flow }) (now : v.now = s.now + dt)
    (own : v.ownAddress = s.ownAddress) :
    exec (.tableWrite dt (byteOf table :: byteOf start :: data)) s =
      .next (v.setLink { s.repliedLink dt 0x82 [0, byteOf count] with flow := flow }) := by
  have entries := w.inside
  have top := tableEntries_le table
  have some := w.some
  have tableNat : (byteOf table).toNat = table := byteOf_toNat_of_lt (by have := w.known; omega)
  have startNat : (byteOf start).toNat = start := byteOf_toNat_of_lt (by omega)
  have pos := entryBytes_pos table
  have whole : data.length / entryBytes table = n := by rw [w.length, Nat.mul_div_cancel_left n pos]
  have carried : tableWrite (byteOf table :: byteOf start :: data) (s.atCommand dt) = (v, [0, byteOf count]) := by
    refine tableWrite_stores ?_ ?_ ?_ ?_ ?_
    · rw [tableNat]; omega
    · rw [tableNat, w.length]
      exact ⟨(Nat.mul_pos pos some).ne', Nat.mul_mod_right _ _⟩
    · rw [tableNat, startNat, whole]; exact entries
    · rw [tableNat, startNat]
      rintro ⟨running, locked⟩
      cases (w.unlocked locked).symm.trans running
    · rw [tableNat, startNat, whole]; exact stores
  refine congrArg Host.Outcome.next ((requestArrives_run s dt 0x02#8
    (byteOf table :: byteOf start :: data) w.hears (by decide)
    (Nat.add_le_add_right w.short 2) w.free).trans ?_)
  exact (congrArg (answer 0x02#8) carried).trans (answer_flow w.hears 0x02#8 _ link now own)

end

/-! ### The numbers of a parameter write -/

/-- Two numbers counted where they differ. -/
theorem differs_eq {α : Type} [DecidableEq α] (a b : α) : differs a b = if b = a then 0 else 1 := by
  unfold differs
  exact if_congr eq_comm rfl rfl

theorem differs_self {α : Type} [DecidableEq α] (a : α) : differs a a = 0 := if_pos rfl

theorem indexedFrom_eq {α : Type} (i : Nat) (l : List α) (j : Nat) :
    (indexedFrom i l)[j]? = l[j]?.map fun x => (i + j, x) := by
  induction l generalizing i j with
  | nil => rfl
  | cons x xs ih =>
    cases j with
    | zero => rfl
    | succ j => rw [indexedFrom_cons, List.getElem?_cons_succ, List.getElem?_cons_succ, ih, Nat.succ_add_eq_add_succ]

/-- The numbers written, by their parameters' indices. -/
def rawsFrom (start n : Nat) (raw : Nat → Int) : List Int := (List.range n).map fun j => raw (start + j)

theorem rawsFrom_length (start n : Nat) (raw : Nat → Int) : (rawsFrom start n raw).length = n := by simp [rawsFrom]

theorem rawsFrom_getD {start n j : Nat} (raw : Nat → Int) (h : start ≤ j ∧ j < start + n) :
    (rawsFrom start n raw).getD (j - start) 0 = raw j := by
  unfold rawsFrom
  rw [List.getD_eq_getElem?_getD, List.getElem?_map, List.getElem?_range (by omega)]
  exact congrArg raw (by omega)

/-- The bytes of a write, read as numbers (R187). -/
theorem raws_eq {table start n : Nat} {data : List Byte} {raw : Nat → Int}
    (h : ∀ j, j < n → raw (start + j) = paramOfBytes table (start + j) ((data.drop (3 * j)).take 3)) :
    (indexedFrom start (entriesOf 3 n data)).map (fun ie => paramOfBytes table ie.1 ie.2) = rawsFrom start n raw := by
  refine List.ext_getElem? fun j => ?_
  unfold rawsFrom
  rw [List.getElem?_map, List.getElem?_map, indexedFrom_eq]
  by_cases inside : j < n
  · rw [entriesOf_getElem? 3 data inside, List.getElem?_range inside]
    exact congrArg some (h j inside).symm
  · rw [List.getElem?_eq_none (by rw [entriesOf_length]; omega), List.getElem?_eq_none (by simp; omega)]
    rfl

/-- The tables once `n` numbers have been clamped, stored and ordered (R188). -/
def Tables.written (t : Tables) (table start n : Nat) (raw : Nat → Int) : Tables :=
  orderTables table start n (clampInto table start (rawsFrom start n raw) t)

/-- What a parameter holds once the numbers have been clamped, before the orderings. -/
def clampedValue (table start n : Nat) (raw before : Nat → Int) (j : Nat) : Int :=
  if start ≤ j ∧ j < start + n then paramClamp table j (raw j) else before j

section
variable {table start n : Nat} {raw : Nat → Int}

theorem clampInto_value (h6 : 6 ≤ table) (h9 : table ≤ 9) (inside : start + n ≤ tableEntries table) (t : Tables) {j : Nat}
    (hj : j < tableEntries table) : (clampInto table start (rawsFrom start n raw) t).param table j =
      clampedValue table start n raw (t.param table) j := by
  rw [clampInto_param h6 h9 t (by rw [rawsFrom_length]; exact inside) hj, rawsFrom_length]
  unfold clampedValue
  split
  · next written => rw [rawsFrom_getD raw written]
  · rfl

theorem orderedValue_congr (h6 : 6 ≤ table) (h9 : table ≤ 9) {a b : Nat → Int}
    (same : ∀ j, j < tableEntries table → a j = b j) {j : Nat} (hj : j < tableEntries table) :
    orderedValue table start n a j = orderedValue table start n b j := by
  unfold orderedValue
  obtain rfl | rfl | rfl | rfl := paramTable_cases h6 h9
  · rw [same 5 (by decide), same 4 (by decide), same j hj]; simp
  · rw [same 0 (by decide), same 1 (by decide), same 2 (by decide), same 6 (by decide), same 7 (by decide), same j hj]
    simp
  · rw [same j hj]; simp
  · rw [same j hj]; simp

theorem clampInto_relayhigh (h6 : 6 ≤ table) (h9 : table ≤ 9) (inside : start + n ≤ tableEntries table) {t : Tables}
    (high : 1 ≤ t.general.relayhigh) :
    1 ≤ (clampInto table start (rawsFrom start n raw) t).general.relayhigh := by
  have frame := clampInto_frame table start (rawsFrom start n raw) t
  by_cases general : table = 6
  · subst general
    have value := clampInto_value (raw := raw) h6 h9 inside t (j := 4) (by decide)
    have low : 1 ≤ clampedValue 6 start n raw (t.param 6) 4 := by
      unfold clampedValue
      split
      · rw [paramClamp_eq (fun k => absurd k.1 (by decide))]
        exact le_max_left _ _
      · exact Int.ofNat_le.mpr high
    rw [← value] at low
    exact Int.ofNat_le.mp low
  · rw [frame.general general]
    exact high

/-- The orderings of table 7 read no parameter of table 6. -/
theorem orderTables_param_apart (h6 : 6 ≤ table) (h9 : table ≤ 9) (apart : table ≠ 6) (t : Tables) {j : Nat}
    (hj : j < tableEntries table) :
    (orderTables table start n t).param table j = orderedValue table start n (t.param table) j := by
  have ordered := orderTables_param h6 h9 start n { t with general := { t.general with relayhigh := 1 } } hj (Nat.le_refl 1)
  obtain rfl | rfl | rfl | rfl := paramTable_cases h6 h9
  · exact absurd rfl apart
  · exact ordered
  · exact ordered
  · exact ordered

/-- Every parameter after a write (R188). -/
theorem written_param (h6 : 6 ≤ table) (h9 : table ≤ 9) (inside : start + n ≤ tableEntries table) {t : Tables}
    (high : table = 6 → 1 ≤ t.general.relayhigh) {j : Nat} (hj : j < tableEntries table) :
    (t.written table start n raw).param table j =
      orderedValue table start n (clampedValue table start n raw (t.param table)) j := by
  refine Eq.trans ?_ (orderedValue_congr h6 h9 (fun _ hi => clampInto_value h6 h9 inside t hi) hj)
  by_cases general : table = 6
  · exact orderTables_param h6 h9 start n _ hj (clampInto_relayhigh h6 h9 inside (high general))
  · exact orderTables_param_apart h6 h9 general _ hj

theorem written_frame (t : Tables) (table start n : Nat) (raw : Nat → Int) :
    ParamFrame table t (t.written table start n raw) :=
  (clampInto_frame table start _ t).trans (orderTables_frame table start n _)

/-- The reply's count, by the numbers written and the values stored. -/
theorem paramCount_written (before after : Tables) : paramCount table start (rawsFrom start n raw) before after =
    ((List.range (tableEntries table)).map fun j =>
      if after.param table j = (if start ≤ j ∧ j < start + n then raw j else before.param table j)
      then 0 else 1).sum := by
  unfold paramCount
  rw [rawsFrom_length]
  refine congrArg List.sum (List.map_congr_left fun j _ => ?_)
  split
  · next written => rw [rawsFrom_getD raw written, differs_eq]
  · rw [differs_eq]

/-- The count comes of the parameters in `S` alone, where the others are neither written nor moved. -/
theorem paramCount_within {S : Finset Nat} {before after : Tables} (sub : ∀ j ∈ S, j < tableEntries table)
    (others : ∀ j, j < tableEntries table → j ∉ S →
      ¬(start ≤ j ∧ j < start + n) ∧ after.param table j = before.param table j) :
    paramCount table start (rawsFrom start n raw) before after = ∑ j ∈ S,
      if after.param table j = (if start ≤ j ∧ j < start + n then raw j else before.param table j) then 0 else 1 := by
  rw [paramCount_written]
  refine Eq.trans (b := ∑ j ∈ Finset.range (tableEntries table), _) rfl (Finset.sum_subset (fun j hj =>
    Finset.mem_range.mpr (sub j hj)) fun j hj out => ?_).symm
  obtain ⟨unwritten, same⟩ := others j (Finset.mem_range.mp hj) out
  rw [if_neg unwritten, if_pos same]

end

/-! ### The owners -/

theorem covers_iff {start n lo hi : Nat} : covers start n lo hi = true ↔ start ≤ hi ∧ lo < start + n := by
  simp [covers]

theorem flowAfterWrite_eq (g : GeneralParams) (l : Link) : l.flowAfterWrite g = { l with
    flow := if l.flow = .flowOpen ∧ g.relayhigh ≤ l.relay.length then .flowBusy
            else if l.flow = .flowBusy ∧ l.relay.length ≤ g.relaylow then .flowOpen else l.flow } := by
  unfold Link.flowAfterWrite
  cases isFlow : l.flow with
  | flowOpen =>
    have same : l = { l with flow := .flowOpen } := by rw [← isFlow]
    unfold Link.flowAfterAppend
    by_cases high : g.relayhigh ≤ l.relay.length
    · simp [high]
    · simp only [high, if_false, and_false]; exact same
  | flowBusy =>
    have same : l = { l with flow := .flowBusy } := by rw [← isFlow]
    unfold Link.flowAfterRemoval
    by_cases low : l.relay.length ≤ g.relaylow
    · simp [low]
    · simp only [low, if_false, and_false]; exact same

/-- The stale limits written move the observations of their kinds alone (R150). -/
theorem staleLimits_fold (start n : Nat) (ks : List ObsKind) (distinct : ks.Nodup) (u : State) :
    ∃ o, ks.foldl (fun t k => if covers start n (k.code + 7) (k.code + 7) then staleLimitWritten k t else t) u =
        u.setObs o ∧
      ∀ k, o.get k = if k ∈ ks ∧ covers start n (k.code + 7) (k.code + 7) = true
        then (u.obs.get k).staleTest (u.tables.general.staleLimit k) else u.obs.get k := by
  induction ks generalizing u with
  | nil => exact ⟨u.obs, rfl, fun k => by rw [if_neg (by simp)]⟩
  | cons x xs ih =>
    obtain ⟨fresh, distinct⟩ := List.nodup_cons.mp distinct
    by_cases c : covers start n (x.code + 7) (x.code + 7) = true
    · obtain ⟨o, fold, get⟩ := ih distinct (staleLimitWritten x u)
      refine ⟨o, by rw [List.foldl_cons, if_pos c, fold]; rfl, fun k => ?_⟩
      rw [get k]
      have moved : (staleLimitWritten x u).obs.get k =
          if k = x then (u.obs.get x).staleTest (u.tables.general.staleLimit x) else u.obs.get k := ObsTable.get_set _ _ _ _
      by_cases same : k = x
      · subst same
        rw [if_neg (fun h => fresh h.1), moved, if_pos rfl, if_pos ⟨List.mem_cons_self, c⟩]
      · rw [moved, if_neg same]
        simp only [List.mem_cons, same, false_or]
        rfl
    · obtain ⟨o, fold, get⟩ := ih distinct u
      refine ⟨o, by rw [List.foldl_cons, if_neg c, fold], fun k => ?_⟩
      rw [get k]
      by_cases same : k = x
      · subst same
        rw [if_neg (fun h => c h.2), if_neg (fun h => c h.2)]
      · simp only [List.mem_cons, same, false_or]

theorem staleLimitsWritten_eq (start n : Nat) (u : State) : ∃ o, staleLimitsWritten start n u = u.setObs o ∧
    ∀ k, o.get k = if start ≤ k.code + 7 ∧ k.code + 7 < start + n
      then (u.obs.get k).staleTest (u.tables.general.staleLimit k) else u.obs.get k := by
  obtain ⟨o, fold, get⟩ := staleLimits_fold start n ObsKind.all (by decide) u
  refine ⟨o, fold, fun k => (get k).trans ?_⟩
  have all : k ∈ ObsKind.all := by cases k <;> decide
  simp only [all, true_and, covers_iff]

/-- The relay flow state once RELAYHIGH or RELAYLOW has been written (R173). -/
def State.flowSettled (u : State) (g : GeneralParams) : RelayFlow :=
  if u.link.flow = .flowOpen ∧ g.relayhigh ≤ u.link.relay.length then .flowBusy
  else if u.link.flow = .flowBusy ∧ u.link.relay.length ≤ g.relaylow then .flowOpen else u.link.flow

section
variable (start n : Nat) (u : State)

theorem ownersAct_six : ∃ o, ownersAct 6 start n u = (u.setLink { u.link with
      flow := if start ≤ 5 ∧ 4 < start + n then u.flowSettled u.tables.general else u.link.flow }).setObs o ∧
    ∀ k, o.get k = if start ≤ k.code + 7 ∧ k.code + 7 < start + n
      then (u.obs.get k).staleTest (u.tables.general.staleLimit k) else u.obs.get k := by
  show ∃ o, staleLimitsWritten start n (if covers start n 4 5 then settleFlow u else u) = _ ∧ _
  by_cases c : start ≤ 5 ∧ 4 < start + n
  · rw [if_pos c, if_pos (covers_iff.mpr c)]
    have settled : settleFlow u = u.setLink { u.link with flow := u.flowSettled u.tables.general } :=
      congrArg u.setLink (flowAfterWrite_eq _ _)
    rw [settled]
    exact staleLimitsWritten_eq start n _
  · rw [if_neg c, if_neg (fun k => c (covers_iff.mp k))]
    exact staleLimitsWritten_eq start n u

theorem ownersAct_eight (h : start ≤ 1 → u.ice.st.inFill = false) : ownersAct 8 start n u = u := by
  show (if covers start n 1 1 then fillTimeTest (if covers start n 0 0 then fillVolumeTest u else u)
    else if covers start n 0 0 then fillVolumeTest u else u) = u
  have volume : (if covers start n 0 0 then fillVolumeTest u else u) = u := by
    split
    · next c =>
      have noFill := h ((covers_iff.mp c).1.trans (by decide))
      simp [fillVolumeTest, noFill]
    · rfl
  rw [volume]
  split
  · next c =>
    have noFill := h (covers_iff.mp c).1
    simp [fillTimeTest, noFill]
  · rfl

theorem ownersAct_nine (h : 1 ≤ n) : ownersAct 9 start n u = u.setLine { u.line with
    flowk := if start = 0 ∧ u.mode = .loading then u.tables.water.flowk else u.line.flowk
    filterState := if start ≤ 12 ∧ 11 < start + n then filterStateFor u.tables.water u.line.filterTotal
                   else u.line.filterState } := by
  show (if covers start n 11 12 then resetFilterState (if covers start n 0 0 then flowkWritten u else u)
    else if covers start n 0 0 then flowkWritten u else u) = _
  have first : covers start n 0 0 = true ↔ start = 0 := by rw [covers_iff]; omega
  have flowk : (if covers start n 0 0 then flowkWritten u else u) = u.setLine { u.line with
      flowk := if start = 0 ∧ u.mode = .loading then u.tables.water.flowk else u.line.flowk } := by
    unfold flowkWritten
    by_cases zero : start = 0
    · rw [if_pos (first.mpr zero)]
      by_cases loading : u.mode = .loading
      · rw [if_pos loading, if_pos ⟨zero, loading⟩]
      · rw [if_neg loading, if_neg (fun k => loading k.2)]; rfl
    · rw [if_neg (fun k => zero (first.mp k)), if_neg (fun k => zero k.1)]; rfl
  rw [flowk]
  by_cases filter : start ≤ 12 ∧ 11 < start + n
  · rw [if_pos (covers_iff.mpr filter), if_pos filter]
    rfl
  · rw [if_neg (fun k => filter (covers_iff.mp k)), if_neg filter]

theorem ownersAct_thr (h : 1 ≤ n) : ownersAct 7 start n u = u.setDefrost { u.defrost with
    thr := if start ≤ 2 then max u.tables.defrost.thrmin (min u.tables.defrost.thrmax u.defrost.thr)
           else u.defrost.thr } := by
  rw [ownersAct_seven]
  by_cases low : start ≤ 2
  · rw [if_pos (covers_iff.mpr ⟨low, by omega⟩), if_pos low]
    rfl
  · rw [if_neg (fun k => low (covers_iff.mp k).1), if_neg low]
    rfl

end

end Sys2Proof.Machine
end


section
/-! PROOF. A write of parameters, and the threshold range (O28). -/

namespace Sys2Proof.Machine

section
variable {s v : State} {dt table start n : Nat} {data : List Byte} {raw : Nat → Int} {flow : RelayFlow}

/-- A write of parameters: the owners act over the tables written, and the reply counts (R188). -/
theorem Write.params (w : Write s table start n data) (h6 : 6 ≤ table)
    (raws : ∀ j, j < n → raw (start + j) = paramOfBytes table (start + j) ((data.drop (3 * j)).take 3))
    (owners : ownersAct table start n ((s.atCommand dt).setTables (s.tables.written table start n raw)) = v)
    (link : v.link = { (s.atCommand dt).link with flow := flow }) (now : v.now = s.now + dt)
    (own : v.ownAddress = s.ownAddress) :
    exec (.tableWrite dt (byteOf table :: byteOf start :: data)) s = .next (v.setLink { s.repliedLink dt 0x82
      [0, byteOf (paramCount table start (rawsFrom start n raw) s.tables (s.tables.written table start n raw))] with
        flow := flow }) := by
  have h9 := w.known.2
  have stores : storeEntries table start (entriesOf (entryBytes table) n data) (s.atCommand dt) =
      Option.some (storeParams table start (entriesOf 3 n data) (s.atCommand dt)) := by
    obtain rfl | rfl | rfl | rfl := paramTable_cases h6 h9 <;> rfl
  refine w.row (stores.trans ?_) link now own
  unfold storeParams
  rw [raws_eq raws, entriesOf_length]
  exact congrArg (fun x => Option.some (x, _)) owners

end

theorem DefrostParams.eq_of_get {p q : DefrostParams} (h : ∀ j, j < 16 → p.get j = q.get j) : p = q := by
  cases p
  cases q
  simp only [DefrostParams.mk.injEq]
  exact ⟨Int.ofNat.inj (h 0 (by decide)), Int.ofNat.inj (h 1 (by decide)), Int.ofNat.inj (h 2 (by decide)),
    Int.ofNat.inj (h 3 (by decide)), Int.ofNat.inj (h 4 (by decide)), Int.ofNat.inj (h 5 (by decide)),
    Int.ofNat.inj (h 6 (by decide)), Int.ofNat.inj (h 7 (by decide)), h 8 (by decide), Int.ofNat.inj (h 9 (by decide)),
    Int.ofNat.inj (h 10 (by decide)), h 11 (by decide), Int.ofNat.inj (h 12 (by decide)),
    Int.ofNat.inj (h 13 (by decide)), Int.ofNat.inj (h 14 (by decide)), Int.ofNat.inj (h 15 (by decide))⟩

/-! ### The threshold range -/

section
variable {s : State} {dt i n : Nat} {data : List Byte} {raw : Nat → Int}

/-- A parameter of THRSTART, THRMIN and THRMAX as written, clamped (R14). -/
theorem paramClamp_thr {j : Nat} (hj : j < 3) (x : Int) : paramClamp 7 j x = max 57600 (min 8294400 x) := by
  rw [paramClamp_eq (fun k => absurd k.1 (by decide))]
  interval_cases j <;> rfl

theorem paramOfBytes_thr {j : Nat} (hj : j < 3) (bs : List Byte) : paramOfBytes 7 j bs = numberOf bs := by
  interval_cases j <;> rfl

/-- What a write within THRSTART, THRMIN and THRMAX leaves of table 7 (R14, R188). -/
theorem thresholds_param (some : 1 ≤ n) (inside : i + n ≤ 3) (t : Tables) {j : Nat} (hj : j < 16) :
    (t.written 7 i n raw).defrost.get j = orderedValue 7 0 3 (clampedValue 7 i n raw t.defrost.get) j := by
  refine (written_param (table := 7) (by decide) (by decide) (inside.trans (by decide)) (fun k => absurd k (by decide))
    hj).trans ?_
  have low : covers i n 0 2 = true := covers_iff.mpr ⟨by omega, by omega⟩
  have high : covers i n 6 7 = false := by rw [covers_eq_false_iff]; omega
  have low' : covers 0 3 0 2 = true := rfl
  have high' : covers 0 3 6 7 = false := rfl
  unfold orderedValue
  rw [low, high, low', high']
  rfl

theorem thresholds_unmoved (some : 1 ≤ n) (inside : i + n ≤ 3) (t : Tables) {j : Nat} (h3 : 3 ≤ j) (hj : j < 16) :
    (t.written 7 i n raw).defrost.get j = t.defrost.get j := by
  rw [thresholds_param some inside t hj]
  unfold orderedValue clampedValue
  rw [if_neg (by omega), if_neg (by omega), if_neg (by omega), if_neg (by simp [covers]), if_neg (by omega)]

/-- A write within THRSTART, THRMIN and THRMAX, carried out (R14, R188). -/
theorem thresholds_row (hears : s.hears) (free : s.restartPending = false) (length : data.length = 3 * n) (some : 1 ≤ n)
    (inside : i + n ≤ 3) (raws : ∀ j, j < n → raw (i + j) = numberOf ((data.drop (3 * j)).take 3)) {p : DefrostParams}
    (stored : (s.tables.written 7 i n raw).defrost = p) :
    exec (.tableWrite dt (7 :: byteOf i :: data)) s = .next { s.replied dt 0x82 [0, byteOf (∑ j ∈ {0, 1, 2},
        if p.get j = (if i ≤ j ∧ j < i + n then raw j else s.tables.defrost.get j) then 0 else 1)] with
      tables := { s.tables with defrost := p }
      defrost := { s.defrost with thr := max p.thrmin (min p.thrmax s.defrost.thr) } } := by
  have w : Write s 7 i n data :=
    ⟨hears, free, by decide, some, length, by omega, inside.trans (by decide), fun k => by simp [lockedInRunning] at k⟩
  have tables : s.tables.written 7 i n raw = { s.tables with defrost := p } := by
    rw [← stored]
    exact written_frame s.tables 7 i n raw
  have count := paramCount_within (table := 7) (start := i) (n := n) (raw := raw) (S := {0, 1, 2}) (before := s.tables)
    (after := s.tables.written 7 i n raw) (by decide) fun j hj out => by
      have h3 : 3 ≤ j := by simp at out; omega
      exact ⟨by omega, thresholds_unmoved some inside s.tables h3 hj⟩
  have owners := ownersAct_thr i n ((s.atCommand dt).setTables (s.tables.written 7 i n raw)) some
  rw [if_pos (by omega : i ≤ 2)] at owners
  refine (w.params (by decide) (fun j hj => (raws j hj).trans (paramOfBytes_thr (by omega) _).symm) owners
    (flow := s.link.flow) rfl rfl rfl).trans ?_
  rw [count, tables]
  rfl

end

/-- Settles O28: one threshold written, and several, clamped and then ordered. -/
theorem thresholdWriteOrders : Obligations.ThresholdWriteOrders := by
  unfold Obligations.ThresholdWriteOrders
  refine ⟨fun s dt i b0 b1 b2 p hears free hi hp => ?one,
    fun s dt i n data stored written base p hears free length some inside h0 h1 h2 values hbase hp => ?several⟩
  case one =>
    have row := thresholds_row (s := s) (dt := dt) (i := i) (n := 1) (data := [b0, b1, b2])
      (raw := fun _ => numberOf [b0, b1, b2]) hears free rfl (by decide) (by omega)
      (fun j hj => by obtain rfl : j = 0 := by omega
                      rfl) (p := p) (by rw [hp]; interval_cases i <;> rfl)
    refine ⟨row.trans ?_, ?_, ?_, ?_, ?_⟩
    · have count : (∑ j ∈ {0, 1, 2}, if p.get j = (if i ≤ j ∧ j < i + 1 then (numberOf [b0, b1, b2] : Int)
          else s.tables.defrost.get j) then 0 else 1) =
        (if p.get i = (numberOf [b0, b1, b2] : Int) then 0 else 1) +
          (if i = 0 ∨ p.thrstart = s.tables.defrost.thrstart then 0 else 1) +
          (if i = 1 ∨ p.thrmin = s.tables.defrost.thrmin then 0 else 1) +
          (if i = 2 ∨ p.thrmax = s.tables.defrost.thrmax then 0 else 1) := by
        interval_cases i <;> simp [DefrostParams.get] <;> omega
      rw [count]
    · rw [hp]; rfl
    · rw [hp]; rfl
    · rw [hp]; rfl
    · rw [hp]
      exact clampNat_within (le_max_left _ _) _
  case several =>
    have stand (j : Nat) (hj : j < 3) : s.tables.defrost.get j = (stored j : Int) := by
      interval_cases j
      · rw [h0]; rfl
      · rw [h1]; rfl
      · rw [h2]; rfl
    have based (j : Nat) (hj : j < 3) :
        clampedValue 7 i n (fun j => written j) s.tables.defrost.get j = (base j : Int) := by
      unfold clampedValue
      rw [hbase j, paramClamp_thr hj, stand j hj]
      split <;> simp
    have same : (s.tables.written 7 i n fun j => written j).defrost = p := by
      refine DefrostParams.eq_of_get fun j hj => ?_
      by_cases h3 : 3 ≤ j
      · rw [thresholds_unmoved some inside s.tables h3 hj, hp]
        interval_cases j <;> rfl
      · rw [thresholds_param some inside s.tables hj, hp]
        unfold orderedValue
        rw [based 0 (by decide), based 1 (by decide), based 2 (by decide)]
        interval_cases j
        · simp [covers, DefrostParams.get]
        · simpa [DefrostParams.get] using based 1 (by decide)
        · simp [covers, DefrostParams.get]
    refine (thresholds_row (raw := fun j => (written j : Int)) hears free length some inside
      (fun j hj => by rw [values j hj]) same).trans ?_
    have count : (∑ j ∈ {0, 1, 2}, if p.get j = (if i ≤ j ∧ j < i + n then (written j : Int)
          else s.tables.defrost.get j) then 0 else 1) =
        (if p.thrstart = (if i = 0 then written 0 else stored 0) then 0 else 1) +
          (if p.thrmin = (if i ≤ 1 ∧ 1 < i + n then written 1 else stored 1) then 0 else 1) +
          (if p.thrmax = (if i + n = 3 then written 2 else stored 2) then 0 else 1) := by
      have chosen (j : Nat) (hj : j < 3) : (if i ≤ j ∧ j < i + n then (written j : Int) else s.tables.defrost.get j) =
          ((if i ≤ j ∧ j < i + n then written j else stored j : Nat) : Int) := by
        split
        · rfl
        · exact stand j hj
      have first : i ≤ 0 ∧ 0 < i + n ↔ i = 0 := by omega
      have last : i ≤ 2 ∧ 2 < i + n ↔ i + n = 3 := by omega
      rw [Finset.sum_insert (by decide), Finset.sum_pair (by decide), chosen 0 (by decide), chosen 1 (by decide),
        chosen 2 (by decide)]
      simp only [DefrostParams.get, Nat.cast_inj, first, last, Nat.add_assoc]
    rw [count]

end Sys2Proof.Machine
end


section
/-! PROOF. What a write of the route, the curves, the channel map and the load table stores (R120, R144, R145, R170,
R188). -/

namespace Sys2Proof.Machine

/-! ### Lists of entries -/

theorem replaceFrom_getElem? {α : Type} {l xs : List α} {i : Nat} (h : i ≤ l.length) (j : Nat) :
    (replaceFrom l i xs)[j]? = if i ≤ j ∧ j < i + xs.length then xs[j - i]? else l[j]? := by
  unfold replaceFrom
  have taken : (l.take i).length = i := by rw [List.length_take]; omega
  by_cases ahead : j < i
  · rw [if_neg (by omega), List.append_assoc, List.getElem?_append_left (by omega), List.getElem?_take_of_lt ahead]
  · by_cases inside : j < i + xs.length
    · rw [if_pos ⟨by omega, inside⟩, List.getElem?_append_left (by rw [List.length_append]; omega),
        List.getElem?_append_right (by omega), taken]
    · rw [if_neg (fun k => inside k.2), List.getElem?_append_right (by rw [List.length_append]; omega),
        List.getElem?_drop, List.length_append, taken]
      exact congrArg (fun k : Nat => l[k]?) (by omega)

/-- A list whose entries from `i` are `xs` and whose others stand is the list with `xs` in their place. -/
theorem replaceFrom_eq {α : Type} {l r xs : List α} {i : Nat} (h : i ≤ l.length)
    (entries : ∀ j, r[j]? = if i ≤ j ∧ j < i + xs.length then xs[j - i]? else l[j]?) : replaceFrom l i xs = r :=
  List.ext_getElem? fun j => (replaceFrom_getElem? h j).trans (entries j).symm

theorem mapM_eq_some {α β : Type} {f : α → Option β} {l : List α} {m : List β}
    (h : ∀ j : Nat, l[j]?.map f = m[j]?.map some) : l.mapM f = some m := by
  induction l generalizing m with
  | nil =>
    cases m with
    | nil => rfl
    | cons b m => exact absurd (h 0) (by simp)
  | cons a l ih =>
    cases m with
    | nil => exact absurd (h 0) (by simp)
    | cons b m =>
      have head : f a = some b := Option.some.inj (h 0)
      rw [List.mapM_cons, head, ih fun j => h (j + 1)]
      rfl

/-- `m` bytes of a list from index `k`. -/
theorem drop_take_eq {bs : List Byte} {k m : Nat} (h : k + m ≤ bs.length) :
    (bs.drop k).take m = (List.range m).map fun i => bs.getD (k + i) 0 := by
  refine List.ext_getElem? fun i => ?_
  rw [List.getElem?_take, List.getElem?_map]
  by_cases inside : i < m
  · rw [if_pos inside, List.getElem?_drop, List.getElem?_range inside, List.getElem?_eq_getElem (by omega)]
    exact congrArg some (List.getD_eq_getElem _ _ _).symm
  · rw [if_neg inside, List.getElem?_eq_none (by simp; omega)]
    rfl

/-- The entries of a write, byte by byte. -/
theorem entriesOf_eq {size n : Nat} {data : List Byte} (length : data.length = size * n) :
    entriesOf size n data = (List.range n).map fun j => (List.range size).map fun i => data.getD (size * j + i) 0 := by
  refine List.ext_getElem? fun j => ?_
  rw [List.getElem?_map]
  by_cases inside : j < n
  · have last : size * (j + 1) ≤ size * n := Nat.mul_le_mul_left _ inside
    rw [entriesOf_getElem? size data inside, List.getElem?_range inside, drop_take_eq (by rw [length]; exact last)]
    rfl
  · rw [List.getElem?_eq_none (by rw [entriesOf_length]; omega), List.getElem?_eq_none (by simp; omega)]
    rfl

/-- Members of a group of `N` stored by consecutive index, read back. -/
theorem foldl_indexed_get {R X E : Type} {N : Nat} (get : R → Nat → E) (put : R → Nat × X → R) (val : X → E)
    (law : ∀ r i x j, i < N → j < N → get (put r (i, x)) j = if j = i then val x else get r j) {start : Nat} {xs : List X}
    (inside : start + xs.length ≤ N) (r : R) {j : Nat} (hj : j < N) :
    get ((indexedFrom start xs).foldl put r) j =
      ((if start ≤ j then xs[j - start]? else none).map val).getD (get r j) := by
  induction xs generalizing start r with
  | nil => simp
  | cons x xs ih =>
    rw [List.length_cons] at inside
    rw [indexedFrom_cons, List.foldl_cons, ih (by omega), law r start x j (by omega) hj]
    by_cases first : j = start
    · subst first
      rw [if_neg (by omega), if_pos rfl, if_pos (Nat.le_refl _), Nat.sub_self]
      rfl
    · rw [if_neg first]
      by_cases later : start + 1 ≤ j
      · obtain ⟨m, rfl⟩ : ∃ m, j = start + 1 + m := ⟨j - (start + 1), by omega⟩
        rw [if_pos later, if_pos (by omega), Nat.add_sub_cancel_left, show start + 1 + m - start = m + 1 by omega]
        rfl
      · rw [if_neg later, if_neg (by omega)]

/-- The same, of `n` numbered members: those written hold what was written, the others what they held. -/
theorem foldl_numbered_get {R X E : Type} {N : Nat} (get : R → Nat → E) (put : R → Nat × X → R) (val : X → E)
    (law : ∀ r i x j, i < N → j < N → get (put r (i, x)) j = if j = i then val x else get r j) {start n : Nat} (x : Nat → X)
    (inside : start + n ≤ N) (r : R) {j : Nat} (hj : j < N) :
    get ((indexedFrom start ((List.range n).map x)).foldl put r) j =
      if start ≤ j ∧ j < start + n then val (x (j - start)) else get r j := by
  rw [foldl_indexed_get get put val law (by simpa using inside) r hj]
  by_cases written : start ≤ j ∧ j < start + n
  · rw [if_pos written.1, if_pos written, List.getElem?_map, List.getElem?_range (by omega)]
    rfl
  · rw [if_neg written]
    split
    · rw [List.getElem?_eq_none (by simp; omega)]
      rfl
    · rfl

theorem differs_min (top x : Nat) : differs x (min top x) = if x ≤ top then 0 else 1 := by
  unfold differs
  exact if_congr (by omega) rfl rfl

section
variable {s : State} {dt start n count : Nat} {data : List Byte} {b : Nat → Nat}

/-! ### The route -/

theorem routes_row (w : Write s 1 start n data) {R : List RouteEntry} (size : s.tables.route.length = 16)
    (sizeR : R.length = 16)
    (entries : ∀ j : Nat, j < 16 → R[j]? = if start ≤ j ∧ j < start + n
      then RouteEntry.ofBytes ((data.drop (8 * (j - start))).take 8) else s.tables.route[j]?) :
    exec (.tableWrite dt (1 :: byteOf start :: data)) s = .next { s.replied dt 0x82 [0, 0] with
      tables := { s.tables with route := R } } := by
  have inside : start + n ≤ 16 := w.inside
  have written (j : Nat) (hj : j < n) : ((R.drop start).take n)[j]? = R[start + j]? := by
    rw [List.getElem?_take_of_lt hj, List.getElem?_drop]
  have length : ((R.drop start).take n).length = n := by rw [List.length_take, List.length_drop, sizeR]; omega
  have read : (entriesOf 8 n data).mapM RouteEntry.ofBytes = some ((R.drop start).take n) := by
    refine mapM_eq_some fun j => ?_
    by_cases hj : j < n
    · have entry := entries (start + j) (by omega)
      rw [if_pos ⟨by omega, by omega⟩, Nat.add_sub_cancel_left, List.getElem?_eq_getElem (by omega)] at entry
      rw [entriesOf_getElem? 8 data hj, written j hj, List.getElem?_eq_getElem (by omega)]
      exact congrArg some entry.symm
    · rw [List.getElem?_eq_none (by rw [entriesOf_length]; omega), List.getElem?_eq_none (by omega)]
      rfl
  have replaced : replaceFrom s.tables.route start ((R.drop start).take n) = R := by
    refine replaceFrom_eq (by omega) fun j => ?_
    rw [length]
    by_cases hj : start ≤ j ∧ j < start + n
    · rw [if_pos hj, written _ (by omega)]
      exact congrArg (fun k : Nat => R[k]?) (by omega)
    · rw [if_neg hj]
      by_cases low : j < 16
      · rw [entries j low, if_neg hj]
      · rw [List.getElem?_eq_none (by omega), List.getElem?_eq_none (by omega)]
  have stores : storeEntries 1 start (entriesOf (entryBytes 1) n data) (s.atCommand dt) =
      Option.some ((s.atCommand dt).setTables { s.tables with route := R }, 0) := by
    show storeRoute start (entriesOf 8 n data) (s.atCommand dt) = _
    unfold storeRoute
    rw [read, Option.map_some, State.atCommand_tables, replaced]
  exact w.row stores (flow := s.link.flow) rfl rfl rfl

/-! ### The curves -/

theorem numberOf_two (x y : Byte) : numberOf [x, y] = x.toNat * 256 + y.toNat := by simp [numberOf]

theorem signedOf_word (x y : Byte) : signedOf 65536 (numberOf [x, y]) =
    if 32768 ≤ x.toNat * 256 + y.toNat then (x.toNat * 256 + y.toNat : Int) - 65536 else x.toNat * 256 + y.toNat := by
  rw [numberOf_two]
  unfold signedOf
  split <;> split <;> omega

/-- The curves a write of `n` points from index `start` reaches (R187). -/
def curveTouched (start n : Nat) : CurveSel → Bool
  | .noCurve => false
  | .curveA => start < 16
  | .curveB => 16 < start + n

theorem curveTouched_iff (start n : Nat) (c : CurveSel) :
    curveTouched start n c = true ↔ (c = .curveA ∧ start < 16) ∨ (c = .curveB ∧ 16 < start + n) := by
  cases c <;> simp [curveTouched]

theorem curvesWritten_get (touched : CurveSel → Bool) (u : State) (c : Chan) :
    (curvesWritten touched u).temps.get c = if touched (u.tables.chanMap.get c).sel
      then (u.temps.get c).curveWritten u.tables (u.tables.chanMap.get c) else u.temps.get c := by
  cases c <;> rfl

/-- A channel's value once its curve has been written: what it held is lost (R138, R139, R144). -/
theorem valueFor_lost {t : Tables} {m : ChanMapEntry} (fitted : m.sel ≠ .noCurve) (c : Channel) :
    c.valueFor t m none = if curveValid (t.curve m.sel) = true ∧ c.range = .settled
      then c.mean.bind (fun mean => convert mean (t.curve m.sel)) else none := by
  unfold Channel.valueFor channelStatus
  rw [if_neg fitted]
  cases valid : curveValid (t.curve m.sel) with
  | false => simp
  | true => cases c.range <;> simp [Channel.converted]

theorem curves_row (w : Write s 3 start n data) (bytes : ∀ m, b m = (data.getD m 0).toNat) {A B : List CurvePoint}
    {temp : Nat → Int} (sizeA : s.tables.curveA.length = 16) (sizeB : s.tables.curveB.length = 16)
    (lengthA : A.length = 16)
    (temps : ∀ j, temp j = if 32768 ≤ b (4 * j + 2) * 256 + b (4 * j + 3)
      then (b (4 * j + 2) * 256 + b (4 * j + 3) : Int) - 65536 else b (4 * j + 2) * 256 + b (4 * j + 3))
    (points : ∀ j : Nat, (A ++ B)[j]? = if start ≤ j ∧ j < start + n
      then some { count := min 4095 (b (4 * (j - start)) * 256 + b (4 * (j - start) + 1)),
                  temp := max (-32767) (temp (j - start)) }
      else (s.tables.curveA ++ s.tables.curveB)[j]?)
    (counted : count = ((List.range n).map fun j => (if b (4 * j) * 256 + b (4 * j + 1) ≤ 4095 then 0 else 1) +
      (if temp j = -32768 then 1 else 0)).sum) :
    ∃ t, exec (.tableWrite dt (3 :: byteOf start :: data)) s = .next t ∧
      t.tables = { s.tables with curveA := A, curveB := B } ∧
      (∀ c, t.temps.get c =
        if ((s.tables.chanMap.get c).sel = .curveA ∧ start < 16) ∨
          ((s.tables.chanMap.get c).sel = .curveB ∧ 16 < start + n)
        then { s.temps.get c with
          value := if curveValid (t.tables.curve (s.tables.chanMap.get c).sel) = true ∧
                      (s.temps.get c).range = .settled
                   then (s.temps.get c).mean.bind
                     (fun mean => convert mean (t.tables.curve (s.tables.chanMap.get c).sel)) else none }
        else s.temps.get c) ∧
      t.link = s.repliedLink dt 0x82 [0, byteOf count] ∧ t.now = s.now + dt ∧ t.mode = s.mode ∧ t.obs = s.obs ∧
      t.inputs = s.inputs ∧ t.ownAddress = s.ownAddress ∧ t.restartPending = false ∧ t.pending = s.pending ∧
      KeepsJobs s t := by
  have inside : start + n ≤ 32 := w.inside
  have raws : (entriesOf 4 n data).map CurvePoint.rawOfBytes = (List.range n).map fun j =>
      ({ count := b (4 * j) * 256 + b (4 * j + 1), temp := temp j } : CurvePoint) := by
    rw [entriesOf_eq (size := 4) w.length, List.map_map]
    refine List.map_congr_left fun j _ => ?_
    show CurvePoint.rawOfBytes [data.getD (4 * j + 0) 0, data.getD (4 * j + 1) 0, data.getD (4 * j + 2) 0,
      data.getD (4 * j + 3) 0] = _
    rw [temps j, bytes, bytes, bytes, bytes]
    unfold CurvePoint.rawOfBytes
    exact congrArg₂ CurvePoint.mk (numberOf_two _ _) (signedOf_word _ _)
  have bound (j : Nat) : -32768 ≤ temp j ∧ temp j ≤ 32767 := by
    have high : b (4 * j + 2) < 256 := by rw [bytes]; exact (data.getD (4 * j + 2) 0).isLt
    have low : b (4 * j + 3) < 256 := by rw [bytes]; exact (data.getD (4 * j + 3) 0).isLt
    rw [temps j]
    split <;> omega
  have clamped (j : Nat) : CurvePoint.clamped { count := b (4 * j) * 256 + b (4 * j + 1), temp := temp j } =
      { count := min 4095 (b (4 * j) * 256 + b (4 * j + 1)), temp := max (-32767) (temp j) } := by
    have := bound j
    unfold CurvePoint.clamped clampInt
    refine congrArg (CurvePoint.mk _) ?_
    show max (-32767) (min 32767 (temp j)) = _
    omega
  have counts (j : Nat) : differs (b (4 * j) * 256 + b (4 * j + 1)) (min 4095 (b (4 * j) * 256 + b (4 * j + 1))) +
      differs (temp j) (max (-32767) (temp j)) =
      (if b (4 * j) * 256 + b (4 * j + 1) ≤ 4095 then 0 else 1) + (if temp j = -32768 then 1 else 0) := by
    have := bound j
    rw [differs_min]
    unfold differs
    congr 1
    split <;> split <;> omega
  have replaced : replaceFrom (s.tables.curveA ++ s.tables.curveB) start
      (((entriesOf 4 n data).map CurvePoint.rawOfBytes).map CurvePoint.clamped) = A ++ B := by
    refine replaceFrom_eq (by rw [List.length_append]; omega) fun j => ?_
    rw [raws, List.map_map, List.length_map, List.length_range, points j]
    by_cases hj : start ≤ j ∧ j < start + n
    · rw [if_pos hj, if_pos hj, List.getElem?_map, List.getElem?_range (by omega)]
      exact congrArg some (clamped _).symm
    · rw [if_neg hj, if_neg hj]
  have total : (((entriesOf 4 n data).map CurvePoint.rawOfBytes).map fun p : CurvePoint =>
      differs p.count p.clamped.count + differs p.temp p.clamped.temp).sum = count := by
    rw [raws, List.map_map, counted]
    refine congrArg List.sum (List.map_congr_left fun j _ => ?_)
    show differs _ (CurvePoint.clamped _).count + differs _ (CurvePoint.clamped _).temp = _
    rw [clamped]
    exact counts j
  have front : (A ++ B).take 16 = A := by
    rw [List.take_append_of_le_length (by omega), List.take_of_length_le (by omega)]
  have back : (A ++ B).drop 16 = B := by rw [← lengthA, List.drop_left]
  have stores : storeEntries 3 start (entriesOf (entryBytes 3) n data) (s.atCommand dt) = Option.some (curvesWritten
      (curveTouched start n)
      ((s.atCommand dt).setTables { s.tables with curveA := A, curveB := B }), count) := by
    show Option.some (storeCurves start (entriesOf 4 n data) (s.atCommand dt)) = _
    unfold storeCurves
    dsimp only
    rw [State.atCommand_tables, replaced, total, entriesOf_length, front, back]
    rfl
  refine ⟨_, w.row stores (flow := s.link.flow) rfl rfl rfl, rfl, fun c => ?_, rfl, rfl, rfl, rfl, rfl, rfl, w.free, rfl,
    rfl, rfl, rfl, rfl, rfl⟩
  refine (curvesWritten_get _ _ c).trans ?_
  show (if curveTouched start n (s.tables.chanMap.get c).sel then _ else _) = _
  by_cases touched : curveTouched start n (s.tables.chanMap.get c).sel = true
  · have reached := (curveTouched_iff start n _).mp touched
    have fitted : (s.tables.chanMap.get c).sel ≠ .noCurve := by
      rcases reached with ⟨sel, -⟩ | ⟨sel, -⟩ <;> simp [sel]
    rw [if_pos touched, if_pos reached]
    unfold Channel.curveWritten
    exact congrArg (fun x => ({ s.temps.get c with value := x } : Channel)) (valueFor_lost fitted _)
  · rw [if_neg touched, if_neg (fun k => touched ((curveTouched_iff start n _).mpr k))]
    rfl

/-! ### The channel map -/

theorem CurveSel.ofCode_code (c : CurveSel) : CurveSel.ofCode c.code = some c := by cases c <;> rfl

theorem Chan.ofIndex_inj {i j : Nat} (hi : i < 4) (hj : j < 4) : Chan.ofIndex j = Chan.ofIndex i ↔ j = i := by
  interval_cases i <;> interval_cases j <;> decide

theorem Gated.ofIndex_inj {i j : Nat} (hi : i < 5) (hj : j < 5) : Gated.ofIndex j = Gated.ofIndex i ↔ j = i := by
  interval_cases i <;> interval_cases j <;> decide

theorem ChanMap.get_set (m : ChanMap) (c d : Chan) (e : ChanMapEntry) :
    (m.set c e).get d = if d = c then e else m.get d := by
  cases c <;> cases d <;> rfl

theorem LoadTable.get_set (t : LoadTable) (o p : Gated) (e : LoadEntry) :
    (t.set o e).get p = if p = o then e else t.get p := by
  cases o <;> cases p <;> rfl

theorem ChanMap.eq_of_get {m k : ChanMap} (h : ∀ j, j < 4 → m.get (.ofIndex j) = k.get (.ofIndex j)) : m = k := by
  cases m
  cases k
  simp only [ChanMap.mk.injEq]
  exact ⟨h 0 (by decide), h 1 (by decide), h 2 (by decide), h 3 (by decide)⟩

theorem Channels.eq_of_get {m k : Channels} (h : ∀ j, j < 4 → m.get (.ofIndex j) = k.get (.ofIndex j)) : m = k := by
  cases m
  cases k
  simp only [Channels.mk.injEq]
  exact ⟨h 0 (by decide), h 1 (by decide), h 2 (by decide), h 3 (by decide)⟩

theorem LoadTable.eq_of_get {m k : LoadTable} (h : ∀ j, j < 5 → m.get (.ofIndex j) = k.get (.ofIndex j)) : m = k := by
  cases m
  cases k
  simp only [LoadTable.mk.injEq]
  exact ⟨h 0 (by decide), h 1 (by decide), h 2 (by decide), h 3 (by decide), h 4 (by decide)⟩

/-- A write of the channel map: each entry stored clamped, each channel reset, entry by entry (R145). -/
theorem chanMap_fold (l : List (Nat × ChanMapEntry)) (u : State) :
    l.foldl (fun t ie => resetChannel (.ofIndex ie.1)
        (t.setTables { t.tables with chanMap := t.tables.chanMap.set (.ofIndex ie.1) ie.2.clamped })) u =
      (u.setTables { u.tables with
        chanMap := l.foldl (fun m ie => m.set (.ofIndex ie.1) ie.2.clamped) u.tables.chanMap }).setTemps
          (l.foldl (fun c ie => c.set (.ofIndex ie.1) .reset) u.temps) := by
  induction l generalizing u with
  | nil => rfl
  | cons ie l ih => rw [List.foldl_cons, ih]; rfl

/-- An entry is what its written limits clamp to. -/
theorem ChanMapEntry.clamped_of {e : ChanMapEntry} {x y : Nat} (below : e.below = min 4095 x)
    (above : e.above = max e.below (min 4095 y)) :
    ({ sel := e.sel, below := x, above := y } : ChanMapEntry).clamped = e := by
  obtain ⟨sel, lo, hi⟩ := e
  have below : lo = min 4095 x := below
  have above : hi = max lo (min 4095 y) := above
  subst above below
  rfl

theorem chanMap_row (w : Write s 4 start n data) (bytes : ∀ m, b m = (data.getD m 0).toNat) {M : ChanMap} {T : Channels}
    (written : ∀ j, start ≤ j → j < start + n →
      (M.get (.ofIndex j)).sel.code = b (5 * (j - start)) ∧
      (M.get (.ofIndex j)).below = min 4095 (b (5 * (j - start) + 1) * 256 + b (5 * (j - start) + 2)) ∧
      (M.get (.ofIndex j)).above = max (M.get (.ofIndex j)).below
        (min 4095 (b (5 * (j - start) + 3) * 256 + b (5 * (j - start) + 4))) ∧
      T.get (.ofIndex j) = { range := .unsettled, total := 0, lowRun := 0, highRun := 0, inRun := 0,
                             history := [], value := none })
    (others : ∀ j, j < 4 → j < start ∨ start + n ≤ j →
      M.get (.ofIndex j) = s.tables.chanMap.get (.ofIndex j) ∧ T.get (.ofIndex j) = s.temps.get (.ofIndex j))
    (counted : count = ((List.range n).map fun j =>
      (if (M.get (.ofIndex (start + j))).below = b (5 * j + 1) * 256 + b (5 * j + 2) then 0 else 1) +
      (if (M.get (.ofIndex (start + j))).above = b (5 * j + 3) * 256 + b (5 * j + 4) then 0 else 1)).sum) :
    exec (.tableWrite dt (4 :: byteOf start :: data)) s = .next { s.replied dt 0x82 [0, byteOf count] with
      tables := { s.tables with chanMap := M }, temps := T } := by
  have inside : start + n ≤ 4 := w.inside
  have entry (j : Nat) (hj : j < n) :
      CurveSel.ofCode (b (5 * j)) = some (M.get (.ofIndex (start + j))).sel ∧
        ({ sel := (M.get (.ofIndex (start + j))).sel, below := b (5 * j + 1) * 256 + b (5 * j + 2),
           above := b (5 * j + 3) * 256 + b (5 * j + 4) } : ChanMapEntry).clamped = M.get (.ofIndex (start + j)) := by
    obtain ⟨sel, below, above, -⟩ := written (start + j) (by omega) (by omega)
    rw [Nat.add_sub_cancel_left] at sel below above
    exact ⟨by rw [← sel, CurveSel.ofCode_code], ChanMapEntry.clamped_of below above⟩
  have read : (entriesOf 5 n data).mapM ChanMapEntry.rawOfBytes = some ((List.range n).map fun j =>
      { sel := (M.get (.ofIndex (start + j))).sel, below := b (5 * j + 1) * 256 + b (5 * j + 2),
        above := b (5 * j + 3) * 256 + b (5 * j + 4) }) := by
    refine mapM_eq_some fun j => ?_
    rw [entriesOf_eq (size := 5) w.length, List.getElem?_map, List.getElem?_map]
    by_cases hj : j < n
    · obtain ⟨sel, -⟩ := entry j hj
      rw [bytes] at sel
      rw [List.getElem?_range hj]
      show some (ChanMapEntry.rawOfBytes [data.getD (5 * j + 0) 0, data.getD (5 * j + 1) 0, data.getD (5 * j + 2) 0,
        data.getD (5 * j + 3) 0, data.getD (5 * j + 4) 0]) = some (some _)
      show some ((CurveSel.ofCode (data.getD (5 * j) 0).toNat).map fun sel =>
        ({ sel := sel, below := numberOf [data.getD (5 * j + 1) 0, data.getD (5 * j + 2) 0],
           above := numberOf [data.getD (5 * j + 3) 0, data.getD (5 * j + 4) 0] } : ChanMapEntry)) = some (some _)
      rw [sel, numberOf_two, numberOf_two, ← bytes, ← bytes, ← bytes, ← bytes]
      rfl
    · rw [List.getElem?_eq_none (by simp; omega)]
      rfl
  have mapped : (indexedFrom start ((List.range n).map fun j =>
      ({ sel := (M.get (.ofIndex (start + j))).sel, below := b (5 * j + 1) * 256 + b (5 * j + 2),
         above := b (5 * j + 3) * 256 + b (5 * j + 4) } : ChanMapEntry))).foldl
        (fun m ie => m.set (.ofIndex ie.1) ie.2.clamped) s.tables.chanMap = M := by
    refine ChanMap.eq_of_get fun j hj => (foldl_numbered_get (N := 4) (fun m j => ChanMap.get m (.ofIndex j))
      (fun m ie => m.set (.ofIndex ie.1) ie.2.clamped) ChanMapEntry.clamped (fun r i x j hi hj => ?_) _ inside _ hj).trans ?_
    · exact (ChanMap.get_set _ _ _ _).trans (if_congr (Chan.ofIndex_inj hi hj) rfl rfl)
    · split
      · next at' =>
        obtain ⟨m, rfl⟩ : ∃ m, j = start + m := ⟨j - start, by omega⟩
        rw [Nat.add_sub_cancel_left]
        exact (entry m (by omega)).2
      · next other => exact (others j hj (by omega)).1.symm
  have reset : (indexedFrom start ((List.range n).map fun j =>
      ({ sel := (M.get (.ofIndex (start + j))).sel, below := b (5 * j + 1) * 256 + b (5 * j + 2),
         above := b (5 * j + 3) * 256 + b (5 * j + 4) } : ChanMapEntry))).foldl
        (fun c ie => c.set (.ofIndex ie.1) .reset) s.temps = T := by
    refine Channels.eq_of_get fun j hj => (foldl_numbered_get (N := 4) (fun m j => Channels.get m (.ofIndex j))
      (fun c ie => c.set (.ofIndex ie.1) .reset) (fun _ => Channel.reset) (fun r i x j hi hj => ?_) _ inside _ hj).trans ?_
    · exact (Channels.get_set _ _ _ _).trans (if_congr (Chan.ofIndex_inj hi hj) rfl rfl)
    · split
      · next at' => exact (written j at'.1 at'.2).2.2.2.symm
      · next other => exact (others j hj (by omega)).2.symm
  have stores : storeEntries 4 start (entriesOf (entryBytes 4) n data) (s.atCommand dt) = Option.some
      (((s.atCommand dt).setTables { s.tables with chanMap := M }).setTemps T, count) := by
    show storeChanMap start (entriesOf 5 n data) (s.atCommand dt) = _
    unfold storeChanMap
    rw [read]
    refine congrArg some (congrArg₂ Prod.mk ((chanMap_fold _ _).trans ?_) ?_)
    · rw [State.atCommand_tables, State.atCommand_temps, mapped, reset]
    · rw [List.map_map, counted]
      refine congrArg List.sum (List.map_congr_left fun j hj => ?_)
      show differs _ (ChanMapEntry.clamped _).below + differs _ (ChanMapEntry.clamped _).above = _
      rw [(entry j (List.mem_range.mp hj)).2, differs_eq, differs_eq]
  exact w.row stores (flow := s.link.flow) rfl rfl rfl

/-! ### The load table -/

theorem load_row (w : Write s 5 start n data) (bytes : ∀ m, b m = (data.getD m 0).toNat) {L : LoadTable}
    (written : ∀ j, j < 5 → L.get (.ofIndex j) = if start ≤ j ∧ j < start + n
      then { weight := min 15 (b (3 * (j - start))), cls := min 2 (b (3 * (j - start) + 1)),
             aging := b (3 * (j - start) + 2) }
      else s.tables.load.get (.ofIndex j))
    (counted : count = ((List.range n).map fun j =>
      (if b (3 * j) ≤ 15 then 0 else 1) + (if b (3 * j + 1) ≤ 2 then 0 else 1)).sum) :
    exec (.tableWrite dt (5 :: byteOf start :: data)) s = .next { s.replied dt 0x82 [0, byteOf count] with
      tables := { s.tables with load := L } } := by
  have inside : start + n ≤ 5 := w.inside
  have raws : (entriesOf 3 n data).map LoadEntry.rawOfBytes = (List.range n).map fun j =>
      ({ weight := b (3 * j), cls := b (3 * j + 1), aging := b (3 * j + 2) } : LoadEntry) := by
    rw [entriesOf_eq (size := 3) w.length, List.map_map]
    refine List.map_congr_left fun j _ => ?_
    rw [bytes, bytes, bytes]
    rfl
  have stored : (indexedFrom start ((List.range n).map fun j =>
      ({ weight := b (3 * j), cls := b (3 * j + 1), aging := b (3 * j + 2) } : LoadEntry))).foldl
        (fun t ie => t.set (.ofIndex ie.1) ie.2.clamped) s.tables.load = L := by
    refine LoadTable.eq_of_get fun j hj => (foldl_numbered_get (N := 5) (fun m j => LoadTable.get m (.ofIndex j))
      (fun t ie => t.set (.ofIndex ie.1) ie.2.clamped) LoadEntry.clamped (fun r i x j hi hj => ?_) _ inside _ hj).trans ?_
    · exact (LoadTable.get_set _ _ _ _).trans (if_congr (Gated.ofIndex_inj hi hj) rfl rfl)
    · exact (written j hj).symm
  have stores : storeEntries 5 start (entriesOf (entryBytes 5) n data) (s.atCommand dt) = Option.some
      ((s.atCommand dt).setTables { s.tables with load := L }, count) := by
    show Option.some (storeLoad start (entriesOf 3 n data) (s.atCommand dt)) = _
    unfold storeLoad
    rw [raws]
    refine congrArg some (congrArg₂ Prod.mk ?_ ?_)
    · rw [State.atCommand_tables, stored]
    · rw [List.map_map, counted]
      refine congrArg List.sum (List.map_congr_left fun j _ => ?_)
      show differs (b (3 * j)) (min 15 (b (3 * j))) + differs (b (3 * j + 1)) (min 2 (b (3 * j + 1))) +
        differs (b (3 * j + 2)) (b (3 * j + 2)) = _
      rw [differs_min, differs_min, differs_self, Nat.add_zero]
  exact w.row stores (flow := s.link.flow) rfl rfl rfl

/-! ### The door set -/

theorem doorSet_row (w : Write s 2 0 1 data) {written : BitVec 64} (h : written = BitVec.ofNat 64 (numberOf data)) :
    exec (.tableWrite dt (2 :: 0 :: data)) s = .next { s.replied dt 0x82 [0, byteOf
        ((if written.getLsbD 0 then 1 else 0) + (if written.getLsbD 63 then 1 else 0) +
         (if written.getLsbD s.ownAddress.toNat then 1 else 0))] with
      tables := { s.tables with doorSet := doorSetMembers s.ownAddress written } } := by
  subst h
  have one : (entriesOf 8 1 data).flatten = data := by
    show data.take 8 ++ [] = data
    rw [List.append_nil, List.take_of_length_le (by rw [w.length]; decide)]
  have stores : storeEntries 2 0 (entriesOf (entryBytes 2) 1 data) (s.atCommand dt) = Option.some
      ((s.atCommand dt).setTables { s.tables with
        doorSet := doorSetMembers s.ownAddress (BitVec.ofNat 64 (numberOf data)) },
        doorSetLeftOut s.ownAddress (BitVec.ofNat 64 (numberOf data))) := by
    show Option.some (storeDoorSet (entriesOf 8 1 data) (s.atCommand dt)) = _
    unfold storeDoorSet
    rw [one]
    rfl
  exact w.row stores (flow := s.link.flow) rfl rfl rfl

end

end Sys2Proof.Machine
end


section
/-! PROOF. A write of parameters of any table: values, owners and count (R187, R188); a parameter's range and bytes. -/

namespace Sys2Proof.Machine

/-! ### The orderings and the owners, as the obligations state them -/

theorem orderedValue_eq {table start n : Nat} (some : 1 ≤ n) (base : Nat → Int) (j : Nat) :
    orderedValue table start n base j =
      if table = 6 ∧ start ≤ 5 ∧ 4 < start + n ∧ j = 5 then min (base 5) (base 4 - 1)
      else if table = 7 ∧ start ≤ 2 ∧ j = 0 then max (base 1) (min (max (base 1) (base 2)) (base 0))
      else if table = 7 ∧ start ≤ 2 ∧ j = 2 then max (base 1) (base 2)
      else if table = 7 ∧ start ≤ 7 ∧ 6 < start + n ∧ j = 7 then max (base 6) (base 7)
      else base j := by
  have reached : 0 < start + n := by omega
  unfold orderedValue
  simp only [covers_iff, and_assoc, reached, true_and]

theorem staleLimit_get (g : GeneralParams) (k : ObsKind) : (g.staleLimit k : Int) = g.get (k.code + 7) := by
  cases k <;> rfl

theorem staleTest_eq (limit : Nat) (e : ObsEntry) : e.staleTest limit =
    if e.st = .fresh ∧ (limit : Int) ≠ 0 ∧ (limit : Int) ≤ e.age then { e with st := .stale } else e := by
  unfold ObsEntry.staleTest
  exact if_congr (and_congr Iff.rfl (and_congr (by omega) (by omega))) rfl rfl

/-- What the owners of a parameter table do (R14, R55, R63, R150, R173), no fill being under way where its volume or
its time is written. -/
theorem ownersAct_params {table start n : Nat} (h6 : 6 ≤ table) (h9 : table ≤ 9) (some : 1 ≤ n) (u : State)
    (noFill : table = 8 → start ≤ 1 → u.ice.st.inFill = false) :
    ∃ o, ownersAct table start n u = (((u.setLink { u.link with
        flow := if table = 6 ∧ start ≤ 5 ∧ 4 < start + n then u.flowSettled u.tables.general else u.link.flow }).setObs
          o).setDefrost (if table = 7 ∧ start ≤ 2
            then { u.defrost with
              thr := max u.tables.defrost.thrmin (min u.tables.defrost.thrmax u.defrost.thr) } else u.defrost)).setLine
          (if table = 9
            then { u.line with
              flowk := if start = 0 ∧ u.mode = .loading then u.tables.water.flowk else u.line.flowk
              filterState := if start ≤ 12 ∧ 11 < start + n then filterStateFor u.tables.water u.line.filterTotal
                             else u.line.filterState }
            else u.line) ∧
      ∀ k, o.get k = if table = 6 ∧ start ≤ k.code + 7 ∧ k.code + 7 < start + n
        then (u.obs.get k).staleTest (u.tables.general.staleLimit k) else u.obs.get k := by
  obtain rfl | rfl | rfl | rfl := paramTable_cases h6 h9
  · obtain ⟨o, acts, get⟩ := ownersAct_six start n u
    refine ⟨o, acts.trans ?_, fun k => by simp [get k]⟩
    simp
    rfl
  · refine ⟨u.obs, (ownersAct_thr start n u some).trans ?_, fun k => by simp⟩
    by_cases low : start ≤ 2
    · simp [low]
      rfl
    · simp [low]
      rfl
  · exact ⟨u.obs, (ownersAct_eight start n u (noFill rfl)).trans (by simp; rfl), fun k => by simp⟩
  · exact ⟨u.obs, (ownersAct_nine start n u some).trans (by simp; rfl), fun k => by simp⟩

/-! ### A write of several parameters -/

section
variable {s : State} {dt table start n count : Nat} {data : List Byte} {raw value : Nat → Int}

/-- A write of `n` parameters: each value, what the owners do, and the count (R187, R188). -/
theorem Write.parameters (w : Write s table start n data) (h6 : 6 ≤ table)
    (noFill : table = 8 → start ≤ 1 → s.ice.st.inFill = false) (high : 1 ≤ s.tables.general.relayhigh)
    (raws : ∀ j, j < n → raw (start + j) = paramOfBytes table (start + j) ((data.drop (3 * j)).take 3))
    (values : ∀ j, j < tableEntries table →
      orderedValue table start n (clampedValue table start n raw (s.tables.param table)) j = value j)
    (counted : count = ((List.range (tableEntries table)).map fun j =>
      if value j = (if start ≤ j ∧ j < start + n then raw j else s.tables.param table j) then 0 else 1).sum) :
    ∃ t, exec (.tableWrite dt (byteOf table :: byteOf start :: data)) s = .next t ∧
      (∀ j, j < tableEntries table → t.tables.param table j = value j) ∧
      t.tables = { s.tables with
        general := if table = 6 then t.tables.general else s.tables.general
        defrost := if table = 7 then t.tables.defrost else s.tables.defrost
        ice := if table = 8 then t.tables.ice else s.tables.ice
        water := if table = 9 then t.tables.water else s.tables.water } ∧
      t.defrost = (if table = 7 ∧ start ≤ 2
        then { s.defrost with
          thr := max t.tables.defrost.thrmin (min t.tables.defrost.thrmax s.defrost.thr) } else s.defrost) ∧
      t.line = (if table = 9
        then { s.line with
          flowk := if start = 0 ∧ s.mode = .loading then t.tables.water.flowk else s.line.flowk
          filterState :=
            if start ≤ 12 ∧ 11 < start + n then
              (if t.tables.water.filtercap ≤ s.line.filterTotal / 1000 then .expired
               else if t.tables.water.filtercap ≤ s.line.filterTotal / 1000 + t.tables.water.filterwarn then .due
               else .good)
            else s.line.filterState }
        else s.line) ∧
      (∀ k : ObsKind, t.obs.get k =
        if table = 6 ∧ start ≤ k.code + 7 ∧ k.code + 7 < start + n ∧ (s.obs.get k).st = .fresh ∧
          value (k.code + 7) ≠ 0 ∧ value (k.code + 7) ≤ (s.obs.get k).age
        then { s.obs.get k with st := .stale } else s.obs.get k) ∧
      t.link = { s.repliedLink dt 0x82 [0, byteOf count] with
        flow := if table = 6 ∧ start ≤ 5 ∧ 4 < start + n then
                  (if s.link.flow = .flowOpen ∧ t.tables.general.relayhigh ≤ s.link.relay.length then .flowBusy
                   else if s.link.flow = .flowBusy ∧ s.link.relay.length ≤ t.tables.general.relaylow then .flowOpen
                   else s.link.flow)
                else s.link.flow } ∧
      t.now = s.now + dt ∧ t.mode = s.mode ∧ t.restartPending = false ∧ t.ownAddress = s.ownAddress ∧
      t.pending = s.pending ∧ t.temps = s.temps ∧ t.inputs = s.inputs ∧ t.ice = s.ice ∧ t.disp = s.disp ∧
      t.gate = s.gate := by
  have h9 := w.known.2
  have stored (j : Nat) (hj : j < tableEntries table) : (s.tables.written table start n raw).param table j = value j :=
    (written_param h6 h9 w.inside (fun _ => high) hj).trans (values j hj)
  have frame := written_frame s.tables table start n raw
  have total : paramCount table start (rawsFrom start n raw) s.tables (s.tables.written table start n raw) = count := by
    rw [paramCount_written, counted]
    refine congrArg List.sum (List.map_congr_left fun j hj => ?_)
    rw [stored j (List.mem_range.mp hj)]
  obtain ⟨o, acts, get⟩ := ownersAct_params (start := start) (n := n) h6 h9 w.some
    ((s.atCommand dt).setTables (s.tables.written table start n raw)) noFill
  have row := w.params h6 raws acts rfl rfl rfl
  rw [total] at row
  refine ⟨_, row, stored, frame, rfl, rfl, fun k => ?_, rfl, rfl,
    rfl, w.free, rfl, rfl, rfl, rfl, rfl, rfl, rfl⟩
  refine (get k).trans ?_
  by_cases written : table = 6 ∧ start ≤ k.code + 7 ∧ k.code + 7 < start + n
  · obtain ⟨rfl, low, high⟩ := written
    have kind : k.code + 7 < 15 := by cases k <;> decide
    have limit : ((s.tables.written 6 start n raw).general.staleLimit k : Int) = value (k.code + 7) :=
      (staleLimit_get _ k).trans (stored (k.code + 7) kind)
    rw [if_pos ⟨rfl, low, high⟩, staleTest_eq]
    refine if_congr ?_ rfl rfl
    show _ ∧ ((s.tables.written 6 start n raw).general.staleLimit k : Int) ≠ 0 ∧
      ((s.tables.written 6 start n raw).general.staleLimit k : Int) ≤ _ ↔ _
    rw [limit]
    simp only [low, high, true_and]
    rfl
  · rw [if_neg written, if_neg fun k => written ⟨k.1, k.2.1, k.2.2.1⟩]
    rfl

end

/-! ### A write of one parameter -/

/-- No ordering and no owner follows from a write of the parameter. -/
abbrev PlainParam (table i : Nat) : Prop :=
  (table = 6 ∧ i < 8 ∧ i ≠ 4 ∧ i ≠ 5) ∨ (table = 7 ∧ 3 ≤ i ∧ i < 16 ∧ i ≠ 6 ∧ i ≠ 7) ∨ (table = 8 ∧ 2 ≤ i ∧ i < 15) ∨
    (table = 9 ∧ 1 ≤ i ∧ i < 15 ∧ i ≠ 11 ∧ i ≠ 12)

theorem PlainParam.bounds {table i : Nat} (h : PlainParam table i) : 6 ≤ table ∧ table ≤ 9 ∧ i < tableEntries table := by
  rcases h with ⟨rfl, h⟩ | ⟨rfl, h⟩ | ⟨rfl, h⟩ | ⟨rfl, h⟩ <;> refine ⟨by decide, by decide, ?_⟩
  · show i < 15; omega
  · show i < 16; omega
  · show i < 15; omega
  · show i < 15; omega

/-- A plain parameter is stored clamped, and that is all. -/
theorem PlainParam.acts {table i : Nat} (h : PlainParam table i) (t : Tables) (u : State) (x : Int) :
    t.written table i 1 (fun _ => x) = t.setParam table i (paramClamp table i x) ∧ ownersAct table i 1 u = u := by
  rcases h with ⟨rfl, h⟩ | ⟨rfl, h⟩ | ⟨rfl, h⟩ | ⟨rfl, h⟩
  · obtain ⟨low, h4, h5⟩ := h
    interval_cases i
    all_goals first | exact ⟨rfl, rfl⟩ | exact absurd rfl h4 | exact absurd rfl h5
  · obtain ⟨high, low, h6, h7⟩ := h
    interval_cases i
    all_goals first | exact ⟨rfl, rfl⟩ | exact absurd rfl h6 | exact absurd rfl h7
  · obtain ⟨high, low⟩ := h
    interval_cases i <;> exact ⟨rfl, rfl⟩
  · obtain ⟨high, low, h11, h12⟩ := h
    interval_cases i
    all_goals first | exact ⟨rfl, rfl⟩ | exact absurd rfl h11 | exact absurd rfl h12

section
variable {s : State} {dt table i : Nat} {b0 b1 b2 : Byte} {x : Int}

/-- A write of one parameter. -/
theorem Write.ofParam (hears : s.hears) (free : s.restartPending = false) (h6 : 6 ≤ table) (h9 : table ≤ 9)
    (hi : i < tableEntries table) (unlocked : table = 6 → i = 0 → s.mode = .loading) :
    Write s table i 1 [b0, b1, b2] where
  hears := hears
  free := free
  known := ⟨by omega, h9⟩
  some := Nat.le_refl 1
  length := by obtain rfl | rfl | rfl | rfl := paramTable_cases h6 h9 <;> rfl
  short := by show 3 ≤ 22; decide
  inside := hi
  unlocked locked := by
    simp only [lockedInRunning, Bool.or_eq_true, Bool.and_eq_true, decide_eq_true_iff] at locked
    rcases locked with range | ⟨six, zero⟩
    · omega
    · exact unlocked six zero

theorem oneRaw (hx : paramOfBytes table i [b0, b1, b2] = x) :
    ∀ j, j < 1 → x = paramOfBytes table (i + j) (([b0, b1, b2].drop (3 * j)).take 3) := by
  intro j hj
  obtain rfl : j = 0 := by omega
  exact hx.symm

/-- The count of a write of one parameter that moves no other. -/
theorem paramCount_one (h6 : 6 ≤ table) (h9 : table ≤ 9) (hi : i < tableEntries table) (t : Tables) {y : Int}
    (hy : storable table i y) :
    paramCount table i (rawsFrom i 1 fun _ => x) t (t.setParam table i y) = if y = x then 0 else 1 := by
  have stored {j : Nat} (hj : j < tableEntries table) := param_setParam h6 h9 t hi hj hy
  have others (j : Nat) (hj : j < tableEntries table) (out : j ∉ ({i} : Finset Nat)) :
      ¬(i ≤ j ∧ j < i + 1) ∧ (t.setParam table i y).param table j = t.param table j := by
    have other : j ≠ i := by simpa using out
    exact ⟨by omega, by rw [stored hj, if_neg other]⟩
  rw [paramCount_within (by simpa using hi) others, Finset.sum_singleton, stored hi,
    if_pos (rfl : i = i), if_pos (show i ≤ i ∧ i < i + 1 by omega)]

theorem byteOf_count (p : Prop) [Decidable p] : byteOf (if p then 0 else 1) = if p then 0 else 1 := by
  split <;> rfl

/-- A write of one plain parameter: clamped into its range, stored and counted (R188). -/
theorem plain_row {lo hi : Int} (hears : s.hears) (free : s.restartPending = false) (plain : PlainParam table i)
    (unlocked : table = 6 → i = 0 → s.mode = .loading) (hx : paramOfBytes table i [b0, b1, b2] = x)
    (low : (paramRange table i).lo = lo) (high : (paramRange table i).hi = hi) (range : lo ≤ hi) :
    exec (.tableWrite dt [byteOf table, byteOf i, b0, b1, b2]) s = .next {
      s.replied dt 0x82 [0, if lo ≤ x ∧ x ≤ hi then 0 else 1] with
        tables := s.tables.setParam table i (max lo (min hi x)) } := by
  obtain ⟨h6, h9, hi'⟩ := plain.bounds
  have w : Write s table i 1 [b0, b1, b2] := .ofParam hears free h6 h9 hi' unlocked
  have clamp : paramClamp table i x = max lo (min hi x) := by
    rw [paramClamp_eq, low, high]
    · rfl
    · rintro ⟨rfl, rfl, -⟩
      exact absurd plain (by decide)
  have acts := plain.acts s.tables ((s.atCommand dt).setTables (s.tables.written table i 1 fun _ => x)) x
  have count : byteOf (paramCount table i (rawsFrom i 1 fun _ => x) s.tables
      (s.tables.setParam table i (max lo (min hi x)))) = if lo ≤ x ∧ x ≤ hi then 0 else 1 := by
    rw [paramCount_one h6 h9 hi' s.tables (by rw [← clamp]; exact paramClamp_storable h6 h9 hi' x), byteOf_count]
    exact if_congr (by omega) rfl rfl
  refine (w.params h6 (oneRaw hx) acts.2 (flow := s.link.flow) rfl rfl rfl).trans ?_
  rw [acts.1, clamp, count]
  rfl

end

/-! ### Numbers, ranges and bytes of parameters -/

theorem signedParam_iff (table i : Nat) : (paramRange table i).signed = true ↔
    (table, i) ∈ [(7, 8), (7, 11), (8, 3), (8, 4), (8, 8), (9, 13)] := by
  by_cases known : (6 ≤ table ∧ table ≤ 9) ∧ i < 16
  · obtain ⟨⟨h6, h9⟩, hi⟩ := known
    obtain rfl | rfl | rfl | rfl := paramTable_cases h6 h9
    all_goals interval_cases i <;> decide
  · have unsigned : (paramRange table i).signed = false := by
      unfold paramRange
      rw [List.getD_eq_default]
      · rfl
      · unfold paramRanges
        split <;> simp [generalRanges, defrostRanges, iceRanges, waterRanges] <;> omega
    rw [unsigned]
    simp
    omega

theorem paramOfBytes_eq (table i : Nat) (bs : List Byte) : paramOfBytes table i bs =
    if (table, i) ∈ [(7, 8), (7, 11), (8, 3), (8, 4), (8, 8), (9, 13)] ∧ 8388608 ≤ numberOf bs
    then (numberOf bs : Int) - 16777216 else numberOf bs := by
  unfold paramOfBytes signedOf
  by_cases signed : (paramRange table i).signed = true
  · have listed := (signedParam_iff table i).mp signed
    rw [if_pos signed]
    by_cases high : 8388608 ≤ numberOf bs
    · rw [if_neg (Nat.not_lt.mpr high), if_pos ⟨listed, high⟩]; rfl
    · rw [if_pos (Nat.lt_of_not_le high), if_neg fun k => high k.2]
  · rw [if_neg signed, if_neg fun k => signed ((signedParam_iff table i).mpr k.1)]

theorem entryAt_setParam {table i : Nat} (h6 : 6 ≤ table) (h9 : table ≤ 9) (hi : i < tableEntries table) (t : Tables)
    {v : Int} (hv : storable table i v) :
    (t.setParam table i v).entryAt table i = bytes3 (v % 16777216).toNat ∧
      ∀ tb j, j < tableEntries tb → (tb, j) ≠ (table, i) → (t.setParam table i v).entryAt tb j = t.entryAt tb j := by
  have param (tb j : Nat) (u : Tables) (h6 : 6 ≤ tb) (h9 : tb ≤ 9) : u.entryAt tb j = paramBytes (u.param tb j) := by
    obtain rfl | rfl | rfl | rfl := paramTable_cases h6 h9 <;> rfl
  have frame := setParam_frame table i v t
  refine ⟨?_, fun tb j hj apart => ?_⟩
  · rw [param table i _ h6 h9, param_setParam h6 h9 t hi hi hv, if_pos rfl, paramBytes_eq]
  · by_cases same : tb = table
    · subst same
      have other : j ≠ i := fun k => apart (by rw [k])
      rw [param tb j _ h6 h9, param tb j t h6 h9, param_setParam h6 h9 t hi hj hv, if_neg other]
    · by_cases known : 6 ≤ tb ∧ tb ≤ 9
      · rw [param tb j _ known.1 known.2, param tb j t known.1 known.2, frame.param same known.1 known.2]
      · by_cases unknown : tb = 0 ∨ 9 < tb
        · rw [tableEntries_unknown unknown] at hj
          exact absurd hj (Nat.not_lt_zero j)
        · obtain rfl | rfl | rfl | rfl | rfl : tb = 1 ∨ tb = 2 ∨ tb = 3 ∨ tb = 4 ∨ tb = 5 := by omega
          all_goals
            unfold ParamFrame at frame
            rw [frame]
            rfl

end Sys2Proof.Machine
end


section
/-! PROOF. The parameters whose write orders another or moves an owner, one at a time (R14, R40, R55, R63, R77, R150,
R173, R181). -/

namespace Sys2Proof.Machine

theorem ObsTable.eq_of_get {o p : ObsTable} (h : ∀ k, o.get k = p.get k) : o = p := by
  cases o
  cases p
  simp only [ObsTable.mk.injEq]
  exact ⟨h .fzdoor, h .ffdoor, h .compressor, h .select, h .measure, h .lock, h .fastice⟩

/-- A number written, clamped in an unsigned range. -/
theorem paramClamp_nat {table i lo hi : Nat} (low : (paramRange table i).lo = lo) (high : (paramRange table i).hi = hi)
    {n : Nat} (h : ¬(table = 9 ∧ i = 0 ∧ n = 0)) : paramClamp table i (n : Int) = ((max lo (min hi n) : Nat) : Int) := by
  have apart : ¬(table = 9 ∧ i = 0 ∧ (n : Int) = 0) := fun k => h ⟨k.1, k.2.1, by omega⟩
  rw [paramClamp_eq apart, low, high]
  unfold clampInt
  omega

theorem paramOfBytes_unsigned {table i : Nat} (h : (paramRange table i).signed = false) (bs : List Byte) :
    paramOfBytes table i bs = numberOf bs := if_neg (by simp [h])

section
variable {s : State} {dt i n : Nat} {b0 b1 b2 : Byte}

/-! ### RELAYHIGH and RELAYLOW -/

/-- A write of RELAYHIGH or RELAYLOW: the flow state is settled (R173, R181). -/
theorem relay_row (hears : s.hears) (free : s.restartPending = false) (hi : i = 4 ∨ i = 5)
    (hn : n = numberOf [b0, b1, b2]) {g : GeneralParams}
    (stored : s.tables.written 6 i 1 (fun _ => (n : Int)) = { s.tables with general := g })
    (others : ∀ j, j < 15 → j ≠ 4 → j ≠ 5 → g.get j = s.tables.general.get j) {c : Nat}
    (counted : c = ∑ j ∈ {4, 5}, if g.get j = (if i ≤ j ∧ j < i + 1 then (n : Int) else s.tables.general.get j)
      then 0 else 1) :
    exec (.tableWrite dt [6, byteOf i, b0, b1, b2]) s = .next { s.replied dt 0x82 [0, byteOf c] with
      tables := { s.tables with general := g }
      link := { s.repliedLink dt 0x82 [0, byteOf c] with
        flow := if s.link.flow = .flowOpen ∧ g.relayhigh ≤ s.link.relay.length then .flowBusy
                else if s.link.flow = .flowBusy ∧ s.link.relay.length ≤ g.relaylow then .flowOpen
                else s.link.flow } } := by
  have w : Write s 6 i 1 [b0, b1, b2] := .ofParam hears free (by decide) (by decide)
    (by show i < 15; omega) (fun _ zero => by omega)
  have unsigned : (paramRange 6 i).signed = false := by rcases hi with rfl | rfl <;> rfl
  obtain ⟨o, acts, get⟩ := ownersAct_six i 1
    ((s.atCommand dt).setTables (s.tables.written 6 i 1 fun _ => (n : Int)))
  have obs : o = s.obs := ObsTable.eq_of_get fun k => (get k).trans (if_neg (by cases k <;> simp [ObsKind.code] <;> omega))
  have settles : i ≤ 5 ∧ 4 < i + 1 := by omega
  have total : paramCount 6 i (rawsFrom i 1 fun _ => (n : Int)) s.tables { s.tables with general := g } = c :=
    (paramCount_within (S := {4, 5}) (by decide) fun j hj out => by
      have apart : j ≠ 4 ∧ j ≠ 5 := by simpa using out
      exact ⟨by omega, others j hj apart.1 apart.2⟩).trans counted.symm
  rw [if_pos settles, obs] at acts
  have row := w.params (by decide) (oneRaw (x := (n : Int)) (by rw [paramOfBytes_unsigned unsigned, hn])) acts rfl rfl rfl
  rw [stored, total] at row
  exact row

/-! ### A stale limit -/

theorem staleLimit_stored (k : ObsKind) (t : Tables) (n : Nat) :
    t.written 6 (k.code + 7) 1 (fun _ => (n : Int)) =
      { t with general := t.general.set (k.code + 7) ((min 255 n : Nat) : Int) } ∧
    (t.general.set (k.code + 7) ((min 255 n : Nat) : Int)).staleLimit k = min 255 n := by
  have clamp : paramClamp 6 (k.code + 7) (n : Int) = ((min 255 n : Nat) : Int) := by
    rw [paramClamp_nat (lo := 0) (hi := 255) (by cases k <;> rfl) (by cases k <;> rfl) (by simp), Nat.zero_max]
  refine ⟨?_, by cases k <;> rfl⟩
  rw [← clamp]
  cases k <;> rfl

theorem staleLimit_row (hears : s.hears) (free : s.restartPending = false) (hn : n = numberOf [b0, b1, b2]) (k : ObsKind) :
    exec (.tableWrite dt [6, byteOf (k.code + 7), b0, b1, b2]) s = .next {
      s.replied dt 0x82 [0, if n ≤ 255 then 0 else 1] with
        tables := { s.tables with general := s.tables.general.set (k.code + 7) ((min 255 n : Nat) : Int) }
        obs := s.obs.set k { s.obs.get k with
          st := if (s.obs.get k).st = .fresh ∧ n ≠ 0 ∧ min 255 n ≤ (s.obs.get k).age then .stale
                else (s.obs.get k).st } } := by
  have inside : k.code + 7 < 15 := by cases k <;> decide
  have w : Write s 6 (k.code + 7) 1 [b0, b1, b2] := .ofParam hears free (by decide) (by decide) inside
    (fun _ zero => by omega)
  have unsigned : (paramRange 6 (k.code + 7)).signed = false := by cases k <;> rfl
  obtain ⟨stored, limit⟩ := staleLimit_stored k s.tables n
  obtain ⟨o, acts, get⟩ := ownersAct_six (k.code + 7) 1
    ((s.atCommand dt).setTables (s.tables.written 6 (k.code + 7) 1 fun _ => (n : Int)))
  have tested : (s.obs.get k).staleTest (min 255 n) = { s.obs.get k with
      st := if (s.obs.get k).st = .fresh ∧ n ≠ 0 ∧ min 255 n ≤ (s.obs.get k).age then .stale
            else (s.obs.get k).st } := by
    unfold ObsEntry.staleTest
    by_cases stale : (s.obs.get k).st = .fresh ∧ n ≠ 0 ∧ min 255 n ≤ (s.obs.get k).age
    · rw [if_pos stale, if_pos ⟨stale.1, by omega, stale.2.2⟩]
    · rw [if_neg stale, if_neg fun k => stale ⟨k.1, by omega, k.2.2⟩]
  have obs : o = s.obs.set k { s.obs.get k with
      st := if (s.obs.get k).st = .fresh ∧ n ≠ 0 ∧ min 255 n ≤ (s.obs.get k).age then .stale
            else (s.obs.get k).st } := by
    refine ObsTable.eq_of_get fun j => (get j).trans ?_
    rw [ObsTable.get_set, ← tested, stored]
    by_cases same : j = k
    · subst same
      rw [if_pos (by omega), if_pos rfl]
      exact congrArg (fun x => ObsEntry.staleTest x _) limit
    · rw [if_neg same, if_neg]
      · rfl
      · intro reached
        refine same ?_
        have code : j.code = k.code := by omega
        cases j <;> cases k <;> first | rfl | cases code
  rw [if_neg (by omega), obs] at acts
  have row := w.params (by decide) (oneRaw (x := (n : Int)) (by rw [paramOfBytes_unsigned unsigned, hn])) acts rfl rfl rfl
  have count := paramCount_one (x := (n : Int)) (y := ((min 255 n : Nat) : Int)) (by decide : 6 ≤ 6) (by decide) inside
    s.tables (.inr (by omega))
  rw [stored, show ({ s.tables with general := s.tables.general.set (k.code + 7) ((min 255 n : Nat) : Int) } : Tables) =
    s.tables.setParam 6 (k.code + 7) ((min 255 n : Nat) : Int) from rfl, count, byteOf_count,
    if_congr (show ((min 255 n : Nat) : Int) = n ↔ n ≤ 255 by omega) rfl rfl] at row
  exact row

/-! ### TARGETHEAT and HEATMAX -/

theorem heat_row (hears : s.hears) (free : s.restartPending = false) (hi : i = 6 ∨ i = 7)
    (hn : n = numberOf [b0, b1, b2]) {p : DefrostParams}
    (stored : s.tables.written 7 i 1 (fun _ => (n : Int)) = { s.tables with defrost := p })
    (others : ∀ j, j < 16 → j ≠ 6 → j ≠ 7 → p.get j = s.tables.defrost.get j) {c : Nat}
    (counted : c = ∑ j ∈ {6, 7}, if p.get j = (if i ≤ j ∧ j < i + 1 then (n : Int) else s.tables.defrost.get j)
      then 0 else 1) :
    exec (.tableWrite dt [7, byteOf i, b0, b1, b2]) s = .next { s.replied dt 0x82 [0, byteOf c] with
      tables := { s.tables with defrost := p } } := by
  have w : Write s 7 i 1 [b0, b1, b2] := .ofParam hears free (by decide) (by decide)
    (by show i < 16; omega) (fun k => by omega)
  have unsigned : (paramRange 7 i).signed = false := by rcases hi with rfl | rfl <;> rfl
  have acts := ownersAct_thr i 1 ((s.atCommand dt).setTables (s.tables.written 7 i 1 fun _ => (n : Int))) (by decide)
  have total : paramCount 7 i (rawsFrom i 1 fun _ => (n : Int)) s.tables { s.tables with defrost := p } = c :=
    (paramCount_within (S := {6, 7}) (by decide) fun j hj out => by
      have apart : j ≠ 6 ∧ j ≠ 7 := by simpa using out
      exact ⟨by omega, others j hj apart.1 apart.2⟩).trans counted.symm
  rw [if_neg (by omega)] at acts
  have row := w.params (by decide) (oneRaw (x := (n : Int)) (by rw [paramOfBytes_unsigned unsigned, hn])) acts (flow := s.link.flow)
    rfl rfl rfl
  rw [stored, total] at row
  exact row

/-! ### One parameter that orders none -/

/-- A write of one parameter that orders no other: clamped to `y`, its owners acting to `v`. -/
theorem unordered_row {table : Nat} (hears : s.hears) (free : s.restartPending = false) (h6 : 6 ≤ table) (h9 : table ≤ 9)
    (inside : i < tableEntries table) (unlocked : table = 6 → i = 0 → s.mode = .loading)
    (unsigned : (paramRange table i).signed = false) (hn : n = numberOf [b0, b1, b2]) {y : Nat}
    (clamp : paramClamp table i (n : Int) = (y : Int))
    (unordered : s.tables.written table i 1 (fun _ => (n : Int)) = s.tables.setParam table i (paramClamp table i n))
    {v : State} (owners : ownersAct table i 1 ((s.atCommand dt).setTables (s.tables.setParam table i (y : Int))) = v)
    (link : v.link = (s.atCommand dt).link) (now : v.now = s.now + dt) (own : v.ownAddress = s.ownAddress) :
    exec (.tableWrite dt [byteOf table, byteOf i, b0, b1, b2]) s =
      .next (v.setLink (s.repliedLink dt 0x82 [0, if y = n then 0 else 1])) := by
  have w : Write s table i 1 [b0, b1, b2] := .ofParam hears free h6 h9 inside unlocked
  rw [clamp] at unordered
  have row := w.params h6 (oneRaw (x := (n : Int)) (by rw [paramOfBytes_unsigned unsigned, hn])) (unordered ▸ owners)
    (flow := s.link.flow) (link.trans rfl) now own
  rw [unordered, paramCount_one h6 h9 inside s.tables (.inr (Int.natCast_nonneg y)), byteOf_count,
    if_congr Int.natCast_inj rfl rfl] at row
  exact row

end

end Sys2Proof.Machine
end


section
/-! PROOF. A write of one entry of the tables of routes, doors, curve points, channels and loads (R119, R120, R138,
R139, R144, R145, R167, R170). -/

namespace Sys2Proof.Machine

section
variable {s : State} {dt i : Nat} {data : List Byte} {b0 b1 b2 b3 b4 : Byte}

/-- A write of one entry of a table whose number of bytes an entry is `size`. -/
theorem Write.ofEntry {table size : Nat} (hears : s.hears) (free : s.restartPending = false)
    (known : 1 ≤ table ∧ table ≤ 9) (bytes : entryBytes table = size) (length : data.length = size) (short : size ≤ 22)
    (inside : i < tableEntries table) (unlocked : lockedInRunning table i = true → s.mode = .loading) :
    Write s table i 1 data where
  hears := hears
  free := free
  known := known
  some := Nat.le_refl 1
  length := by rw [bytes, length, Nat.mul_one]
  short := by rw [length]; exact short
  inside := inside
  unlocked := unlocked

theorem route_one (hears : s.hears) (free : s.restartPending = false) {e : RouteEntry} (hi : i < 16)
    (size : s.tables.route.length = 16) (length : data.length = 8) (entry : RouteEntry.ofBytes data = some e) :
    exec (.tableWrite dt (1 :: byteOf i :: data)) s = .next { s.replied dt 0x82 [0, 0] with
      tables := { s.tables with route := s.tables.route.set i e } } := by
  have w : Write s 1 i 1 data := .ofEntry hears free (by decide) rfl length (by decide) hi (fun k => by cases k)
  refine routes_row w size (by rw [List.length_set, size]) fun j hj => ?_
  rw [List.getElem?_set]
  by_cases same : i = j
  · subst same
    rw [if_pos rfl, if_pos (by omega), if_pos (by omega), Nat.sub_self, Nat.mul_zero, List.drop_zero,
      List.take_of_length_le (by omega), entry]
  · rw [if_neg same, if_neg (by omega)]

theorem doorSet_one (hears : s.hears) (free : s.restartPending = false) {written : BitVec 64}
    (length : data.length = 8) (number : written = BitVec.ofNat 64 (numberOf data)) :
    ∃ stored : BitVec 64, exec (.tableWrite dt (2 :: 0 :: data)) s = .next { s.replied dt 0x82 [0, byteOf
        ((if written.getLsbD 0 then 1 else 0) + (if written.getLsbD 63 then 1 else 0) +
         (if written.getLsbD s.ownAddress.toNat then 1 else 0))] with
      tables := { s.tables with doorSet := stored } } ∧
    ∀ a, a < 64 → stored.getLsbD a = (written.getLsbD a && decide (a ≠ 0 ∧ a ≠ 63 ∧ a ≠ s.ownAddress.toNat)) := by
  have w : Write s 2 0 1 data := .ofEntry hears free (by decide) rfl length (by decide) (by decide) (fun k => by cases k)
  exact ⟨_, doorSet_row w number, fun a _ => doorSetMembers_getLsbD _ _ a⟩

theorem curve_one (hears : s.hears) (free : s.restartPending = false) {q : CurvePoint} {raw : Int} {sel : CurveSel}
    (hi : i < 32) (loading : s.mode = .loading) (sizeA : s.tables.curveA.length = 16)
    (sizeB : s.tables.curveB.length = 16) (selected : sel = (if i < 16 then .curveA else .curveB))
    (number : raw = (if 32768 ≤ b2.toNat * 256 + b3.toNat then (b2.toNat * 256 + b3.toNat : Int) - 65536
                     else b2.toNat * 256 + b3.toNat))
    (point : q = { count := min 4095 (b0.toNat * 256 + b1.toNat), temp := max (-32767) raw }) :
    ∃ t, exec (.tableWrite dt [3, byteOf i, b0, b1, b2, b3]) s = .next t ∧
      t.tables = { s.tables with
        curveA := if i < 16 then s.tables.curveA.set i q else s.tables.curveA
        curveB := if i < 16 then s.tables.curveB else s.tables.curveB.set (i - 16) q } ∧
      (∀ c, (s.tables.chanMap.get c).sel ≠ sel → t.temps.get c = s.temps.get c) ∧
      (∀ c, (s.tables.chanMap.get c).sel = sel →
        t.temps.get c = { s.temps.get c with
          value := if curveValid (t.tables.curve sel) = true ∧ (s.temps.get c).range = .settled
                   then (s.temps.get c).mean.bind (fun mean => convert mean (t.tables.curve sel)) else none }) ∧
      t.link = s.repliedLink dt 0x82 [0, byteOf ((if b0.toNat * 256 + b1.toNat ≤ 4095 then 0 else 1) +
        (if raw = -32768 then 1 else 0))] ∧
      t.now = s.now + dt ∧ t.mode = s.mode ∧ t.obs = s.obs ∧ t.inputs = s.inputs ∧ t.ownAddress = s.ownAddress ∧
      t.restartPending = false ∧ t.pending = s.pending ∧ KeepsJobs s t := by
  have w : Write s 3 i 1 [b0, b1, b2, b3] := .ofEntry hears free (by decide) rfl rfl (by decide) hi (fun _ => loading)
  have whole : (if i < 16 then s.tables.curveA.set i q else s.tables.curveA) ++
      (if i < 16 then s.tables.curveB else s.tables.curveB.set (i - 16) q) =
      (s.tables.curveA ++ s.tables.curveB).set i q := by
    rw [List.set_append, sizeA]
    split <;> rfl
  obtain ⟨t, run, tables, temps, link, rest⟩ := curves_row (dt := dt) w
    (b := fun m => ([b0, b1, b2, b3].getD m 0).toNat)
    (A := if i < 16 then s.tables.curveA.set i q else s.tables.curveA)
    (B := if i < 16 then s.tables.curveB else s.tables.curveB.set (i - 16) q)
    (count := (if b0.toNat * 256 + b1.toNat ≤ 4095 then 0 else 1) + (if raw = -32768 then 1 else 0))
    (fun _ => rfl) sizeA sizeB (by split <;> simp [sizeA]) (fun _ => rfl)
    (fun j => by
      rw [whole, List.getElem?_set, List.length_append, sizeA, sizeB]
      by_cases same : i = j
      · subst same
        rw [if_pos rfl, if_pos hi, if_pos (show i ≤ i ∧ i < i + 1 by omega), Nat.sub_self, point, number]
        rfl
      · rw [if_neg same, if_neg (show ¬(i ≤ j ∧ j < i + 1) by omega)])
    (by rw [number]; simp)
  refine ⟨t, run, tables, fun c other => ?_, fun c same => ?_, link, rest⟩
  · rw [temps c, if_neg]
    rintro (⟨mapped, low⟩ | ⟨mapped, high⟩)
    · exact other (by rw [mapped, selected, if_pos low])
    · exact other (by rw [mapped, selected, if_neg (by omega)])
  · rw [temps c, same, selected]
    by_cases low : i < 16
    · rw [if_pos low, if_pos (.inl ⟨rfl, low⟩)]
    · rw [if_neg low, if_pos (.inr ⟨rfl, by omega⟩)]

theorem chanMap_one (hears : s.hears) (free : s.restartPending = false) {e : ChanMapEntry} (hi : i < 4)
    (loading : s.mode = .loading) (selects : b0.toNat = e.sel.code)
    (below : e.below = min 4095 (b1.toNat * 256 + b2.toNat))
    (above : e.above = max e.below (min 4095 (b3.toNat * 256 + b4.toNat))) :
    exec (.tableWrite dt [4, byteOf i, b0, b1, b2, b3, b4]) s = .next { s.replied dt 0x82 [0, byteOf
        ((if e.below = b1.toNat * 256 + b2.toNat then 0 else 1) +
         (if e.above = b3.toNat * 256 + b4.toNat then 0 else 1))] with
      tables := { s.tables with chanMap := s.tables.chanMap.set (.ofIndex i) e }
      temps := s.temps.set (.ofIndex i) { range := .unsettled, total := 0, lowRun := 0, highRun := 0, inRun := 0,
                                          history := [], value := none } } := by
  have w : Write s 4 i 1 [b0, b1, b2, b3, b4] :=
    .ofEntry hears free (by decide) rfl rfl (by decide) hi (fun _ => loading)
  refine chanMap_row w (b := fun m => ([b0, b1, b2, b3, b4].getD m 0).toNat) (fun _ => rfl) (fun j low high => ?_)
    (fun j hj out => ?_) ?_
  · obtain rfl : j = i := by omega
    rw [ChanMap.get_set, if_pos rfl, Channels.get_set, if_pos rfl, Nat.sub_self]
    exact ⟨selects.symm, below, above, rfl⟩
  · have other : ¬Chan.ofIndex j = .ofIndex i := fun k => by
      have := (Chan.ofIndex_inj hi hj).mp k
      omega
    rw [ChanMap.get_set, if_neg other, Channels.get_set, if_neg other]
    exact ⟨rfl, rfl⟩
  · simp [ChanMap.get_set]

theorem load_one (hears : s.hears) (free : s.restartPending = false) (hi : i < 5) (loading : s.mode = .loading) :
    exec (.tableWrite dt [5, byteOf i, b0, b1, b2]) s = .next { s.replied dt 0x82 [0, byteOf
        ((if b0.toNat ≤ 15 then 0 else 1) + (if b1.toNat ≤ 2 then 0 else 1))] with
      tables := { s.tables with
        load := s.tables.load.set (.ofIndex i) { weight := min 15 b0.toNat, cls := min 2 b1.toNat,
                                                 aging := b2.toNat } } } := by
  have w : Write s 5 i 1 [b0, b1, b2] := .ofEntry hears free (by decide) rfl rfl (by decide) hi (fun _ => loading)
  refine load_row w (b := fun m => ([b0, b1, b2].getD m 0).toNat) (fun _ => rfl) (fun j hj => ?_) ?_
  · rw [LoadTable.get_set]
    by_cases same : j = i
    · subst same
      rw [if_pos rfl, if_pos (by omega), Nat.sub_self]
      rfl
    · rw [if_neg fun k => same ((Gated.ofIndex_inj hi hj).mp k), if_neg (by omega)]
  · simp

end

end Sys2Proof.Machine
end


section
/-! PROOF. A write of one parameter, as R187 and R188 count it: the plain ones by their ranges, RELAYHIGH and RELAYLOW,
the stale limits, TARGETHEAT and HEATMAX (R14, R40, R95, R116, R150, R173, R181). -/

namespace Sys2Proof.Machine

/-- The unsigned parameters whose write does no more than store: table, parameter, and the range. -/
def unsignedPlain : List (Nat × Nat × Nat × Nat) :=
  [(6, 0, 1, 60), (6, 1, 50, 1000), (6, 2, 1, 60), (6, 3, 2, 50), (6, 6, 0, 2), (6, 7, 0, 2),
    (7, 3, 0, 255), (7, 4, 0, 255), (7, 5, 0, 255), (7, 9, 300, 3600), (7, 10, 0, 900), (7, 12, 0, 900),
    (7, 13, 0, 600), (7, 14, 0, 3600), (7, 15, 24, 168), (9, 1, 10, 1000), (9, 2, 0, 3000), (9, 3, 100, 2000),
    (9, 4, 1, 10), (9, 5, 2, 30), (9, 6, 1, 1000), (9, 7, 10, 300), (9, 8, 5, 120), (9, 9, 1, 10), (9, 10, 5, 120),
    (9, 14, 10, 1000)]

theorem unsignedPlain_facts : ∀ q ∈ unsignedPlain, PlainParam q.1 q.2.1 ∧ (paramRange q.1 q.2.1).signed = false ∧
    (paramRange q.1 q.2.1).lo = (q.2.2.1 : Int) ∧ (paramRange q.1 q.2.1).hi = (q.2.2.2 : Int) ∧ q.2.2.1 ≤ q.2.2.2 := by
  decide

/-- The signed parameters of tables 7 and 9. -/
def signedPlain : List (Nat × Nat × Int × Int) := [(7, 8, 20, 200), (7, 11, -300, 0), (9, 13, 0, 150)]

theorem signedPlain_facts : ∀ q ∈ signedPlain, PlainParam q.1 q.2.1 ∧ q.1 ≠ 6 ∧
    (q.1, q.2.1) ∈ [(7, 8), (7, 11), (8, 3), (8, 4), (8, 8), (9, 13)] ∧
    (paramRange q.1 q.2.1).lo = q.2.2.1 ∧ (paramRange q.1 q.2.1).hi = q.2.2.2 ∧ q.2.2.1 ≤ q.2.2.2 := by
  decide

/-- The ice parameters past the volume and the time of a fill. -/
def icePlain : List (Nat × Int × Int) :=
  [(2, 0, 600), (3, -250, 0), (4, -200, -50), (5, 60, 1800), (6, 1800, 14400), (7, 1800, 14400),
    (8, 0, 100), (9, 30, 600), (10, 1, 10), (11, 5, 60), (12, 60, 3600), (13, 0, 3), (14, 60, 3600)]

theorem icePlain_facts : ∀ q ∈ icePlain, PlainParam 8 q.1 ∧
    ((8, q.1) ∈ [(7, 8), (7, 11), (8, 3), (8, 4), (8, 8), (9, 13)] ↔ q.1 = 3 ∨ q.1 = 4 ∨ q.1 = 8) ∧
    (paramRange 8 q.1).lo = q.2.1 ∧ (paramRange 8 q.1).hi = q.2.2 ∧ q.2.1 ≤ q.2.2 := by
  decide

section
variable {s : State} {dt i n : Nat} {b0 b1 b2 : Byte}

theorem unsigned_one (hears : s.hears) (free : s.restartPending = false) (hn : n = numberOf [b0, b1, b2])
    {table lo hi : Nat} (listed : (table, i, lo, hi) ∈ unsignedPlain) (unlocked : table = 6 → i = 0 → s.mode = .loading) :
    exec (.tableWrite dt [byteOf table, byteOf i, b0, b1, b2]) s = .next {
      s.replied dt 0x82 [0, if lo ≤ n ∧ n ≤ hi then 0 else 1] with
        tables := s.tables.setParam table i ((max lo (min hi n) : Nat) : Int) } := by
  obtain ⟨plain, unsigned, low, high, range⟩ := unsignedPlain_facts _ listed
  have value : paramOfBytes table i [b0, b1, b2] = (n : Int) := by rw [paramOfBytes_unsigned unsigned, hn]
  have row := plain_row (dt := dt) hears free plain unlocked value low high (Int.ofNat_le.mpr range)
  rw [if_congr (show ((lo : Int) ≤ n ∧ (n : Int) ≤ hi) ↔ (lo ≤ n ∧ n ≤ hi) by omega) rfl rfl,
    show max (lo : Int) (min (hi : Int) n) = ((max lo (min hi n) : Nat) : Int) by omega] at row
  exact row

theorem signed_one (hears : s.hears) (free : s.restartPending = false) (hn : n = numberOf [b0, b1, b2])
    {table : Nat} {lo hi v : Int} (listed : (table, i, lo, hi) ∈ signedPlain)
    (number : v = (if 8388608 ≤ n then (n : Int) - 16777216 else n)) :
    exec (.tableWrite dt [byteOf table, byteOf i, b0, b1, b2]) s = .next {
      s.replied dt 0x82 [0, if lo ≤ v ∧ v ≤ hi then 0 else 1] with
        tables := s.tables.setParam table i (max lo (min hi v)) } := by
  obtain ⟨plain, other, signed, low, high, range⟩ := signedPlain_facts _ listed
  have value : paramOfBytes table i [b0, b1, b2] = v := by
    rw [paramOfBytes_eq, number, hn]
    exact if_congr ⟨fun k => k.2, fun k => ⟨signed, k⟩⟩ rfl rfl
  exact plain_row hears free plain (fun six => absurd six other) value low high range

theorem ice_one (hears : s.hears) (free : s.restartPending = false) (hn : n = numberOf [b0, b1, b2])
    {lo hi v : Int} (listed : (i, lo, hi) ∈ icePlain)
    (number : v = (if (i = 3 ∨ i = 4 ∨ i = 8) ∧ 8388608 ≤ n then (n : Int) - 16777216 else n)) :
    exec (.tableWrite dt [8, byteOf i, b0, b1, b2]) s =
      .next { s.replied dt 0x82 [0, if lo ≤ v ∧ v ≤ hi then 0 else 1] with
        tables := { s.tables with ice := s.tables.ice.set i (max lo (min hi v)) } } := by
  obtain ⟨plain, signed, low, high, range⟩ := icePlain_facts _ listed
  have value : paramOfBytes 8 i [b0, b1, b2] = v := by
    rw [paramOfBytes_eq, number, hn]
    exact if_congr (and_congr signed Iff.rfl) rfl rfl
  exact plain_row hears free plain (fun six => by cases six) value low high range

theorem relay_one (hears : s.hears) (free : s.restartPending = false) (hn : n = numberOf [b0, b1, b2])
    {g : GeneralParams} {c : Nat} (hi : i = 4 ∨ i = 5)
    (holds : g = (if i = 4 then { s.tables.general with
                                  relayhigh := max 1 (min 4 n)
                                  relaylow := min s.tables.general.relaylow (max 1 (min 4 n) - 1) }
                  else { s.tables.general with relaylow := min (min 3 n) (s.tables.general.relayhigh - 1) }))
    (counted : c = (if i = 4
      then (if g.relayhigh = n then 0 else 1) + (if g.relaylow = s.tables.general.relaylow then 0 else 1)
      else (if g.relaylow = n then 0 else 1))) :
    exec (.tableWrite dt [6, byteOf i, b0, b1, b2]) s = .next { s.replied dt 0x82 [0, byteOf c] with
      tables := { s.tables with general := g }
      link := { s.repliedLink dt 0x82 [0, byteOf c] with
        flow := if s.link.flow = .flowOpen ∧ g.relayhigh ≤ s.link.relay.length then .flowBusy
                else if s.link.flow = .flowBusy ∧ s.link.relay.length ≤ g.relaylow then .flowOpen
                else s.link.flow } } := by
  rcases hi with rfl | rfl
  · rw [if_pos rfl] at holds counted
    have clamp : (paramClamp 6 4 (n : Int)).toNat = max 1 (min 4 n) := by
      rw [paramClamp_nat (lo := 1) (hi := 4) rfl rfl (by simp), Int.toNat_natCast]
    refine relay_row hears free (.inl rfl) hn ?_ (fun j hj _ other => ?_) ?_
    · rw [holds, ← clamp]
      rfl
    · rw [holds]
      interval_cases j <;> first | rfl | contradiction
    · rw [counted, Finset.sum_pair (by decide)]
      simp [GeneralParams.get]
  · rw [if_neg (by decide)] at holds counted
    have clamp : (paramClamp 6 5 (n : Int)).toNat = min 3 n := by
      rw [paramClamp_nat (lo := 0) (hi := 3) rfl rfl (by simp), Int.toNat_natCast, Nat.zero_max]
    refine relay_row hears free (.inr rfl) hn ?_ (fun j hj _ other => ?_) ?_
    · rw [holds, ← clamp]
      rfl
    · rw [holds]
      interval_cases j <;> first | rfl | contradiction
    · have kept : g.relayhigh = s.tables.general.relayhigh := by rw [holds]
      rw [counted, Finset.sum_pair (by decide)]
      simp [GeneralParams.get, kept]

theorem staleLimit_one (hears : s.hears) (free : s.restartPending = false) (hn : n = numberOf [b0, b1, b2])
    {k : ObsKind} {e : ObsEntry} (kind : i = k.code + 7) (entry : e = s.obs.get k) :
    exec (.tableWrite dt [6, byteOf i, b0, b1, b2]) s = .next {
      s.replied dt 0x82 [0, if n ≤ 255 then 0 else 1] with
        tables := { s.tables with general := s.tables.general.set i (min 255 n : Nat) }
        obs := s.obs.set k { e with
          st := if e.st = .fresh ∧ n ≠ 0 ∧ min 255 n ≤ e.age then .stale else e.st } } := by
  subst kind entry
  exact staleLimit_row hears free hn k

theorem heat_one (hears : s.hears) (free : s.restartPending = false) (hn : n = numberOf [b0, b1, b2])
    {p : DefrostParams} (hi : i = 6 ∨ i = 7)
    (holds : p = (if i = 6 then { s.tables.defrost with
                                  targetheat := max 300 (min 3600 n)
                                  heatmax := max s.tables.defrost.heatmax (max 300 (min 3600 n)) }
                  else { s.tables.defrost with heatmax := max (max 600 (min 5400 n)) s.tables.defrost.targetheat })) :
    exec (.tableWrite dt [7, byteOf i, b0, b1, b2]) s = .next { s.replied dt 0x82 [0, byteOf (if i = 6
        then (if p.targetheat = n then 0 else 1) + (if p.heatmax = s.tables.defrost.heatmax then 0 else 1)
        else (if p.heatmax = n then 0 else 1))] with
      tables := { s.tables with defrost := p } } := by
  rcases hi with rfl | rfl
  · rw [if_pos rfl] at holds
    have clamp : (paramClamp 7 6 (n : Int)).toNat = max 300 (min 3600 n) := by
      rw [paramClamp_nat (lo := 300) (hi := 3600) rfl rfl (by simp), Int.toNat_natCast]
    refine heat_row hears free (.inl rfl) hn ?_ (fun j hj _ other => ?_) ?_
    · rw [holds, ← clamp]
      rfl
    · rw [holds]
      interval_cases j <;> first | rfl | contradiction
    · rw [Finset.sum_pair (by decide), if_pos (rfl : 6 = 6)]
      simp [DefrostParams.get]
  · rw [if_neg (by decide)] at holds
    have clamp : (paramClamp 7 7 (n : Int)).toNat = max 600 (min 5400 n) := by
      rw [paramClamp_nat (lo := 600) (hi := 5400) rfl rfl (by simp), Int.toNat_natCast]
    refine heat_row hears free (.inr rfl) hn ?_ (fun j hj _ other => ?_) ?_
    · rw [holds, ← clamp]
      rfl
    · rw [holds]
      interval_cases j <;> first | rfl | contradiction
    · have kept : p.targetheat = s.tables.defrost.targetheat := by rw [holds]
      rw [Finset.sum_pair (by decide), if_neg (show ¬(7 = 6) by decide)]
      simp [DefrostParams.get, kept]

end

end Sys2Proof.Machine
end


section
/-! PROOF. A write of one parameter that has an owner: the volume and the time of a fill, FLOWK, the filter (R55, R63,
R77, R187, R188). -/

namespace Sys2Proof.Machine

section
variable {s : State} {dt i n : Nat} {b0 b1 b2 : Byte}

/-! ### The volume and the time of a fill -/

/-- A write of FILLVOL or FILLMAX, by what the owner does. -/
theorem iceFill_row {y : Nat} {v : State} (hears : s.hears) (free : s.restartPending = false)
    (hn : n = numberOf [b0, b1, b2]) (hi : i = 0 ∨ i = 1) (clamp : paramClamp 8 i (n : Int) = (y : Int))
    (owners : ownersAct 8 i 1 ((s.atCommand dt).setTables (s.tables.setParam 8 i (y : Int))) = v)
    (link : v.link = (s.atCommand dt).link) (now : v.now = s.now + dt) (own : v.ownAddress = s.ownAddress) :
    exec (.tableWrite dt [8, byteOf i, b0, b1, b2]) s =
      .next (v.setLink (s.repliedLink dt 0x82 [0, if y = n then 0 else 1])) := by
  have inside : i < 15 := by omega
  have unsigned : (paramRange 8 i).signed = false := by rcases hi with rfl | rfl <;> rfl
  have unordered : s.tables.written 8 i 1 (fun _ => (n : Int)) = s.tables.setParam 8 i (paramClamp 8 i n) := by
    rcases hi with rfl | rfl <;> rfl
  exact unordered_row hears free (by decide) (by decide) inside (fun six => by cases six) unsigned hn clamp unordered
    owners link now own

theorem fillvol_clamp (n : Nat) : paramClamp 8 0 (n : Int) = ((max 50 (min 250 n) : Nat) : Int) :=
  paramClamp_nat rfl rfl (by simp)

theorem fillmax_clamp (n : Nat) : paramClamp 8 1 (n : Int) = ((max 2 (min 30 n) : Nat) : Int) :=
  paramClamp_nat rfl rfl (by simp)

theorem fillvol_count (n : Nat) :
    (if max 50 (min 250 n) = n then 0 else 1 : Byte) = if 50 ≤ n ∧ n ≤ 250 then 0 else 1 :=
  if_congr (by omega) rfl rfl

theorem fillmax_count (n : Nat) : (if max 2 (min 30 n) = n then 0 else 1 : Byte) = if 2 ≤ n ∧ n ≤ 30 then 0 else 1 :=
  if_congr (by omega) rfl rfl

theorem fillUnused_one (hears : s.hears) (free : s.restartPending = false) (hn : n = numberOf [b0, b1, b2])
    (unused : s.ice.st.inFill = false) :
    exec (.tableWrite dt [8, 0, b0, b1, b2]) s = .next { s.replied dt 0x82 [0, if 50 ≤ n ∧ n ≤ 250 then 0 else 1] with
      tables := { s.tables with ice := { s.tables.ice with fillvol := max 50 (min 250 n) } } } ∧
    exec (.tableWrite dt [8, 1, b0, b1, b2]) s = .next { s.replied dt 0x82 [0, if 2 ≤ n ∧ n ≤ 30 then 0 else 1] with
      tables := { s.tables with ice := { s.tables.ice with fillmax := max 2 (min 30 n) } } } := by
  have volume := iceFill_row (dt := dt) hears free hn (.inl rfl) (fillvol_clamp n)
    (ownersAct_eight 0 1 _ fun _ => unused) rfl rfl rfl
  have time := iceFill_row (dt := dt) hears free hn (.inr rfl) (fillmax_clamp n)
    (ownersAct_eight 1 1 _ fun _ => unused) rfl rfl rfl
  rw [fillvol_count] at volume
  rw [fillmax_count] at time
  exact ⟨volume, time⟩

/-- A write of FILLVOL or FILLMAX that completes the fill (R51, R77, R79, R80). -/
theorem fillCompletes_row {y : Nat} (hears : s.hears) (free : s.restartPending = false)
    (hn : n = numberOf [b0, b1, b2]) (hi : i = 0 ∨ i = 1) (clamp : paramClamp 8 i (n : Int) = (y : Int))
    (fills : s.line.st = .fill)
    (owners : ownersAct 8 i 1 ((s.atCommand dt).setTables (s.tables.setParam 8 i (y : Int))) =
      fillSuccess ((s.atCommand dt).setTables (s.tables.setParam 8 i (y : Int)))) :
    ∃ t, exec (.tableWrite dt [8, byteOf i, b0, b1, b2]) s = .next t ∧
      t.tables = s.tables.setParam 8 i (y : Int) ∧
      t.ice.st = .freeze ∧ t.ice.faultCount = 0 ∧ t.line.st = .idle ∧ t.line.lastClosed = some .iv ∧
      t.line.closeAt = s.now + dt ∧ t.obs = s.obs ∧
      t.link = s.repliedLink dt 0x82 [0, if y = n then 0 else 1] := by
  obtain ⟨line, -, now, st, -, -, count, link, ⟨-, -, own, tables, -⟩, ⟨obs, -, -⟩⟩ := fillSuccess_closes
    (s := (s.atCommand dt).setTables (s.tables.setParam 8 i (y : Int))) fills
  refine ⟨_, iceFill_row hears free hn hi clamp owners link now own, tables, st, count, ?_, ?_, ?_, obs, rfl⟩
  · exact (congrArg Line.st line).trans rfl
  · exact (congrArg Line.lastClosed line).trans rfl
  · exact (congrArg Line.closeAt line).trans rfl

theorem fillVolume_one (hears : s.hears) (free : s.restartPending = false) (hn : n = numberOf [b0, b1, b2])
    (flowing : s.ice.st = .fill .flowing) (opened : s.ice.opened = true) (fills : s.line.st = .fill)
    (metered : s.line.flowk ≠ 0) (full : max 50 (min 250 n) ≤ s.line.fillTally * 1000 / s.line.flowk) :
    ∃ t, exec (.tableWrite dt [8, 0, b0, b1, b2]) s = .next t ∧ t.tables.ice.fillvol = max 50 (min 250 n) ∧
      t.ice.st = .freeze ∧ t.ice.faultCount = 0 ∧ t.line.st = .idle ∧ t.line.lastClosed = some .iv ∧
      t.line.closeAt = s.now + dt ∧ t.obs = s.obs ∧
      t.link = s.repliedLink dt 0x82 [0, if 50 ≤ n ∧ n ≤ 250 then 0 else 1] := by
  have inFill : s.ice.st.inFill = true := by rw [flowing]; rfl
  have volume : max 50 (min 250 n) ≤ State.fillVolume ((s.atCommand dt).setTables
      (s.tables.setParam 8 0 ((max 50 (min 250 n) : Nat) : Int))) :=
    full.trans_eq (fillVolume_metered (s := (s.atCommand dt).setTables _) metered).symm
  obtain ⟨t, run, tables, rest⟩ := fillCompletes_row (dt := dt) hears free hn (.inl rfl) (fillvol_clamp n) fills
    (fillVolumeTest_ends (u := (s.atCommand dt).setTables _) inFill opened volume)
  rw [fillvol_count] at rest
  exact ⟨t, run, by rw [tables]; rfl, rest⟩

theorem fillTime_one (hears : s.hears) (free : s.restartPending = false) (hn : n = numberOf [b0, b1, b2])
    (flowing : s.ice.st = .fill .flowing) (fills : s.line.st = .fill) (metered : s.line.flowk ≠ 0)
    (quarter : s.tables.ice.fillvol / 4 ≤ s.line.fillTally * 1000 / s.line.flowk)
    (late : max 2 (min 30 n) * 1000 ≤ s.ice.elapsed + (s.now + dt - s.line.openedAt) / Config.tickMs) :
    ∃ t, exec (.tableWrite dt [8, 1, b0, b1, b2]) s = .next t ∧ t.tables.ice.fillmax = max 2 (min 30 n) ∧
      t.ice.st = .freeze ∧ t.ice.faultCount = 0 ∧ t.line.st = .idle ∧ t.line.lastClosed = some .iv ∧
      t.line.closeAt = s.now + dt ∧ t.obs = s.obs ∧
      t.link = s.repliedLink dt 0x82 [0, if 2 ≤ n ∧ n ≤ 30 then 0 else 1] := by
  have inFill : s.ice.st.inFill = true := by rw [flowing]; rfl
  obtain ⟨u, hu⟩ : ∃ u, u = (s.atCommand dt).setTables (s.tables.setParam 8 1 ((max 2 (min 30 n) : Nat) : Int)) :=
    ⟨_, rfl⟩
  have elapsed : max 2 (min 30 n) * 1000 ≤ u.fillElapsed := by
    rw [hu]
    exact late.trans_eq (if_pos ⟨fills, flowing⟩ : State.fillElapsed ((s.atCommand dt).setTables _) = _).symm
  have volume : s.tables.ice.fillvol / 4 ≤ u.fillVolume := by
    rw [hu]
    exact quarter.trans_eq (fillVolume_metered (s := (s.atCommand dt).setTables _) metered).symm
  have ends : fillTimeTest u = fillSuccess u := by
    subst hu
    exact (if_pos (by rw [Bool.and_eq_true]; exact ⟨inFill, decide_eq_true elapsed⟩)).trans
      (endFillByTime_succeeds (.inr volume))
  subst hu
  obtain ⟨t, run, tables, rest⟩ := fillCompletes_row (dt := dt) hears free hn (.inr rfl) (fillmax_clamp n) fills ends
  rw [fillmax_count] at rest
  exact ⟨t, run, by rw [tables]; rfl, rest⟩

/-! ### FLOWK and the filter -/

theorem flowk_one (hears : s.hears) (free : s.restartPending = false) (hn : n = numberOf [b0, b1, b2]) {k : Nat}
    (held : k = (if n = 0 then 0 else max 300 (min 5000 n))) :
    exec (.tableWrite dt [9, 0, b0, b1, b2]) s = .next { s.replied dt 0x82 [0, if k = n then 0 else 1] with
      tables := { s.tables with water := { s.tables.water with flowk := k } }
      line := { s.line with flowk := if s.mode = .loading then k else s.line.flowk } } := by
  have clamp : paramClamp 9 0 (n : Int) = (k : Int) := by
    by_cases zero : n = 0
    · rw [held, if_pos zero, zero]
      exact paramClamp_flowk
    · rw [held, if_neg zero]
      exact paramClamp_nat rfl rfl fun k => zero k.2.2
  have acts : ownersAct 9 0 1 ((s.atCommand dt).setTables (s.tables.setParam 9 0 (k : Int))) =
      ((s.atCommand dt).setTables (s.tables.setParam 9 0 (k : Int))).setLine
        { s.line with flowk := if s.mode = .loading then k else s.line.flowk } := by
    rw [ownersAct_nine 0 1 _ (Nat.le_refl 1), if_neg (show ¬(0 ≤ 12 ∧ 11 < 0 + 1) by decide),
      if_congr (and_iff_right (rfl : 0 = 0)) rfl rfl]
    rfl
  exact unordered_row hears free (by decide) (by decide) (show 0 < 15 by decide) (fun six => by cases six) rfl hn clamp rfl
    acts rfl rfl rfl

/-- A write of FILTERCAP or FILTERWARN: the filter state is taken again (R63). -/
theorem filter_row {y : Nat} {w : WaterParams} (hears : s.hears) (free : s.restartPending = false)
    (hn : n = numberOf [b0, b1, b2]) (hi : i = 11 ∨ i = 12) (clamp : paramClamp 9 i (n : Int) = (y : Int))
    (stored : s.tables.setParam 9 i (y : Int) = { s.tables with water := w }) :
    exec (.tableWrite dt [9, byteOf i, b0, b1, b2]) s = .next { s.replied dt 0x82 [0, if y = n then 0 else 1] with
      tables := { s.tables with water := w }
      line := { s.line with
        filterState := if w.filtercap ≤ s.line.filterTotal / 1000 then .expired
                       else if w.filtercap ≤ s.line.filterTotal / 1000 + w.filterwarn then .due else .good } } := by
  have unsigned : (paramRange 9 i).signed = false := by rcases hi with rfl | rfl <;> rfl
  have unordered : s.tables.written 9 i 1 (fun _ => (n : Int)) = s.tables.setParam 9 i (paramClamp 9 i n) := by
    rcases hi with rfl | rfl <;> rfl
  have acts : ownersAct 9 i 1 ((s.atCommand dt).setTables { s.tables with water := w }) =
      ((s.atCommand dt).setTables { s.tables with water := w }).setLine
        { s.line with filterState := filterStateFor w s.line.filterTotal } := by
    rw [ownersAct_nine i 1 _ (Nat.le_refl 1), if_neg (show ¬(i = 0 ∧ _) by omega), if_pos (by omega)]
    rfl
  rw [← stored] at acts
  have row := unordered_row hears free (by decide) (by decide) (show i < 15 by omega) (fun six => by cases six) unsigned hn
    clamp unordered acts rfl rfl rfl
  rw [stored] at row
  exact row

theorem filter_one (hears : s.hears) (free : s.restartPending = false) (hn : n = numberOf [b0, b1, b2])
    {w : WaterParams} (hi : i = 11 ∨ i = 12)
    (holds : w = (if i = 11 then { s.tables.water with filtercap := max 100 (min 10000 n) }
                  else { s.tables.water with filterwarn := min 1000 n })) :
    exec (.tableWrite dt [9, byteOf i, b0, b1, b2]) s = .next { s.replied dt 0x82
        [0, if (if i = 11 then w.filtercap else w.filterwarn) = n then 0 else 1] with
      tables := { s.tables with water := w }
      line := { s.line with
        filterState := if w.filtercap ≤ s.line.filterTotal / 1000 then .expired
                       else if w.filtercap ≤ s.line.filterTotal / 1000 + w.filterwarn then .due else .good } } := by
  refine filter_row hears free hn hi ?_ ?_
  · rcases hi with rfl | rfl
    · rw [holds]
      exact paramClamp_nat rfl rfl (by simp)
    · rw [holds]
      exact (paramClamp_nat rfl rfl (by simp)).trans (by rw [Nat.zero_max]; rfl)
  · rcases hi with rfl | rfl
    · rw [holds]
      rfl
    · rw [holds]
      rfl

end

end Sys2Proof.Machine
end


section
/-! PROOF. A table write stores (O30): the entries of each table, one and several (R187, R188). -/

namespace Sys2Proof.Machine

section
variable {s : State} {table start n : Nat} {data : List Byte}

/-- A write of several entries, in LOADING where the table is locked. -/
theorem Write.ofEntries (hears : s.hears) (free : s.restartPending = false) (some : 1 ≤ n) {size : Nat}
    (known : 1 ≤ table ∧ table ≤ 9) (bytes : entryBytes table = size) (length : data.length = size * n)
    (short : size * n ≤ 22) (inside : start + n ≤ tableEntries table)
    (unlocked : lockedInRunning table start = true → s.mode = .loading) : Write s table start n data where
  hears := hears
  free := free
  known := known
  some := some
  length := by rw [bytes, length]
  short := by rw [length]; exact short
  inside := inside
  unlocked := unlocked

theorem entryBytes_params (h6 : 6 ≤ table) (h9 : table ≤ 9) : entryBytes table = 3 := by
  obtain rfl | rfl | rfl | rfl := paramTable_cases h6 h9 <;> rfl

/-- Of the parameter tables only BUDGET is locked in RUNNING. -/
theorem lockedInRunning_params (h6 : 6 ≤ table) (locked : lockedInRunning table start = true) :
    table = 6 ∧ start = 0 := by
  simp only [lockedInRunning, Bool.or_eq_true, Bool.and_eq_true, decide_eq_true_iff] at locked
  omega

theorem clampedValue_eq {raw base : Nat → Int} {t : Tables} (clamps : ∀ j, base j =
    if start ≤ j ∧ j < start + n then paramClamp table j (raw j) else t.param table j) :
    clampedValue table start n raw (t.param table) = base :=
  funext fun j => (clamps j).symm

end

/-! ### The ranges -/

/-- The ranges of a parameter table's numbers, in their order. -/
def rangeRows (table : Nat) : List (Nat × Nat × Int × Int) :=
  (List.range (tableEntries table)).map fun i => (table, i, (paramRange table i).lo, (paramRange table i).hi)

theorem mem_rangeRows {table tb i : Nat} {lo hi : Int} (h : (tb, i, lo, hi) ∈ rangeRows table) :
    lo = (paramRange tb i).lo ∧ hi = (paramRange tb i).hi := by
  obtain ⟨j, -, row⟩ := List.mem_map.mp h
  simp only [Prod.mk.injEq] at row
  obtain ⟨rfl, rfl, low, high⟩ := row
  exact ⟨low.symm, high.symm⟩

theorem paramClamp_listed {table i : Nat} {lo hi v : Int}
    (listed : (table, i, lo, hi) ∈ rangeRows 6 ++ rangeRows 7 ++ rangeRows 8 ++ rangeRows 9)
    (nonzero : table = 9 → i = 0 → v ≠ 0) : paramClamp table i v = max lo (min hi v) := by
  have range : lo = (paramRange table i).lo ∧ hi = (paramRange table i).hi := by
    simp only [List.mem_append] at listed
    rcases listed with ((h | h) | h) | h <;> exact mem_rangeRows h
  rw [paramClamp_eq fun k => nonzero k.1 k.2.1 k.2.2, range.1, range.2]
  rfl

/-- Settles O30: a write of one entry and of one parameter by the rows above, of several by `Write.parameters` and the
rows of the tables. -/
theorem tableWriteStores : Obligations.TableWriteStores := by
  refine ⟨fun s dt i n b0 b1 b2 hears free hn => ?_, fun s dt start n count data b hears free some bytes => ?_,
    fun s dt table start n count data raw base value hears free h6 h9 some most length inside unlocked noFill high raws
      clamps ordered counted => ?_,
    fun table i lo hi v listed nonzero => paramClamp_listed listed nonzero, paramClamp_flowk, paramOfBytes_eq⟩
  · refine ⟨fun data e hi size length entry => route_one hears free hi size length entry,
      fun data written length number => doorSet_one hears free length number,
      fun b3 q raw sel hi loading sizeA sizeB selected number point =>
        curve_one hears free hi loading sizeA sizeB selected number point,
      fun b3 b4 e hi loading selects below above => chanMap_one hears free hi loading selects below above,
      fun hi loading => load_one hears free hi loading,
      fun table lo hi listed unlocked => unsigned_one hears free hn listed unlocked,
      fun table lo hi v listed number => signed_one hears free hn listed number,
      fun g c hi holds counted => relay_one hears free hn hi holds counted,
      fun k e kind entry => staleLimit_one hears free hn kind entry,
      fun p hi holds => heat_one hears free hn hi holds,
      fun lo hi v listed number => ice_one hears free hn listed number,
      fun unused => fillUnused_one hears free hn unused,
      fun flowing opened fills metered full => fillVolume_one hears free hn flowing opened fills metered full,
      fun flowing fills metered quarter late => fillTime_one hears free hn flowing fills metered quarter late,
      fun k held => flowk_one hears free hn held,
      fun w hi holds => filter_one hears free hn hi holds,
      fun t table v h6 h9 hi number => ?_⟩
    have stored : storable table i v := number.symm.imp_left (signedParam_iff table i).mpr
    obtain ⟨entry, others⟩ := entryAt_setParam h6 h9 hi t stored
    exact ⟨entry, others, rfl, rfl, rfl, rfl⟩
  · refine ⟨fun R length most inside size sizeR entries => ?_,
      fun A B temp length most inside loading sizeA sizeB lengthA _ temps points counted => ?_,
      fun M T length inside loading written others counted => ?_,
      fun L length inside loading written counted => ?_⟩
    · exact routes_row (.ofEntries (size := 8) hears free some (by decide) rfl length (by omega) inside
        fun k => by cases k) size sizeR entries
    · exact curves_row (.ofEntries (size := 4) hears free some (by decide) rfl length (by omega) inside
        fun _ => loading) bytes sizeA sizeB lengthA temps points counted
    · exact chanMap_row (.ofEntries (size := 5) hears free some (by decide) rfl length (by omega) inside
        fun _ => loading) bytes written others counted
    · exact load_row (.ofEntries (size := 3) hears free some (by decide) rfl length (by omega) inside
        fun _ => loading) bytes written counted
  · have w : Write s table start n data := .ofEntries hears free some ⟨by omega, h9⟩ (entryBytes_params h6 h9) length
      (by omega) inside fun locked => by
        obtain ⟨six, zero⟩ := lockedInRunning_params h6 locked
        exact unlocked six zero
    refine w.parameters h6 noFill high raws (fun j _ => ?_) counted
    rw [clampedValue_eq clamps, orderedValue_eq some, ordered j]

end Sys2Proof.Machine
end
